-- ==== Sys2Proof/Word.lean ====
section
/-! DEFINITION. The register word of the K64 (00_scope.md, Notation: registers are 64 bits) and its plainest arithmetic. -/

namespace Sys2Proof

/-- A 64-bit register word (00, Notation). -/
abbrev Word := BitVec 64

/-- A byte of memory. -/
abbrev Byte := BitVec 8

/-- A 16-bit vector lane (05 R183). -/
abbrev Lane := BitVec 16

/-- A 32-bit accumulator element, the bits of a binary32 (03 R86). -/
abbrev F32 := BitVec 32

end Sys2Proof
end

