-- ==== Sys2Proof/Operand.lean ====
section
/-! DEFINITION. The operand types of the commands that are more than a number. -/

namespace Sys2Proof

/-- Which side of an open site's link sends a message of the Brulik layer (12 R427). -/
inductive Bml where
  /-- The hub sends; `a` and `b` name what it sends, per row. -/
  | hub (a b : Nat) (data : List Byte)
  /-- The guest's message, in its 8-byte words. -/
  | guest (ws : List Word)
  deriving DecidableEq, Repr

/-- The eye of a pin at the timing and voltage point that training chose: width in hundredths of a unit interval, height in
mV (08 R283). -/
structure Eye where
  pin : Nat
  ui : Nat
  mv : Nat
  deriving DecidableEq, Repr

/-- The pin fails (08 R283). -/
def Eye.fails (e : Eye) : Bool := decide (e.ui < 30 ∨ e.mv < 45)

/-- What self-test and training of the sites find in step C7 (16 R538, R547, R641). A unit that is not listed is sound. -/
structure Training where
  /-- Failed bond lanes: 2,048 × (64 × direction + site) + lane (17 R567). -/
  lanes : List Nat
  /-- Hub links: 4 × router + output port, width code (3: below quarter width), spare wires in use. -/
  links : List (Nat × Nat × Nat)
  /-- Hub-die temperature at a link's training, by 8 × router + output port, whole °C (11 R391). -/
  linkTemps : List (Nat × Nat)
  /-- Physical cores whose tile router failed (02 R44). -/
  routers : List Nat
  /-- Waveguides: number, wavelengths in service, temperature. -/
  guides : List (Nat × Nat × Nat)
  /-- Channels: 136 × stack + physical channel, the eyes of its pins; a pin that is not listed is sound. None: a path of the
  channel does not train. -/
  chans : List (Nat × Option (List Eye))
  /-- Stack layers that do not train: stack, layer (16: the spare layer). -/
  layers : List (Nat × Nat)
  /-- Logic-base temperatures of the stacks, whole °C. -/
  temps : List (Nat × Nat)
  /-- Tiles whose logic outside the cores failed; physical cores that failed; host and peer sites that failed. -/
  tiles : List Nat
  cores : List Nat
  ports : List Nat
  /-- Working lanes of the peer ports, and the laser power that each of their lanes receives (19 R636). -/
  peers : List Nat
  laser : List (List Nat)
  deriving DecidableEq, Repr

/-- What the sensors show in one sample, as signed 16-bit numbers of 1/64 °C (18 R609). -/
structure Readings where
  /-- Hottest valid sensor of a compute, host or peer tile; of the hub under a site. -/
  site : List (Nat × Nat)
  hub : List (Nat × Nat)
  /-- By stack: each physical layer's hotter sensor, from layer 0 up; the hottest sensor of the logic base. -/
  layers : List (Nat × List Nat)
  base : List (Nat × Nat)
  /-- Sensors that fail their check now, and kinds of sites without a valid sensor: 4 × site + kind; kind 0 site, 1 stack,
  2 hub (18 R615). -/
  failed : List Nat
  none_ : List Nat
  deriving DecidableEq, Repr

/-- What the host's translation agent returned for the host pages of one access: the pages with a usable translation, and
those whose translated request the host then answered with an error (09 R332; 13 R476). -/
structure Translations where
  got : List Nat
  refused : List Nat
  deriving DecidableEq, Repr

/-- A read of a register or, by a control core, of a word past its caches: where, what an O-space window answers (00 R11; 07
R228), and whether two bits of the hub SRAM word that is read have been upset (07 R256; 17 R563). -/
structure RegisterLook where
  off : Nat
  odata : List Byte
  upset : Bool
  deriving DecidableEq, Repr

/-- An answer that reaches its requester: its message, and whether the payload was lost on the way (11 R386). -/
structure Landing where
  id : Nat
  lost : Bool
  deriving DecidableEq, Repr

/-- The words of a queue entry as the host returns them, and the host's answers to its translation (13 R468; 09 R332). -/
structure FetchedEntry where
  words : List Word
  pages : Option Translations
  deriving DecidableEq, Repr

/-- The completion that is written, by its command, and the host's answers to its translation (13 R470; 09 R332). -/
structure EntryWrite where
  id : Nat
  pages : Option Translations
  deriving DecidableEq, Repr

/-- The working lanes of a peer port, and the laser power that each lane receives (19 R636, R637). -/
structure LaneReport where
  lanes : Nat
  power : List Nat
  deriving DecidableEq, Repr

end Sys2Proof
end

