-- ==== Sys2Proof/Syntax.lean ====
section
/-! DEFINITION. The commands of the K64: one constructor per row of the opcode table, with the row's operands. A core's
instruction names the logical core that issues it. What only the world outside the package decides (a count, a reading,
the contents of host memory, a guest's message, which lanes are faulty) is an operand. -/

namespace Sys2Proof

inductive Instr where
  /-- REGISTER_WRITE (R10). A write to a register that has no row of its own stores the writable fields under their
   access codes, ignores reserved fields and read-only fields, and completes. -/
  | registerWrite (agent off : Nat) (w : Word) (ok : Bool)
  /-- RS_REGISTER_READ (R11). A read of an RS field returns its value and clears it in the same access; an event in
   the same cycle counts into the cleared field. -/
  | rsRegisterRead (agent : Nat) (x : RegisterLook)
  /-- AUX_POWER_ON (R538). AUX_3V3 reaches regulation and CD0 leaves power-on reset on the internal oscillator (step
   C0). -/
  | auxPowerOn (record dies : List Word) (slot : Nat)
  /-- CRYSTAL_QUALIFY_WINDOW (R536). A window of 40,000 internal-oscillator cycles ends and its crystal count is
   judged; after 8 good windows CD0 moves to the crystal. -/
  | crystalQualifyWindow (n : Nat)
  /-- CRYSTAL_QUALIFY_TIMEOUT (R536). The crystal is not stable within 50 ms of C0 and Crocus enters CD0 hold with
   cause 0x03. -/
  | crystalQualifyTimeout
  /-- CRYSTAL_MONITOR_WINDOW (R537). A 1 ms monitor window ends; a count outside 38,800 to 41,200 marks the crystal
   lost, giving CD0 hold before ready or the safe state after it. -/
  | crystalMonitorWindow (n : Nat)
  /-- PWRGD_RISE (R534). PWRGD and RST_N read high and Crocus leaves step C3 to bring up the hub regulators. -/
  | pwrgdRise (phases straps : List Nat)
  /-- PWRGD_FALL (R535). PWRGD falls; Crocus stops every domain other than CD0 within 10 µs and leaves the stacks
   refreshing. -/
  | pwrgdFall
  /-- STRAP_VALUE_RECEIVED (R22). A hub die receives its neighbour's strap value across its Ed or Sd seam and
   compares it with the expected value. -/
  | strapValueReceived (k v : Nat) (south : Bool)
  /-- STRAP_CHECK_TIMEOUT (R23). No neighbour strap arrives within 1 ms of power-on, and Crocus stops before the hub
   network starts. -/
  | strapCheckTimeout
  /-- HUB_RELEASE_AND_SELF_TEST (R538). Step C4 ends: CD1 to CD4, CD24 and the control complex are released, hub
   self-test runs and the fuse and repair maps are restored (step C5). -/
  | hubReleaseAndSelfTest (hub sec : Bool) (cores : Nat) (logok : Bool)
  /-- IMAGE_VERIFY (R541). Step C5 ends: Crocus reads the firmware image, checks header, key, signature, digest and
   security version, and loads it or enters recovery mode (step C6). -/
  | imageVerify (flash : Option (List Byte))
  /-- SITE_RELEASE_AND_TRAIN (R538). Step C5 ends: CD5 to CD23 are released in waves and tiles, sites, stacks, links
   and waveguides are self-tested and trained (step C7). -/
  | siteReleaseAndTrain (x : Training)
  /-- BRINGUP_ZERO_FILL (R538). Step C7 ends: every burst of every in-service stack is written as a zero burst and
   every scratchpad is cleared (step C8). -/
  | bringupZeroFill
  /-- BRINGUP_KNOWN_ANSWER (R538). Step C8 ends: the known-answer test runs on every core's primary and shadow lanes
   and vector unit (step C9). -/
  | bringupKnownAnswer (bad : List Nat)
  /-- FIRMWARE_START (R538). Steps C6 and C9 have ended and the control cores start at the image entry (step C10). -/
  | firmwareStart
  /-- FWREADY (R548). Firmware writes BOOT_CTL.fwready; Crocus sets mode ready, releases FAULT_N, writes BOOT_TIME
   and raises event 0x82. -/
  | fwready (w : Word)
  /-- FWREADY_TIMEOUT (R548). Firmware has not written fwready within 300 ms of its start and the package enters the
   safe state with cause 0x0E. -/
  | fwreadyTimeout
  /-- CONFIG_RETRY_TIMEOUT (R549). 900 ms after PERST_N deassertion a host tile stops answering configuration
   requests with Request Retry Status. -/
  | configRetryTimeout (q : Nat)
  /-- PWR_CAP_WRITE (R30). Firmware writes SITE_CFGn.pwr_cap; the value is clamped to half and full class budget and
   takes effect at the next tick boundary. -/
  | pwrCapWrite (n : Nat) (w : Word)
  /-- OPEN_SITE_CURRENT_LIMIT (R32). A guest chiplet draws at its current limit for more than 1 ms without
   interruption and the hub isolates the site with cause 0x5. -/
  | openSiteCurrentLimit (k : Nat)
  /-- CORE_REMAP (R45). Larkspur fences a failed logical core, stops its task, writes the row spare into
   TILE_REMAPy, clears the spare, lifts the fence and reports. -/
  | coreRemap (c : Nat) (fin : Bool)
  /-- SCRATCHPAD_SCRUB_STEP (R51). Every 256 cycles the scrubber reads one word in each bank, corrects single-bit
   errors and reports uncorrectable words as poison. -/
  | scratchpadScrubStep (c : Nat) (errs : List (Nat × Bool))
  /-- SCRATCHPAD_CORRECT_WRITEBACK (R50). A word read with a single-bit error is written back corrected in its bank
   within 4 cycles. -/
  | scratchpadCorrectWriteback (c o : Nat)
  /-- ADD (R126). ALU fn 0x001 writes s[a] + s[b] to s[d]. -/
  | add (c : Nat) (d a b : Fin 32)
  /-- SUB (R126). ALU fn 0x002 writes s[a] − s[b] to s[d]. -/
  | sub (c : Nat) (d a b : Fin 32)
  /-- AND (R126). ALU fn 0x003 writes the bitwise AND of s[a] and s[b]. -/
  | and (c : Nat) (d a b : Fin 32)
  /-- OR (R126). ALU fn 0x004 writes the bitwise OR of s[a] and s[b]. -/
  | or (c : Nat) (d a b : Fin 32)
  /-- XOR (R126). ALU fn 0x005 writes the bitwise XOR of s[a] and s[b]. -/
  | xor (c : Nat) (d a b : Fin 32)
  /-- SHL (R126). ALU fn 0x006 shifts s[a] left by s[b] bits [5:0]. -/
  | shl (c : Nat) (d a b : Fin 32)
  /-- SHR (R126). ALU fn 0x007 shifts s[a] right with zero fill. -/
  | shr (c : Nat) (d a b : Fin 32)
  /-- SRA (R126). ALU fn 0x008 shifts s[a] right with sign fill. -/
  | sra (c : Nat) (d a b : Fin 32)
  /-- SLT (R126). ALU fn 0x009 writes 1 when s[a] is less than s[b] signed, else 0. -/
  | slt (c : Nat) (d a b : Fin 32)
  /-- MIN (R126). ALU fn 0x00A writes the signed minimum. -/
  | min (c : Nat) (d a b : Fin 32)
  /-- MAX (R126). ALU fn 0x00B writes the signed maximum. -/
  | max (c : Nat) (d a b : Fin 32)
  /-- MINU (R126). ALU fn 0x00C writes the unsigned minimum. -/
  | minu (c : Nat) (d a b : Fin 32)
  /-- MAXU (R126). ALU fn 0x00D writes the unsigned maximum. -/
  | maxu (c : Nat) (d a b : Fin 32)
  /-- MUL (R126). ALU fn 0x00E writes the low 64 bits of s[a] × s[b]. -/
  | mul (c : Nat) (d a b : Fin 32)
  /-- MULH (R126). ALU fn 0x00F writes the high 64 bits of the signed product. -/
  | mulh (c : Nat) (d a b : Fin 32)
  /-- MULHU (R126). ALU fn 0x010 writes the high 64 bits of the unsigned product. -/
  | mulhu (c : Nat) (d a b : Fin 32)
  /-- POPC (R126). ALU fn 0x011 writes the count of 1 bits in s[a]. -/
  | popc (c : Nat) (d a : Fin 32)
  /-- CLZ (R126). ALU fn 0x012 writes the count of leading zeros of s[a]. -/
  | clz (c : Nat) (d a : Fin 32)
  /-- CTZ (R126). ALU fn 0x013 writes the count of trailing zeros of s[a]. -/
  | ctz (c : Nat) (d a : Fin 32)
  /-- SLTU (R126). ALU fn 0x014 writes 1 when s[a] is less than s[b] unsigned, else 0. -/
  | sltu (c : Nat) (d a b : Fin 32)
  /-- ADDI (R127). Writes s[a] + sext(imm16) to s[d]. -/
  | addi (c : Nat) (d a : Fin 32) (imm : BitVec 16)
  /-- ANDI (R127). Writes s[a] AND zext(imm16) to s[d]. -/
  | andi (c : Nat) (d a : Fin 32) (imm : BitVec 16)
  /-- ORI (R127). Writes s[a] OR zext(imm16) to s[d]. -/
  | ori (c : Nat) (d a : Fin 32) (imm : BitVec 16)
  /-- XORI (R127). Writes s[a] XOR zext(imm16) to s[d]. -/
  | xori (c : Nat) (d a : Fin 32) (imm : BitVec 16)
  /-- SLTI (R127). Writes 1 when s[a] is less than sext(imm16) signed. -/
  | slti (c : Nat) (d a : Fin 32) (imm : BitVec 16)
  /-- SLTIU (R127). Writes 1 when s[a] is less than zext(imm16) unsigned. -/
  | sltiu (c : Nat) (d a : Fin 32) (imm : BitVec 16)
  /-- LUI (R127). Writes sext(imm16) shifted left 16 to s[d]. -/
  | lui (c : Nat) (d : Fin 32) (imm : BitVec 16)
  /-- INS32 (R127). Replaces bits [63:32] of s[a] with zext(imm16) and writes the result to s[d]. -/
  | ins32 (c : Nat) (d a : Fin 32) (imm : BitVec 16)
  /-- SHI (R127). Shifts s[a] by an immediate amount left, right with zero fill or right with sign fill. -/
  | shi (c : Nat) (d a : Fin 32) (kind : Fin 3) (amt : Fin 64)
  /-- LDB (R128). Loads a sign-extended byte from the core's scratchpad. -/
  | ldb (c : Nat) (d a : Fin 32) (imm : BitVec 16)
  /-- LDBU (R128). Loads a zero-extended byte from the core's scratchpad. -/
  | ldbu (c : Nat) (d a : Fin 32) (imm : BitVec 16)
  /-- LDH (R128). Loads a sign-extended 2-byte value. -/
  | ldh (c : Nat) (d a : Fin 32) (imm : BitVec 16)
  /-- LDHU (R128). Loads a zero-extended 2-byte value. -/
  | ldhu (c : Nat) (d a : Fin 32) (imm : BitVec 16)
  /-- LDW (R128). Loads a sign-extended 4-byte value. -/
  | ldw (c : Nat) (d a : Fin 32) (imm : BitVec 16)
  /-- LDWU (R128). Loads a zero-extended 4-byte value. -/
  | ldwu (c : Nat) (d a : Fin 32) (imm : BitVec 16)
  /-- LDD (R128). Loads an 8-byte value. -/
  | ldd (c : Nat) (d a : Fin 32) (imm : BitVec 16)
  /-- STB (R128). Stores the low byte of s[d] in the scratchpad. -/
  | stb (c : Nat) (d a : Fin 32) (imm : BitVec 16)
  /-- STH (R128). Stores the low 2 bytes of s[d]. -/
  | sth (c : Nat) (d a : Fin 32) (imm : BitVec 16)
  /-- STW (R128). Stores the low 4 bytes of s[d]. -/
  | stw (c : Nat) (d a : Fin 32) (imm : BitVec 16)
  /-- STD (R128). Stores all 8 bytes of s[d]. -/
  | std (c : Nat) (d a : Fin 32) (imm : BitVec 16)
  /-- BEQ (R131). Branches when s[a] equals s[b]. -/
  | beq (c : Nat) (a b : Fin 32) (off : BitVec 16)
  /-- BNE (R131). Branches when s[a] differs from s[b]. -/
  | bne (c : Nat) (a b : Fin 32) (off : BitVec 16)
  /-- BLT (R131). Branches when s[a] is less than s[b] signed. -/
  | blt (c : Nat) (a b : Fin 32) (off : BitVec 16)
  /-- BGE (R131). Branches when s[a] is greater than or equal to s[b] signed. -/
  | bge (c : Nat) (a b : Fin 32) (off : BitVec 16)
  /-- BLTU (R131). Branches when s[a] is less than s[b] unsigned. -/
  | bltu (c : Nat) (a b : Fin 32) (off : BitVec 16)
  /-- BGEU (R131). Branches when s[a] is greater than or equal to s[b] unsigned. -/
  | bgeu (c : Nat) (a b : Fin 32) (off : BitVec 16)
  /-- JAL (R131). Writes the next offset to s[d] and jumps by sext(off21) × 4. -/
  | jal (c : Nat) (d : Fin 32) (off : BitVec 21)
  /-- JALR (R131). Writes the next offset to s[d] and jumps to s[a] + sext(imm16). -/
  | jalr (c : Nat) (d a : Fin 32) (imm : BitVec 16)
  /-- SEND (R136). The sender checks the message word, reads the payload and injects it toward the message
   destination, occupying an outstanding entry. -/
  | send (c : Nat) (a b : Fin 32)
  /-- RECV (R137). The core sends a read request for length bytes at roff of the destination, to be written locally
   and counted. -/
  | recv (c : Nat) (a b : Fin 32)
  /-- ATOM_ADD (R138). Requests an indivisible add of s[b] to the remote word, returning the old word to s[d]. -/
  | atomAdd (c : Nat) (d a b : Fin 32)
  /-- ATOM_SWAP (R138). Requests an indivisible swap of s[b] into the remote word, returning the old word. -/
  | atomSwap (c : Nat) (d a b : Fin 32)
  /-- ATOM_CAS (R138). Requests an indivisible compare-and-swap of the remote word against s[d] with new value s[b].
   -/
  | atomCas (c : Nat) (d a b : Fin 32)
  /-- ATOM_OR (R138). Requests an indivisible OR of s[b] into the remote word, returning the old word. -/
  | atomOr (c : Nat) (d a b : Fin 32)
  /-- FENCE_S (R135). Stalls until no SEND, RECV or ATOM of the core is outstanding. -/
  | fenceS (c : Nat)
  /-- SEND_DELIVERED (R63). A SEND packet arrives at its destination core; the payload is written and the named
   counter advances by len, and an acknowledgement returns. -/
  | sendDelivered (id : Nat) (lost : Bool)
  /-- RECV_SERVE (R137). The destination's message unit reads the requested bytes and returns them to the requester.
   -/
  | recvServe (id : Nat) (lost : Bool)
  /-- RECV_DATA_ARRIVAL (R137). RECV data arrives at the requester, is written at s[b] and counted on the local
   counter. -/
  | recvDataArrival (x : Landing)
  /-- ATOM_APPLY (R138). The destination's message unit reads, changes and writes the 8-byte word as one indivisible
   step and returns the old word. -/
  | atomApply (id : Nat) (lost : Bool)
  /-- ATOM_RESULT_ARRIVAL (R138). The ATOM result returns and the old word is written to s[d]. -/
  | atomResultArrival (x : Landing)
  /-- SEND_ACK_ARRIVAL (R56). An acknowledgement returns to the sender and frees its outstanding entry. -/
  | sendAckArrival (id : Nat)
  /-- MESSAGE_ERROR_ARRIVAL (R62). A message-error returns to the sender, is recorded in CORE_MSGST and frees the
   outstanding entry; an exception follows at the next boundary. -/
  | messageErrorArrival (id : Nat)
  /-- WAITCNT (R144). Stalls until counter ck is at least s[a] bits [31:0], or raises counter-overflow. -/
  | waitcnt (c : Nat) (k : Fin 16) (a : Fin 32)
  /-- WAITCNTI (R142). Stalls until counter ck is at least 8 × n. -/
  | waitcnti (c : Nat) (k : Fin 16) (n : BitVec 16)
  /-- CNTRD (R142). Reads counter ck zero-extended into s[d]. -/
  | cntrd (c : Nat) (d : Fin 32) (k : Fin 16)
  /-- CNTWR (R142). Writes counter ck and clears its overflow flag. -/
  | cntwr (c : Nat) (k : Fin 16) (a : Fin 32)
  /-- CNTSUB (R143). Subtracts from counter ck, raising counter-underflow when the subtrahend exceeds it. -/
  | cntsub (c : Nat) (k : Fin 16) (a : Fin 32)
  /-- DMA_FILL (R147). Queues a checked descriptor that moves device-virtual data into a scratchpad of the issuing
   tile. -/
  | dmaFill (c : Nat) (a : Fin 32)
  /-- DMA_DRAIN (R147). Queues a checked descriptor that moves scratchpad data to a device virtual address. -/
  | dmaDrain (c : Nat) (a : Fin 32)
  /-- DMA_COPY (R147). Queues a checked descriptor that copies between two device virtual addresses. -/
  | dmaCopy (c : Nat) (a : Fin 32)
  /-- DMA_ZERO (R147). Queues a checked descriptor that zeroes a device virtual range. -/
  | dmaZero (c : Nat) (a : Fin 32)
  /-- FENCE_D (R148). Stalls until every DMA command of the core has completed or been refused. -/
  | fenceD (c : Nat)
  /-- DMA_EXTENT_CHECK (R316). The stack controller checks a command's whole extent against one snapshot of the
   context before any byte moves and admits or refuses it. -/
  | dmaExtentCheck (id : Nat)
  /-- DMA_CHUNK (R71). The stack controller advances one command by one 4 KiB chunk in round-robin order over cores
   with pending commands. -/
  | dmaChunk (t : Nat) (lost : Bool) (odata : List Byte)
  /-- DMA_COMPLETE (R72). A command's last byte is visible at its destination and the stack controller adds its byte
   count to the named counter. -/
  | dmaComplete (id : Nat)
  /-- MFSR (R133). Reads a special register into s[d], stalling where R169 or R211 require. -/
  | mfsr (c : Nat) (d : Fin 32) (n : BitVec 12)
  /-- MTSR (R133). Writes s[a] to a special register under its access codes and write checks. -/
  | mtsr (c : Nat) (a : Fin 32) (n : BitVec 12)
  /-- TBAR (R154). Stalls the core until every core of its group has reached the same-numbered barrier. -/
  | tbar (c : Nat)
  /-- TBAR_RELEASE (R154). After the last arrival every core of the group is released from the barrier. -/
  | tbarRelease (k : Nat)
  /-- TEND (R155). Stalls until messages and DMA of the core are done, then stops the core and reports to the tick
   sequencer. -/
  | tend (c : Nat)
  /-- ERET (R159). Returns from the handler to CORE_EPC and clears inh. -/
  | eret (c : Nat)
  /-- FENCE_I (R121). Discards the fetch buffer so later instructions are fetched anew. -/
  | fenceI (c : Nat)
  /-- CORE_STOP_REPORT (R160). A core that takes an unhandled exception freezes and reports; the sequencer
   discard-stops the group and parks the task with a fault record. -/
  | coreStopReport (c : Nat)
  /-- TMAC (R175). Issues a tensor multiply-accumulate after its strip, tail and pairing checks, capturing tails,
   into the tensor queue. -/
  | tmac (c : Nat) (tile : Fin 8) (a b : Fin 32) (z : Bool) (gov : Fin 4)
  /-- TENSOR_OP_COMPLETE (R103). The tensor unit finishes an operation, having made one block-end addition into each
   of its 512 accumulator elements. -/
  | tensorOpComplete (c : Nat) (shadow : List (Fin 8 × BitVec 32))
  /-- TZERO (R179). Sets every element of an accumulator tile to +0. -/
  | tzero (c : Nat) (tile : Fin 8)
  /-- TST (R179). Stores an accumulator tile as F32 in scratchpad. -/
  | tst (c : Nat) (tile : Fin 8) (a : Fin 32)
  /-- TLD (R180). Loads an accumulator tile from scratchpad, replacing infinities and NaNs. -/
  | tld (c : Nat) (tile : Fin 8) (a : Fin 32)
  /-- TROW (R179). Converts one accumulator row to F16 lanes of a vector register. -/
  | trow (c : Nat) (vd : Fin 16) (tile : Fin 8) (r : Fin 16) (stochastic : Bool)
  /-- TADDR (R181). Adds a vector register's lanes into one accumulator row. -/
  | taddr (c : Nat) (tile : Fin 8) (va : Fin 16) (r : Fin 16)
  /-- TADDM (R179). Adds an F32 tile from scratchpad into an accumulator tile. -/
  | taddm (c : Nat) (tile : Fin 8) (a : Fin 32)
  /-- VLD (R187). Loads 64 bytes from scratchpad into a vector register. -/
  | vld (c : Nat) (v : Fin 16) (a : Fin 32) (imm : BitVec 16)
  /-- VST (R187). Stores a vector register's 64 bytes to scratchpad. -/
  | vst (c : Nat) (v : Fin 16) (a : Fin 32) (imm : BitVec 16)
  /-- VADD_H (R184). Adds F16 lanes. -/
  | vaddH (c : Nat) (d a b : Fin 16)
  /-- VSUB_H (R184). Subtracts F16 lanes. -/
  | vsubH (c : Nat) (d a b : Fin 16)
  /-- VMUL_H (R184). Multiplies F16 lanes. -/
  | vmulH (c : Nat) (d a b : Fin 16)
  /-- VFMA_H (R184). Fused multiply-add of F16 lanes with one rounding. -/
  | vfmaH (c : Nat) (d a b e : Fin 16)
  /-- VMIN_H (R185). F16 lane minimum. -/
  | vminH (c : Nat) (d a b : Fin 16)
  /-- VMAX_H (R185). F16 lane maximum. -/
  | vmaxH (c : Nat) (d a b : Fin 16)
  /-- VABS_H (R185). Clears the sign bit of each lane. -/
  | vabsH (c : Nat) (d a : Fin 16)
  /-- VNEG_H (R185). Inverts the sign bit of each lane. -/
  | vnegH (c : Nat) (d a : Fin 16)
  /-- VRCP_H (R186). Correctly rounded reciprocal of F16 lanes. -/
  | vrcpH (c : Nat) (d a : Fin 16)
  /-- VRSQ_H (R186). Correctly rounded reciprocal square root of F16 lanes. -/
  | vrsqH (c : Nat) (d a : Fin 16)
  /-- VEXP2_H (R186). Correctly rounded 2^a of F16 lanes. -/
  | vexp2H (c : Nat) (d a : Fin 16)
  /-- VCLT_H (R185). F16 lane less-than mask. -/
  | vcltH (c : Nat) (d a b : Fin 16)
  /-- VCEQ_H (R185). F16 lane equality mask. -/
  | vceqH (c : Nat) (d a b : Fin 16)
  /-- VSEL (R184). Selects lanes of va or vb by the lanes of vc. -/
  | vsel (c : Nat) (d a b e : Fin 16)
  /-- VADD_I (R184). Adds I16 lanes modulo 2^16. -/
  | vaddI (c : Nat) (d a b : Fin 16)
  /-- VSUB_I (R184). Subtracts I16 lanes modulo 2^16. -/
  | vsubI (c : Nat) (d a b : Fin 16)
  /-- VAND (R184). Bitwise AND of lanes. -/
  | vand (c : Nat) (d a b : Fin 16)
  /-- VOR (R184). Bitwise OR of lanes. -/
  | vor (c : Nat) (d a b : Fin 16)
  /-- VXOR (R184). Bitwise XOR of lanes. -/
  | vxor (c : Nat) (d a b : Fin 16)
  /-- VSHL_I (R184). Shifts I16 lanes left. -/
  | vshlI (c : Nat) (d a b : Fin 16)
  /-- VSHR_I (R184). Shifts I16 lanes right with zero fill. -/
  | vshrI (c : Nat) (d a b : Fin 16)
  /-- VSRA_I (R184). Shifts I16 lanes right with sign fill. -/
  | vsraI (c : Nat) (d a b : Fin 16)
  /-- VCLT_I (R184). Signed I16 lane less-than mask. -/
  | vcltI (c : Nat) (d a b : Fin 16)
  /-- VRSUM_H (R189). Sums the 32 F16 lanes exactly and rounds once to F32 in s[d]. -/
  | vrsumH (c : Nat) (d : Fin 32) (va : Fin 16)
  /-- VRMAX_H (R188). Writes the F16 maximum of the lanes to s[d]. -/
  | vrmaxH (c : Nat) (d : Fin 32) (va : Fin 16)
  /-- VRMIN_H (R188). Writes the F16 minimum of the lanes to s[d]. -/
  | vrminH (c : Nat) (d : Fin 32) (va : Fin 16)
  /-- VRSUM_I (R188). Writes the exact signed sum of the I16 lanes to s[d]. -/
  | vrsumI (c : Nat) (d : Fin 32) (va : Fin 16)
  /-- VBCAST (R188). Broadcasts s[a][15:0] to every lane. -/
  | vbcast (c : Nat) (vd : Fin 16) (a : Fin 32)
  /-- VEXT (R188). Extracts one lane into s[d]. -/
  | vext (c : Nat) (d : Fin 32) (va : Fin 16) (lane : Fin 32)
  /-- VINS (R188). Inserts s[a][15:0] into one lane. -/
  | vins (c : Nat) (vd : Fin 16) (a : Fin 32) (lane : Fin 32)
  /-- VLDQ (R190). Converts one block half of a superblock to F16 lanes. -/
  | vldq (c : Nat) (vd : Fin 16) (a : Fin 32) (stochastic : Bool)
  /-- VCVT_HI (R191). Converts I16 lanes to F16. -/
  | vcvtHi (c : Nat) (vd va : Fin 16) (stochastic : Bool)
  /-- VCVT_IH (R191). Converts F16 lanes to I16 with saturation. -/
  | vcvtIh (c : Nat) (vd va : Fin 16) (stochastic : Bool)
  /-- QSB (R112). Quantizes a 4,096-element F32 or F16 buffer into a narrow superblock. -/
  | qsb (c : Nat) (d a b : Fin 32)
  /-- DQB (R116). Converts a narrow superblock into an F32 or F16 buffer. -/
  | dqb (c : Nat) (d a b : Fin 32)
  /-- CVTB (R117). Converts a buffer between F32 and F16. -/
  | cvtb (c : Nat) (d a b : Fin 32)
  /-- ILLEGAL_INSTRUCTION (R124). The core issues a word with a reserved or unassigned major opcode, an unlisted
   function or sub-operation code, or a 1 in a required-zero bit, and raises an illegal-instruction exception. -/
  | illegalInstruction (c : Nat) (word : BitVec 32)
  /-- CHECKER_ARBITRATION (R223). Firmware recomputes the block sum of a mismatch record, runs known-answer tests on
   both lane sets and decides the suspect. -/
  | checkerArbitration (ws : List Word) (fails : Nat)
  /-- CMO_CLEAN (R249). A maintenance slot starts writing back every dirty line in its range, leaving them valid. -/
  | cmoClean (c : Nat) (w : Word)
  /-- CMO_INVALIDATE (R249). A maintenance slot starts removing every line in its range, discarding dirty lines. -/
  | cmoInvalidate (c : Nat) (w : Word)
  /-- CMO_CLEAN_INVALIDATE (R249). A maintenance slot starts writing back and removing every line in its range. -/
  | cmoCleanInvalidate (c : Nat) (w : Word)
  /-- CMO_DONE (R252). A maintenance operation finishes, sets done after its write-backs are visible and reports
   dropped dirty lines. -/
  | cmoDone (c : Nat)
  /-- CONTROL_CACHE_FILL (R246). A control core fills an S-space line into its caches, possibly speculatively, as a
   clean line. -/
  | controlCacheFill (addr : Nat) (stores : List (Nat × Byte))
  /-- CONTROL_CACHE_WRITEBACK (R247). A control cache writes back a dirty 64 B line to the stack as a
   read-modify-write of its burst. -/
  | controlCacheWriteback (addr : Nat) (evict : Bool)
  /-- POISON_LINE_TRAP (R257). A control-core load from a poison-marked line traps to the firmware's poison handler.
   -/
  | poisonLineTrap (addr : Nat)
  /-- CONTROL_CACHE_ERROR (R258). An error in a control-complex array is corrected, contained by refill, or taken as
   uncontained. -/
  | controlCacheError (kind addr : Nat)
  /-- DIRECTORY_PROBE_TIMEOUT (R258). A control core answers no directory probe within 10 µs and the error is
   uncontained with cause 0x03. -/
  | directoryProbeTimeout (p : Nat)
  /-- STACK_READ (R278). The stack controller maps an address, reads a burst, decodes it and returns corrected data
   or reports it uncorrectable. -/
  | stackRead (addr src : Nat) (errs : List (Nat × Nat))
  /-- STACK_WRITE (R231). The stack controller writes a whole burst, or a partial write as one indivisible
   read-modify-write. -/
  | stackWrite (addr : Nat) (bs : List Byte)
  /-- UE_TENANT_COPY (R296). Firmware places a copy of an uncorrectable-burst record in the queue of every tenant
   that maps the burst. -/
  | ueTenantCopy
  /-- STACK_CORRECT_WRITEBACK (R276). The controller writes a corrected burst back within 1 µs as one indivisible
   step. -/
  | stackCorrectWriteback (addr : Nat)
  /-- PATROL_SCRUB (R277). The controller scrubs an in-service burst in idle channel time, correcting it or
   reporting it uncorrectable. -/
  | patrolScrub (addr : Nat) (errs : List (Nat × Nat))
  /-- STACK_REFRESH (R280). A DRAM layer refreshes its rows at the period its temperature requires. -/
  | stackRefresh (t layer : Nat)
  /-- RETRAIN_DUE (R284). A channel becomes due after 1,024 ticks or when its base temperature drifts more than 8
   °C. -/
  | retrainDue (t p : Nat)
  /-- RETRAIN_GROUP (R285). In the guard band the controller retrains up to 8 due channels, holding their accesses
   for at most 40 µs. -/
  | retrainGroup (t : Nat) (ps : List Nat)
  /-- RETRAIN_GROUP_DONE (R285). A retraining group ends and held accesses proceed with the new training. -/
  | retrainGroupDone (t : Nat) (found : List (Nat × Option Eye))
  /-- RETRAINING_OVERDUE (R286). A channel due for 64 ticks without retraining raises event 0x24. -/
  | retrainingOverdue (t p : Nat)
  /-- CHANNEL_REPAIR (R289). Larkspur starts copying a logical channel onto the lowest free spare channel with
   writes going to both. -/
  | channelRepair (t c : Nat) (dead : Bool)
  /-- LAYER_REPAIR (R290). Larkspur starts copying a logical layer onto the spare layer on all 128 channels. -/
  | layerRepair (t l : Nat) (dead : Bool)
  /-- REPAIR_COPY_BURST (R291). One burst is copied from source to target indivisibly, as poison when the source
   reads uncorrectable. -/
  | repairCopyBurst (t : Nat)
  /-- REPAIR_COPY_DONE (R289). The copy ends; reads go to the spare, the old unit is retired and event 0x21 or 0x22
   is raised. -/
  | repairCopyDone (t : Nat)
  /-- STK_RET_WRITE (R299). Firmware writes a retirement entry; the controller checks and refuses it or accepts it
   and begins the poison fill of the replacement. -/
  | stkRetWrite (t k : Nat) (w : Word)
  /-- RETIREMENT_FILL_DONE (R300). The poison fill of the replacement granule ends and the entry takes effect. -/
  | retirementFillDone (t k : Nat)
  /-- TRN_WRITE (R312). TRN_CMD op write commits the staged entry into a context after the checks of R308. -/
  | trnWrite (w : Word)
  /-- TRN_CLEAR (R312). TRN_CMD op clear removes an entry of a context. -/
  | trnClear (w : Word)
  /-- TRN_UPDATE_DONE (R313). An update has taken effect everywhere and every command meeting the old range has
   completed, so done is set. -/
  | trnUpdateDone
  /-- FAULT_RECORD_WRITE (R324). The hub writes a fault record to its queue and advances prod, or holds it pending
   in the parked task when the queue is full. -/
  | faultRecordWrite (u : Nat)
  /-- TASK_PARK (R328). The sequencer stops a task's group after a refused command, saves its state and marks it
   parked. -/
  | taskPark (k : Nat)
  /-- FLT_CONS_WRITE (R335). The consumer advances a fault queue's cons, which is refused outside cons to prod and
   may raise a space-returned event. -/
  | fltConsWrite (u : Nat) (w : Word) (fw : Bool)
  /-- FLT_PUSH (R326). Firmware moves a parked task's oldest pending record into its queue with late set. -/
  | fltPush (u : Nat) (w : Word)
  /-- FLT_RESOLVE_RETRY (R329). Firmware marks a fault resolved with retry; a task with no unresolved faults becomes
   ready. -/
  | fltResolveRetry (u seq : Nat)
  /-- FLT_RESOLVE_DROP (R329). Firmware marks a fault resolved and abandons the task's work in the faulting tick. -/
  | fltResolveDrop (u seq : Nat)
  /-- FAULT_SWEEP (R326). Within 100 µs of a space-returned event firmware pushes pending records of parked tasks in
   label and task order. -/
  | faultSweep (u : Nat)
  /-- ATS_INVALIDATION (R333). A host tile stops using invalidated translations and returns the Invalidation
   Completion within 20 µs. -/
  | atsInvalidation (q f page n : Nat)
  /-- TICK_PROGRAM_START (R338). TSQ_CTRL.run changes from 0 to 1 with an admitted bank and tick 0 begins. -/
  | tickProgramStart
  /-- TICK_PROGRAM_STOP (R338). TSQ_CTRL.run written 0 stops the sequencer at the next boundary. -/
  | tickProgramStop
  /-- TSQ_PERIOD_WRITE (R337). A period or guard-band write is checked and, when accepted, awaits admission and the
   next boundary. -/
  | tsqPeriodWrite (w : Word)
  /-- TSQ_CFG_WRITE (R337). A write of margin or stagger step is range-checked and awaits admission and the next
   boundary. -/
  | tsqCfgWrite (w : Word)
  /-- BANK_SWAP_REQUEST (R359). TSQ_CTRL.swap asks for the standby bank to be checked, admitted and made active. -/
  | bankSwapRequest
  /-- ADMISSION (R362). The sequencer walks every residue of the program, checking time, stacks and label
   guarantees, and admits or refuses. -/
  | admission
  /-- ADMISSION_RECHECK (R364). A fall in capacity reruns admission against the active bank and raises event 0x35
   when it fails. -/
  | admissionRecheck
  /-- TICK_BOUNDARY (R338). A tick ends and the next begins; pending period, bank, cap, floor and label changes take
   effect and Committed and Aborted tasks return to Idle. -/
  | tickBoundary
  /-- GUARD_BAND_START (R365). The guard band begins; Bound, Running and Parked tasks are in overrun and their
   policies apply. -/
  | guardBandStart
  /-- EXTENSION_DEADLINE (R367). At T − ceil(G/4) an extended task not Done is discard-stopped, Aborted and
   reported. -/
  | extensionDeadline
  /-- PHASE (R339). Tick-program instruction that sets the program phase. -/
  | phase
  /-- INGEST (R358). Advances a tenant's ingest generation and signals the ingest cut to its host functions. -/
  | ingest
  /-- RUN (R344). Makes a due Idle task Bound for the binding engine. -/
  | runTask
  /-- WAITT (R358). Waits until every task of a range is complete for the tick. -/
  | waitt
  /-- COMMIT (R353). Commits records, slots and core state of every Done task of a range in ascending task number. -/
  | commitTasks
  /-- AT (R358). Waits until an offset into the tick. -/
  | atOffset
  /-- AT_OFFSET_REACHED (R358). The awaited offset into the tick arrives and the program continues. -/
  | atOffsetReached
  /-- SKIP (R358). Skips the next c instructions when tick mod m differs from r. -/
  | skipIf
  /-- EVENT (R358). Raises event 0x37 with a code in a tenant's event queue. -/
  | programEvent
  /-- MIRROR (R583). Starts the mirror stream of the tick's commits to the twin. -/
  | mirrorStart
  /-- END (R358). Ends the tick's program. -/
  | endProgram
  /-- TASK_BIND (R344). The binding engine switches out the group's holder if any, restores the task, copies its
   records and tick block and starts it. -/
  | taskBind
  /-- CORE_WAVE_START (R345). The cores of one compute-group domain start, one wave per step after binding. -/
  | coreWaveStart (k : Nat)
  /-- DRAIN_STOP_DONE (R347). A drain stop finishes its queued work and saves the task's state to its switch slot. -/
  | drainStopDone (k : Nat)
  /-- TASK_LOAD (R341). TSQ_TCMD load checks a descriptor and writes the task's switch and commit slots. -/
  | taskLoad (w : Word)
  /-- TASK_UNLOAD (R341). TSQ_TCMD unload removes a task not in use by any bank. -/
  | taskUnload (w : Word)
  /-- TASK_COMMAND_DONE (R341). A load or unload command completes and done is set. -/
  | taskCommandDone
  /-- SEQ_SLOT_WRITE (R349). Firmware writes a sequence slot's tenant, buffers or valid, refused in the states R349
   forbids. -/
  | seqSlotWrite (n i : Nat) (w : Word)
  /-- CONTEXT_RECORD_WRITE (R242). A firmware write to a stream-context record is refused while a task of the
   program references it. -/
  | contextRecordWrite (addr : Nat) (w : Word)
  /-- ROUTER_ACCEPT (R377). A router accepts a packet into the input buffer of its virtual channel and class and
   forwards it by arbitration. -/
  | routerAccept (n p ce : Nat)
  /-- PACKET_INJECT (R375). A site port injects a packet, fixing its express or electrical route and writing its
   header, age and CRC. -/
  | packetInject (w0 w1 w2 : Word) (data : List Byte) (n : Nat)
  /-- LINK_REPLAY (R385). A double-bit link error or CRC failure makes the receiver ask for a replay or resend of
   the flit. -/
  | linkReplay (n p kind : Nat)
  /-- HUB_LINK_NARROW (R385). Larkspur steers a failing wire to a spare or narrows the link and raises event 0x41. -/
  | hubLinkNarrow (n d : Nat)
  /-- WAVELENGTH_SPARE_SWAP (R390). A wavelength with 16 corrected flits in 1 ms moves to a spare, or the waveguide
   degrades. -/
  | wavelengthSpareSwap (w b : Nat)
  /-- LINK_RETRAIN (R391). A due link or waveguide is retrained in the guard band. -/
  | linkRetrain (guide : Bool) (idx : Nat) (finish : Bool) (temp : Nat)
  /-- QUEUE_FEEDBACK (R408). Every 1 µs a shared resource reports its queue fill and injectors tighten or relax
   ol_eff. -/
  | queueFeedback (res fill cap : Nat)
  /-- LABEL_LATENCY_MISSED (R407). A label's average request-to-answer time exceeds its target and event 0x43 is
   raised. -/
  | labelLatencyMissed (site l : Nat)
  /-- EVENT_QUEUE_WRITE (R398). The hub writes an event entry to the priority or normal ring, overwriting or
   discarding when full. -/
  | eventQueueWrite (u : Nat) (ws : List Word)
  /-- EVQ_CONS_WRITE (R400). The consumer advances a ring's cons, refused unless it lies on an entry boundary within
   cons to prod. -/
  | evqConsWrite (u : Nat) (prio : Bool) (w : Word) (fw : Bool)
  /-- EVQ_WORD_READ (R401). A read of a ring word outside cons to prod returns the underrun word and counts in und. -/
  | evqWordRead (u i : Nat)
  /-- LUP_PROBE_WRITE (R394). A write to a probe's fields applies with the hub forcing the tenant bits of
   tenant-owned probes. -/
  | lupProbeWrite (n j r who : Nat) (w : Word)
  /-- SLR_CFG_WRITE (R404). A label's parameters are written, refusing 0 for target or ol, and take effect at the
   next boundary. -/
  | slrCfgWrite (l : Nat) (w : Word)
  /-- GUARANTEE_WRITE (R410). A write of a guarantee entry runs the capacity check and is accepted or refused. -/
  | guaranteeWrite (g : Nat) (w : Word)
  /-- OPEN_SITE_POWER_UP (R421). Crocus brings up an open site's rails in order and releases GRST_N. -/
  | openSitePowerUp (k : Nat)
  /-- UCIE_TRAIN (R424). The UCIe link of an open site trains all modules within 8 ms of GRST_N release. -/
  | ucieTrain (k rate ok : Nat) (lanes : List Nat)
  /-- UCIE_MODULE_LOSS (R425). An unrepairable module leaves the link, which continues on fewer modules or isolates
   the site. -/
  | ucieModuleLoss (k m : Nat) (lane : Bool)
  /-- BML_SEND (R431). A BML SEND carries a core's or node's message write across the open-site link. -/
  | bmlSend (k : Nat) (b : Bml)
  /-- BML_RECV (R431). A BML RECV reads words at roff of the other end. -/
  | bmlRecv (k : Nat) (b : Bml)
  /-- RDATA (R428). RECV data returns across the link. -/
  | rdata (k : Nat) (b : Bml)
  /-- ACK (R431). Reports that a SEND was written and counted. -/
  | ackMsg (k : Nat) (b : Bml)
  /-- MERR (R428). Returns a message-error code across the link. -/
  | merr (k : Nat) (b : Bml)
  /-- MRD (R434). A node reads up to 4,096 B at a device virtual address through context 16 + k. -/
  | mrd (k : Nat) (ws : List Word)
  /-- MRDD (R434). Read data returns to the node in address order, the last carrying status. -/
  | mrdd (k tag : Nat)
  /-- MWR (R434). A node writes up to 1,024 B at a device virtual address after a whole-extent check. -/
  | mwr (k : Nat) (ws : List Word)
  /-- MCPL (R434). Completion of an MWR or MATOM returns to the node once every part has completed. -/
  | mcpl (k tag : Nat)
  /-- MATOM (R434). A node performs an indivisible 8 B atomic at a device virtual address. -/
  | matom (k : Nat) (ws : List Word)
  /-- ORD (R437). The hub reads the guest's O-space window at an offset. -/
  | ordMsg (k off n : Nat)
  /-- ORDD (R437). The guest returns window read data. -/
  | ordd (k : Nat) (ws : List Word)
  /-- OWR (R437). The hub writes the guest's O-space window. -/
  | owr (k off : Nat) (data : List Byte)
  /-- OCPL (R437). The guest reports a window write visible to every reader. -/
  | ocpl (k : Nat) (ws : List Word)
  /-- DESC (R441). A capability descriptor arrives and the hub checks it against the identity record. -/
  | descMsg (k : Nat) (b : Bml)
  /-- DACK (R442). The descriptor result is returned; on acceptance the site becomes active. -/
  | dack (k : Nat) (b : Bml)
  /-- HEART (R444). A BML liveness message sent after 100 µs without other traffic. -/
  | heart (k : Nat) (b : Bml)
  /-- TREPORT (R422). The guest reports its temperature and power and the hub adjusts its throttle level or isolates
   it. -/
  | treport (k : Nat) (ws : List Word)
  /-- THROTTLE (R422). The hub sends a throttle level that the guest meets within 100 µs. -/
  | throttle (k : Nat)
  /-- CREDIT (R429). Returns request credits as buffers free. -/
  | credit (k : Nat) (b : Bml)
  /-- GERR (R428). The guest reports an error word, passed on in event 0x54. -/
  | gerr (k : Nat) (ws : List Word)
  /-- DESCRIPTOR_TIMEOUT (R441). No guest descriptor arrives within 100 ms of link active and the site is isolated
   with cause 0x3. -/
  | descriptorTimeout (k : Nat)
  /-- HEARTBEAT_LOSS (R444). The hub receives nothing from the guest for 1 ms and isolates the site with cause 0x7. -/
  | heartbeatLoss (k : Nat)
  /-- TREPORT_MISSING (R422). No TREPORT arrives for 3 intervals and the site is isolated with cause 0x6. -/
  | treportMissing (k : Nat)
  /-- GALERT_ASSERTED (R444). GALERT_N held low for 10 µs isolates the site with cause 0xA. -/
  | galertAsserted (k : Nat)
  /-- OS_ISOLATE (R445). Firmware writes OS_CTLk.isolate to isolate a site with cause 0x9. -/
  | osIsolate (k : Nat) (w : Word)
  /-- OS_REJOIN (R447). Firmware writes OS_CTLk.rejoin to repower, retrain and renegotiate an isolated site, refused
   beyond three in 24 h. -/
  | osRejoin (k : Nat) (w : Word)
  /-- OS_GRANT_WRITE (R449). A write of a site grant takes effect for new requests at once. -/
  | osGrantWrite (k u : Nat) (w : Word)
  /-- PERST_N_ASSERT (R452). PERST_N resets only the host tile's link and configuration state. -/
  | perstNAssert (q lost absorbed : Nat)
  /-- HOST_LINK_UP (R479). The host link reaches DL_Up and a port that was down enters up. -/
  | hostLinkUp (q lanes speed : Nat)
  /-- HOST_LINK_DOWN (R479). Link-down, Surprise Down, PERST_N or a fatal error moves an up port to frozen. -/
  | hostLinkDown (q trig lost absorbed : Nat)
  /-- PORT_QUIESCE (R485). Writing quiesce stops SQ fetching so that commands in progress complete. -/
  | portQuiesce (q : Nat)
  /-- QUIESCE_COMPLETE (R485). Commands in progress have completed; qdone is set, the port enters quiesced and event
   0x62 is raised. -/
  | quiesceComplete (q : Nat)
  /-- PORT_RELEASE (R483). Writing release returns a frozen or quiesced port to up, resetting its queues, when the
   conditions allow. -/
  | portRelease (q : Nat) (bme : Bool)
  /-- HT_BIND_WRITE (R454). Firmware binds or unbinds a tenant to a host function under the one-to-one and queue
   rules. -/
  | htBindWrite (q f : Nat) (w : Word)
  /-- QUEUE_ENABLE (R464). A queue control write enables or disables an SQ or CQ, ignored when it breaks the order
   or ranges. -/
  | queueEnable (q f i r : Nat) (w : Word)
  /-- SQ_TAIL_DOORBELL (R465). The host writes an SQ tail; an index beyond the depth is ignored and sets err. -/
  | sqTailDoorbell (q f i idx : Nat)
  /-- CQ_HEAD_DOORBELL (R474). The host writes a CQ head, freeing room and rearming the queue's vector. -/
  | cqHeadDoorbell (q f i idx : Nat)
  /-- SQ_FETCH (R468). The host tile fetches the next SQ entry in round-robin order and starts it. -/
  | sqFetch (q : Nat) (x : FetchedEntry)
  /-- SQ_FETCH_ERROR (R465). A queue fetch ends in an error completion or timeout; err is set and the SQ disabled. -/
  | sqFetchError (q : Nat)
  /-- H2D_COPY (R467). A command copies host memory into a checked device extent. -/
  | h2dCopy (id : Nat) (data : List Byte) (ok : Bool) (pages : Option Translations)
  /-- D2H_COPY (R467). A command copies a checked device extent into host memory. -/
  | d2hCopy (id : Nat) (ok : Bool) (odata : List Byte) (pages : Option Translations)
  /-- NOP (R466). A command that moves nothing and completes. -/
  | nop (id : Nat)
  /-- SVC_MAP (R473). Service 0x0001 writes a range entry of the tenant's context. -/
  | svcMap (id : Nat)
  /-- SVC_UNMAP (R473). Service 0x0002 clears a range entry. -/
  | svcUnmap (id : Nat)
  /-- SVC_RESOLVE (R473). Service 0x0003 resolves a fault of the tenant. -/
  | svcResolve (id : Nat)
  /-- SVC_LOAD_UNLOAD (R473). Service 0x0004 loads or unloads a task of the tenant from a descriptor. -/
  | svcLoadUnload (id : Nat)
  /-- SVC_PROBE (R473). Service 0x0005 reads or writes a probe that the tenant owns. -/
  | svcProbe (id : Nat)
  /-- SVC_READREG (R473). Service 0x0006 reads a register of the tenant's tiles or tasks. -/
  | svcReadreg (id : Nat)
  /-- SVC_RETIRE (R473). Admin service 0x0010 retires a granule for a replacement. -/
  | svcRetire (id : Nat)
  /-- SVC_RESOLVE_GRANULE (R473). Admin service 0x0011 resolves with retry every poison fault on a granule in every
   tenant. -/
  | svcResolveGranule (id : Nat)
  /-- SVC_BANK (R473). Admin service 0x0012 copies a tick program into the standby bank and requests the swap. -/
  | svcBank (id : Nat)
  /-- SVC_SLOT_RECORD (R473). Admin service 0x0013 creates or retires a sequence slot or stream-context record. -/
  | svcSlotRecord (id : Nat)
  /-- CQ_ENTRY_WRITE (R470). The host tile writes a 16 B completion entry in one posted write once the command's
   work is done and the CQ has room. -/
  | cqEntryWrite (x : EntryWrite)
  /-- INGEST_CUT (R472). The host tile writes a cut entry to CQ 0 and starts held commands, or counts the cut as
   lost. -/
  | ingestCut (u : Nat)
  /-- MSIX_MESSAGE (R474). An armed source holding unread content sends its MSI-X message once and disarms. -/
  | msixMessage (q f src : Nat)
  /-- CQ_COALESCE_TIMEOUT (R474). ctime passes since the oldest pending entry and the CQ sends its message. -/
  | cqCoalesceTimeout (q f i : Nat)
  /-- HOST_MEM_READ (R461). An inbound memory read is translated whole and answered with data or an error. -/
  | hostMemRead (q f off n : Nat) (translated : Bool) (odata : List Byte)
  /-- HOST_MEM_WRITE (R461). An inbound memory write is translated whole and written or discarded. -/
  | hostMemWrite (q f off : Nat) (bs : List Byte) (translated poisoned : Bool)
  /-- HOST_ATOMICOP (R461). An inbound AtomicOp performs one indivisible step and returns the old value. -/
  | hostAtomicop (q f off n kind x cmp : Nat) (odata : List Byte)
  /-- BAR0_ACCESS (R462). A host access to BAR0 reaches the function's register pages or is aborted or discarded. -/
  | bar0Access (q f off size : Nat) (w : Option Word) (ok : Bool)
  /-- FLR (R477). Function Level Reset stops the function's queues and clears its MSI-X table and vectors within 10
   ms. -/
  | flr (q f : Nat) (finish : Bool)
  /-- D3HOT_ENTRY (R458). A function in D3hot takes no new commands and refuses window requests. -/
  | d3hotEntry (q f : Nat)
  /-- TENANT_CREATE (R488). TEN_CFGu valid 0 to 1 creates a tenant on free tiles when the state permits its conf. -/
  | tenantCreate (u : Nat) (w : Word)
  /-- TENANT_ADD_TILES (R488). Adds free tiles to a valid tenant. -/
  | tenantAddTiles (u : Nat) (w : Word)
  /-- TENANT_REMOVE_TILES (R488). Removes unused tiles from a tenant and scrubs them. -/
  | tenantRemoveTiles (u : Nat) (w : Word)
  /-- TENANT_TEARDOWN (R513). TEN_CFGu valid 1 to 0 ends sessions, clears configuration, queues, records and caches,
   and starts the scrub. -/
  | tenantTeardown (u : Nat) (w : Word)
  /-- TEARDOWN_SCRUB_DONE (R513). Zeroing of the partition's stacks ends; caches are invalidated again, the report
   is signed and the tiles freed. -/
  | teardownScrubDone (u : Nat)
  /-- TEN_PERM_WRITE (R492). A message-permit entry is written, refused when its node range is malformed. -/
  | tenPermWrite (u i : Nat) (w : Word)
  /-- COM_RGN_WRITE (R495). A commons region is defined, sealed, unsealed or removed under the region rules. -/
  | comRgnWrite (r : Nat) (w : Word)
  /-- COM_RLD_WRITE (R496). A granule of a region is taken out of or returned to the commons for reload. -/
  | comRldWrite (r : Nat) (w : Word)
  /-- CONFIG_DIGEST_UPDATE (R510). Within 100 µs of a configuration change firmware recomputes TEN_DIGu, increments
   TEN_DGENu and raises event 0x70. -/
  | configDigestUpdate (u : Nat)
  /-- FIRMWARE_SPACE_REFUSED (R509). An access to firmware space from another agent completes with an address error
   and a firmware event. -/
  | firmwareSpaceRefused (site addr : Nat) (write : Bool)
  /-- SPDM_MESSAGE (R499). The security engine answers a standard SPDM 1.3 request on DOE or MCTP. -/
  | spdmMessage (port kind sid key : Nat)
  /-- GET_MEASUREMENTS (R501). Returns the signed measurement blocks of the device. -/
  | getMeasurements (sid i : Nat)
  /-- BIND (R502). Binds a mutually authenticated session to a tenant whose key digest matches. -/
  | bindSession (sid u : Nat)
  /-- OPEN (R503). Opens a sealed window and derives its key and initial value. -/
  | openWindow (sid i dva npages gen : Nat)
  /-- REGEN (R504). Advances a window's generation and derives a new key. -/
  | regen (sid i gen : Nat)
  /-- CLOSE (R503). Closes a sealed window. -/
  | closeWindow (sid i : Nat)
  /-- GET_SCRUB_REPORT (R515). Returns the latest signed scrub report of a tenant number. -/
  | getScrubReport (sid u : Nat)
  /-- SPDM_SESSION_END (R500). A session ends on END_SESSION, heartbeat loss, port leaving up, reset or teardown,
   locking its windows. -/
  | spdmSessionEnd (sid : Nat)
  /-- GET_LC_NONCE (R526). Returns the current life-cycle nonce. -/
  | getLcNonce (sid : Nat)
  /-- LC_TRANSITION (R528). A signed transition request is checked, user secrets erased, intent slot and steps
   burned, and a reset started. -/
  | lcTransition (ws : List Word) (regs : Bool) (cut : Option Nat) (erased : Bool)
  /-- LC_RESET_DELAY (R528). 1 ms after done is written the transition starts a whole-device reset. -/
  | lcResetDelay
  /-- DEBUG_PORT_ACCESS (R520). The debug port reads or writes a device address or core special register where the
   life-cycle state permits. -/
  | debugPortAccess (sr : Option Nat) (a : Nat) (w : Option Word) (ok : Bool) (odata : List Byte)
  /-- TST_OBSSEL_WRITE (R532). Selects the observation group on OBS[15:0] where the state permits. -/
  | tstObsselWrite (w : Word)
  /-- RECOVERY_CLAIM (R546). A host writes claim to hold the shared recovery buffer. -/
  | recoveryClaim (q : Nat)
  /-- RECOVERY_GO (R545). The holding host writes go; Crocus verifies the image, writes and reads back the flash,
   and resets. -/
  | recoveryGo (q len : Nat) (flashOk : Bool)
  /-- RECOVERY_IDLE_TIMEOUT (R546). 10 s without a BAR2 or HEP_RECOV write from the holder releases the recovery
   buffer. -/
  | recoveryIdleTimeout
  /-- RESET_CORE (R552). RST_CTL scope core discard-stops the owning group and clears the core. -/
  | resetCore (w : Word)
  /-- RESET_GROUP (R552). RST_CTL scope group discard-stops a task's group and clears its cores. -/
  | resetGroup (w : Word)
  /-- RESET_PARTITION (R554). RST_CTL scope partition fences a tenant's site ports, stops its tasks, drains answers,
   empties queues and clears cores. -/
  | resetPartition (w : Word)
  /-- PARTITION_RESET_TIMEOUT (R554). 100 µs pass in a partition reset and remaining outstanding entries are
   dropped. -/
  | partitionResetTimeout
  /-- RESET_WHOLE (R556). RST_CTL scope whole stops every domain but CD0, resets every register and runs bring-up
   again. -/
  | resetWhole (w : Word)
  /-- RST_N_LOW (R556). RST_N held low for at least 1 µs starts a whole-device reset. -/
  | rstNLow
  /-- SCAN_SLICE (R558). In the guard band a scan slice saves core state, applies the current pattern set, compares
   signatures and restores. -/
  | scanSlice (bad : List Nat) (rail aborted : Bool)
  /-- KAT_RUN (R573). At the guard band's start each tile runs the known-answer engine on its next cores in
   rotation. -/
  | katRun (t : Nat)
  /-- KAT_RESULT (R574). A known-answer run ends; a failure reruns the core and leads to a permanent or transient
   decision with event 0x95. -/
  | katResult (p mask : Nat)
  /-- RELIABILITY_CONDITION_CHANGE (R565). A guarantee condition changes; REL_STAT updates within 10 µs and event
   0x90 is raised. -/
  | reliabilityConditionChange (supply : Bool)
  /-- LOG_WRITE (R570). Firmware writes and reads back a fault history log record, clearing logok on failure. -/
  | logWrite (ok : Bool)
  /-- BOND_LANE_REPAIR (R566). A failing bond lane is steered to its group's spare within 10 µs. -/
  | bondLaneRepair (n d i : Nat)
  /-- BOND_WIDTH_STEP (R567). A broken group steps the site's bond to half, quarter or out of service, holding
   traffic up to 20 µs and raising event 0x91. -/
  | bondWidthStep (n : Nat)
  /-- CONTROL_CORE_OFFLINE (R568). LSP_CC go takes a control core out of service and starts a spare with its logical
   number. -/
  | controlCoreOffline (w : Word)
  /-- REGULATOR_PHASE_FAULT (R606). A failing phase is replaced by a spare or the rail degrades, lowering caps,
   isolating or entering the safe state. -/
  | regulatorPhaseFault (r : Nat)
  /-- SNP_CFG_WRITE (R577). A write of the digest configuration runs the digest-set check and is accepted or
   refused. -/
  | snpCfgWrite (w : Word)
  /-- SNP_RNG_WRITE (R577). A write of a digest range runs the digest-set check and is accepted or refused. -/
  | snpRngWrite (r i : Nat) (w : Word)
  /-- DIGEST_PASS_DONE (R578). A lane finishes a pass over a range, writes its digest and sends DIGEST frames to the
   replica set. -/
  | digestPassDone (r : Nat) (faulty : Option Nat) (bad : Bool)
  /-- DIGEST_RANGE_LATE (R578). A range's pass has not ended within I ticks of its previous one and the range is
   late. -/
  | digestRangeLate (r : Nat)
  /-- DIGEST (R578). A DIGEST frame arrives and the package compares digests of equal lgen to find the wrong copy. -/
  | digestFrame (q r lgen dig : Nat) (bad : Bool)
  /-- FETCH (R580). A sibling asks for bursts of a range and the package answers with FDATA read from its own stack.
   -/
  | fetchFrame (q t g b n : Nat)
  /-- FDATA (R580). Burst data or an error for a FETCH arrives. -/
  | fdataFrame (q t g b : Nat) (data : List Byte)
  /-- TWIN_PAIRING (R581). With pairing enabled and the link up, the packages authenticate over SPDM and accept or
   refuse the pairing. -/
  | twinPairing (auth : Bool) (cap : Nat) (digs : List (List Word)) (role epoch : Nat) (standby : Bool)
  /-- MIR_CFG_WRITE (R584). A write of the mirror configuration or a slot length is refused when the largest mirror
   exceeds the bound. -/
  | mirCfgWrite (n : Option Nat) (w : Word)
  /-- MIRD (R583). A mirror data frame arrives and the standby writes or stages its item. -/
  | mird (q t kind target off : Nat) (data : List Byte)
  /-- MEND (R583). The standby applies the tick's mirror as one step and returns MACK. -/
  | mend (q t n : Nat)
  /-- MACK (R583). The active learns that a tick's mirror was applied. -/
  | mack (q t : Nat)
  /-- NOTICE (R585). A NOTICE frame from the active makes the standby fail over. -/
  | noticeFrame (q : Nat)
  /-- TWIN_FAILOVER (R586). TWN_CFG.failover or the management command makes the standby discard unapplied mirrors,
   become active and lift shadowing. -/
  | twinFailover (w : Word)
  /-- TWIN_LINK_SILENCE (R585). 1 ms of silence on the twin link leads to a SILQ query when auto failover is set. -/
  | twinLinkSilence
  /-- SILQ (R588). A query to a sibling about whether a package is silent. -/
  | silq (q p : Nat) (silent : Bool)
  /-- SILA (R585). A sibling's answer; a confirmation of silence makes the standby fail over. -/
  | sila (q : Nat) (silent : Bool)
  /-- PEER_HEART (R588). A peer liveness frame sent after 100 µs without another frame. -/
  | peerHeart (q : Nat)
  /-- TWIN_LINK_DOWN (R587). The twin link goes down; the active stops mirroring and raises event 0x99. -/
  | twinLinkDown
  /-- DOMAIN_GATE (R596). Clearing a HUB_CLKEN bit is checked and, when accepted, starts draining the domain. -/
  | domainGate (w : Word)
  /-- DOMAIN_GATE_EFFECT (R597). After drain or 100 µs the domain's clock and PLL stop and its sites answer under
   the gated-block rule. -/
  | domainGateEffect (m : Nat)
  /-- DOMAIN_UNGATE (R597). Setting a HUB_CLKEN bit starts the domain's PLL. -/
  | domainUngate (w : Word)
  /-- PLL_LOCKED (R595). A domain's PLL locks and the domain runs, a compute domain starting at n = 8. -/
  | pllLocked (m ns : Nat)
  /-- PLL_LOCK_LOSS (R599). A PLL loses lock and its domain goes to bypass, stops its links or sends the package to
   the safe state. -/
  | pllLockLoss (m ns : Nat)
  /-- CLK_RELOCK (R599). Firmware writes relock and the domain re-enables its PLL to return from bypass. -/
  | clkRelock (m : Nat) (w : Word)
  /-- RELOCK_TIMEOUT (R599). A relock that does not lock within 50 µs leaves the domain in bypass and sets nolock. -/
  | relockTimeout (m : Nat)
  /-- NSET_WRITE (R602). Firmware sets a compute domain's target n and a ramp begins toward n_eff. -/
  | nsetWrite (m : Nat) (w : Word)
  /-- FREQ_RAMP_STEP (R600). Every 1 µs a ramping compute domain moves n one step toward its target with its rail. -/
  | freqRampStep (m : Nat)
  /-- THERMAL_SAMPLE (R609). Every 100 µs the sensors are read at 1/64 °C. -/
  | thermalSample (x : Readings)
  /-- THERMAL_LOOP (R612). Every 100 µs each compute domain lowers or raises n_therm from its readings, acting at
   trip thresholds. -/
  | thermalLoop
  /-- POWER_CAP_LOOP (R614). A site or package power mean over its cap lowers n_cap per 100 µs, and raises it per 1
   ms below 95 %. -/
  | powerCapLoop (sites : List (Nat × Nat)) (pkg : Nat)
  /-- RAIL_SAMPLE (R607). Every 10 µs the hub measures every rail and VIN_HI and raises event 0xA4 for a rail out of
   tolerance. -/
  | railSample (rails : List (Nat × Nat × Nat)) (vin iin : Nat)
  /-- VIN_OVERCURRENT (R603). VIN_HI current above 4,400 A for 10 µs places the package in the safe state. -/
  | vinOvercurrent
  /-- COOL_IN_WRITE (R619). The board controller writes inlet temperature and flow, restarting the report age. -/
  | coolInWrite (w : Word)
  /-- COOLANT_REPORT_STALE (R619). The coolant report is older than 5 s and event 0xA5 is raised with
   REL_STAT.coolant cleared. -/
  | coolantReportStale
  /-- PWR_CFG_WRITE (R614). Firmware sets the package power cap, refusing values outside 3,000 to 7,500 W. -/
  | pwrCfgWrite (w : Word)
  /-- I3C_ADDRESS_ASSIGN (R632). The bus owner assigns the management port's dynamic address by SETDASA or ENTDAA. -/
  | i3cAddressAssign (daddr : Nat) (ibi : Bool)
  /-- MCTP_CONTROL (R633). An MCTP control message for endpoint discovery or EID assignment. -/
  | mctpControl (eid : Option Nat)
  /-- PLDM_PLATFORM_REQUEST (R634). A PLDM request reads a sensor or sets a coolant effecter. -/
  | pldmPlatformRequest (id : Nat) (value : Option Nat)
  /-- PLDM_PLATFORM_EVENT (R634). A change of a state sensor or of FAULT_N or THERM_N sends a PLDM event through an
   in-band interrupt. -/
  | pldmPlatformEvent
  /-- PLDM_FRU_READ (R633). A PLDM request returns the FRU record holding the package identity record. -/
  | pldmFruRead
  /-- PLDM_FIRMWARE_UPDATE (R633). An image arrives by PLDM, is verified under R541 and written to the flash. -/
  | pldmFirmwareUpdate (image : List Byte) (flashOk : Bool)
  /-- MGT_RESET (R635). Vendor command 0x01 requests a whole-device reset. -/
  | mgtReset
  /-- MGT_FAILOVER (R635). Vendor command 0x02 requests failover on the standby. -/
  | mgtFailover
  /-- MGT_TENANT_CONFIG (R635). Vendor command 0x03 creates, changes or tears down a tenant. -/
  | mgtTenantConfig (u : Nat) (key : List Word) (w : Word)
  /-- MGT_READ_LOG (R635). Vendor command 0x04 returns a fault history log record by index. -/
  | mgtReadLog (i : Nat)
  /-- MGT_READ_STATUS (R635). Vendor command 0x05 returns BOOT_STAT, BOOT_TIME and CCX_DOMST. -/
  | mgtReadStatus
  /-- PEER_PORT_LANE_LOSS (R637). A peer port loses lanes and runs narrower or goes down. -/
  | peerPortLaneLoss (q : Nat) (x : LaneReport)
  /-- PERST_N_DEASSERT (R549). PERST_N rises, the host tile begins link training and the 900 ms Request Retry Status
   window starts. -/
  | perstNDeassert (q : Nat)
  /-- RECOVERY_RESET_DELAY (R545). 1 ms after HEP_RECOV.state shows 0x3 (done), Crocus starts a whole-device reset. -/
  | recoveryResetDelay
  /-- RETURN_TO_D0 (R458). A function returns from D3hot to D0 and takes commands again with its queue state as it
   was. -/
  | returnToD0 (q f : Nat)
  /-- NODE_FAULT_COPY (R436). Within 100 µs of a node fault, firmware places a copy of the queue-16 record, with
   tenant and ctx set, in the fault queue of the granting tenant, or counts it in nk_lost. -/
  | nodeFaultCopy (seq : Nat)
  deriving DecidableEq, Repr

end Sys2Proof
end

