-- ==== Sys2Proof/Decode.lean ====
section
/-! DEFINITION. Commands from words: the opcode table gives its rows no bits, so no table word spells a command. A core's
instructions have 32-bit words of their own (04 R123, R124, R126 to R153; 05 R163, R164, R179, R184, R188, R190 to R192):
`kisDecode` reads one, `kisEncode` writes one. -/

namespace Sys2Proof

/-- The command that a word of the opcode table spells. -/
def decodeTableWord (_nbits _w : Nat) : Option Instr := none

/-! ## Fields of an instruction word (04, Encoding) -/

/-- Bits hi..lo of a word. -/
def kf (n hi lo : Nat) : Nat := n / 2 ^ lo % 2 ^ (hi + 1 - lo)

/-- A scalar register, a vector register, a tile, a row or counter named by the bits from `lo` up. -/
def kS (n lo : Nat) : Fin 32 := Fin.ofNat 32 (n / 2 ^ lo)
def kV (n lo : Nat) : Fin 16 := Fin.ofNat 16 (n / 2 ^ lo)
def kT (n lo : Nat) : Fin 8 := Fin.ofNat 8 (n / 2 ^ lo)
def kImm (n : Nat) : BitVec 16 := BitVec.ofNat 16 n

/-! ## Decoding, by major opcode; `c` is the core that fetched the word -/

/-- ALU (op 0x00). -/
def kisAlu (c n : Nat) : Option Instr :=
  let d := kS n 21
  let a := kS n 16
  let b := kS n 11
  let z := kf n 15 11 == 0
  match kf n 10 0 with
  | 0x001 => some (.add c d a b)
  | 0x002 => some (.sub c d a b)
  | 0x003 => some (.and c d a b)
  | 0x004 => some (.or c d a b)
  | 0x005 => some (.xor c d a b)
  | 0x006 => some (.shl c d a b)
  | 0x007 => some (.shr c d a b)
  | 0x008 => some (.sra c d a b)
  | 0x009 => some (.slt c d a b)
  | 0x00A => some (.min c d a b)
  | 0x00B => some (.max c d a b)
  | 0x00C => some (.minu c d a b)
  | 0x00D => some (.maxu c d a b)
  | 0x00E => some (.mul c d a b)
  | 0x00F => some (.mulh c d a b)
  | 0x010 => some (.mulhu c d a b)
  | 0x011 => if z then some (.popc c d a) else none
  | 0x012 => if z then some (.clz c d a) else none
  | 0x013 => if z then some (.ctz c d a) else none
  | 0x014 => some (.sltu c d a b)
  | _ => none

/-- MSG (op 0x1D). -/
def kisMsg (c n : Nat) : Option Instr :=
  let d := kS n 21
  let a := kS n 16
  let b := kS n 11
  let zd := kf n 25 21 == 0
  match kf n 10 0 with
  | 0x001 => if zd then some (.send c a b) else none
  | 0x002 => if zd then some (.recv c a b) else none
  | 0x010 => some (.atomAdd c d a b)
  | 0x011 => some (.atomSwap c d a b)
  | 0x012 => some (.atomCas c d a b)
  | 0x013 => some (.atomOr c d a b)
  | 0x020 => if kf n 25 11 == 0 then some (.fenceS c) else none
  | _ => none

/-- CNT (op 0x1E), format C. -/
def kisCnt (c n : Nat) : Option Instr :=
  let d := kS n 21
  let a := kS n 16
  let k := kV n 11
  let zd := kf n 25 21 == 0
  if kf n 15 15 ≠ 0 then none
  else match kf n 10 0 with
  | 0x001 => if zd then some (.waitcnt c k a) else none
  | 0x002 => if kf n 20 16 == 0 then some (.cntrd c d k) else none
  | 0x003 => if zd then some (.cntwr c k a) else none
  | 0x004 => if zd then some (.cntsub c k a) else none
  | _ => none

/-- DMA (op 0x1F): one instruction stands behind the four rows, which the descriptor's operation `dop` tells apart. A
reserved operation falls to the first row, which raises the format exception. -/
def kisDma (dop c n : Nat) : Option Instr :=
  let a := kS n 16
  match kf n 10 0 with
  | 0x001 =>
    if kf n 25 21 ≠ 0 ∨ kf n 15 11 ≠ 0 then none
    else some (if dop = 2 then .dmaDrain c a else if dop = 3 then .dmaCopy c a else if dop = 4 then .dmaZero c a else .dmaFill c a)
  | 0x002 => if kf n 25 11 = 0 then some (.fenceD c) else none
  | _ => none

/-- SYS (op 0x20), format S. -/
def kisSys (c n : Nat) : Option Instr :=
  let d := kS n 21
  let a := kS n 16
  let sr : BitVec 12 := BitVec.ofNat 12 n
  let none0 := kf n 25 16 == 0 && kf n 11 0 == 0
  match kf n 15 12 with
  -- the a field of MFSR and the d field of MTSR may hold anything (04 R153)
  | 0x0 => some (.mfsr c d sr)
  | 0x1 => some (.mtsr c a sr)
  | 0x2 => if none0 then some (.tbar c) else none
  | 0x3 => if none0 then some (.tend c) else none
  | 0x4 => if none0 then some (.eret c) else none
  | 0x5 => if none0 then some (.fenceI c) else none
  | _ => none

/-- TACC (op 0x23). -/
def kisTacc (c n : Nat) : Option Instr :=
  let a := kS n 16
  let td := decide (kf n 25 21 < 8)
  let zb := kf n 15 11 == 0
  let zrow := kf n 8 5 == 0
  let zmode := kf n 4 4 == 0
  if kf n 10 9 ≠ 0 then none
  else match kf n 3 0 with
  | 0x1 => if td && zb && zrow && zmode && kf n 20 16 == 0 then some (.tzero c (kT n 21)) else none
  | 0x2 => if td && zb && zrow && zmode then some (.tst c (kT n 21) a) else none
  | 0x3 => if td && zb && zrow && zmode then some (.tld c (kT n 21) a) else none
  | 0x4 => if kf n 25 21 < 16 ∧ kf n 20 16 < 8 ∧ zb then some (.trow c (kV n 21) (kT n 16) (kV n 5) (kf n 4 4 == 1)) else none
  | 0x5 => if td && zb && zmode && decide (kf n 20 16 < 16) then some (.taddr c (kT n 21) (kV n 16) (kV n 5)) else none
  | 0x6 => if td && zb && zrow && zmode then some (.taddm c (kT n 21) a) else none
  | _ => none

/-- VOP (op 0x26). -/
def kisVop (c n : Nat) : Option Instr :=
  let d := kV n 21
  let a := kV n 16
  let b := kV n 11
  let e := kV n 7
  let two := decide (kf n 25 21 < 16 ∧ kf n 20 16 < 16)
  let un := two && kf n 15 11 == 0 && kf n 10 7 == 0
  let ter := two && decide (kf n 15 11 < 16)
  let bin := ter && kf n 10 7 == 0
  match kf n 6 0 with
  | 0x01 => if bin then some (.vaddH c d a b) else none
  | 0x02 => if bin then some (.vsubH c d a b) else none
  | 0x03 => if bin then some (.vmulH c d a b) else none
  | 0x04 => if ter then some (.vfmaH c d a b e) else none
  | 0x05 => if bin then some (.vminH c d a b) else none
  | 0x06 => if bin then some (.vmaxH c d a b) else none
  | 0x07 => if un then some (.vabsH c d a) else none
  | 0x08 => if un then some (.vnegH c d a) else none
  | 0x09 => if un then some (.vrcpH c d a) else none
  | 0x0A => if un then some (.vrsqH c d a) else none
  | 0x0B => if un then some (.vexp2H c d a) else none
  | 0x0C => if bin then some (.vcltH c d a b) else none
  | 0x0D => if bin then some (.vceqH c d a b) else none
  | 0x0E => if ter then some (.vsel c d a b e) else none
  | 0x10 => if bin then some (.vaddI c d a b) else none
  | 0x11 => if bin then some (.vsubI c d a b) else none
  | 0x12 => if bin then some (.vand c d a b) else none
  | 0x13 => if bin then some (.vor c d a b) else none
  | 0x14 => if bin then some (.vxor c d a b) else none
  | 0x15 => if bin then some (.vshlI c d a b) else none
  | 0x16 => if bin then some (.vshrI c d a b) else none
  | 0x17 => if bin then some (.vsraI c d a b) else none
  | 0x18 => if bin then some (.vcltI c d a b) else none
  | _ => none

/-- VRED (op 0x27). -/
def kisVred (c n : Nat) : Option Instr :=
  let zb := kf n 15 11 == 0
  let va := decide (kf n 20 16 < 16)
  let vd := decide (kf n 25 21 < 16)
  match kf n 10 0 with
  | 0x001 => if va && zb then some (.vrsumH c (kS n 21) (kV n 16)) else none
  | 0x002 => if va && zb then some (.vrmaxH c (kS n 21) (kV n 16)) else none
  | 0x003 => if va && zb then some (.vrminH c (kS n 21) (kV n 16)) else none
  | 0x004 => if va && zb then some (.vrsumI c (kS n 21) (kV n 16)) else none
  | 0x010 => if vd && zb then some (.vbcast c (kV n 21) (kS n 16)) else none
  | 0x011 => if va then some (.vext c (kS n 21) (kV n 16) (kS n 11)) else none
  | 0x012 => if vd then some (.vins c (kV n 21) (kS n 16) (kS n 11)) else none
  | _ => none

/-- VCVT (op 0x28). -/
def kisVcvt (c n : Nat) : Option Instr :=
  let st := kf n 4 4 == 1
  let va := decide (kf n 20 16 < 16)
  if kf n 10 5 ≠ 0 ∨ 16 ≤ kf n 25 21 ∨ kf n 15 11 ≠ 0 then none
  else match kf n 3 0 with
  | 0x1 => some (.vldq c (kV n 21) (kS n 16) st)
  | 0x2 => if va then some (.vcvtHi c (kV n 21) (kV n 16) st) else none
  | 0x3 => if va then some (.vcvtIh c (kV n 21) (kV n 16) st) else none
  | _ => none

/-- QCVT (op 0x29). -/
def kisQcvt (c n : Nat) : Option Instr :=
  let d := kS n 21
  let a := kS n 16
  let b := kS n 11
  match kf n 10 0 with
  | 0x001 => some (.qsb c d a b)
  | 0x002 => some (.dqb c d a b)
  | 0x003 => some (.cvtb c d a b)
  | _ => none

/-- The instruction of a word, where it is one. -/
def kisRead (dop c n : Nat) : Option Instr :=
  let d := kS n 21
  let a := kS n 16
  let b := kS n 16
  let i := kImm n
  match kf n 31 26 with
  | 0x00 => kisAlu c n
  | 0x01 => some (.addi c d a i)
  | 0x02 => some (.andi c d a i)
  | 0x03 => some (.ori c d a i)
  | 0x04 => some (.xori c d a i)
  | 0x05 => some (.slti c d a i)
  | 0x06 => some (.sltiu c d a i)
  | 0x07 => if kf n 20 16 = 0 then some (.lui c d i) else none
  | 0x08 => some (.ins32 c d a i)
  | 0x09 =>
    if kf n 13 6 ≠ 0 ∨ kf n 15 14 = 3 then none
    else some (.shi c d a (Fin.ofNat 3 (kf n 15 14)) (Fin.ofNat 64 n))
  | 0x0A => some (.ldb c d a i)
  | 0x0B => some (.ldbu c d a i)
  | 0x0C => some (.ldh c d a i)
  | 0x0D => some (.ldhu c d a i)
  | 0x0E => some (.ldw c d a i)
  | 0x0F => some (.ldwu c d a i)
  | 0x10 => some (.ldd c d a i)
  | 0x11 => some (.stb c d a i)
  | 0x12 => some (.sth c d a i)
  | 0x13 => some (.stw c d a i)
  | 0x14 => some (.std c d a i)
  | 0x15 => some (.beq c d b i)
  | 0x16 => some (.bne c d b i)
  | 0x17 => some (.blt c d b i)
  | 0x18 => some (.bge c d b i)
  | 0x19 => some (.bltu c d b i)
  | 0x1A => some (.bgeu c d b i)
  | 0x1B => some (.jal c d (BitVec.ofNat 21 n))
  | 0x1C => some (.jalr c d a i)
  | 0x1D => kisMsg c n
  | 0x1E => kisCnt c n
  | 0x1F => kisDma dop c n
  | 0x20 => kisSys c n
  | 0x21 => if kf n 25 25 = 0 ∧ kf n 20 16 = 0 then some (.waitcnti c (kV n 21) i) else none
  | 0x22 =>
    if kf n 10 7 = 0 ∧ kf n 3 0 = 1 ∧ kf n 25 21 < 8 then
      some (.tmac c (kT n 21) a (kS n 11) (kf n 4 4 == 1) (Fin.ofNat 4 (n / 2 ^ 5)))
    else none
  | 0x23 => kisTacc c n
  | 0x24 => if kf n 25 21 < 16 then some (.vld c (kV n 21) a i) else none
  | 0x25 => if kf n 25 21 < 16 then some (.vst c (kV n 21) a i) else none
  | 0x26 => kisVop c n
  | 0x27 => kisVred c n
  | 0x28 => kisVcvt c n
  | 0x29 => kisQcvt c n
  | _ => none

/-- The instruction that a word at core `c` is; a word that is none is an illegal instruction (R124). -/
def kisDecode (dop c : Nat) (word : BitVec 32) : Instr := (kisRead dop c word.toNat).getD (.illegalInstruction c word)

/-! ## Encoding -/

/-- The word of format R, I (and B), C. -/
def kisR (op d a b fn : Nat) : BitVec 32 := BitVec.ofNat 32 (op * 2 ^ 26 + d * 2 ^ 21 + a * 2 ^ 16 + b * 2 ^ 11 + fn)
def kisI (op d a : Nat) (imm : BitVec 16) : BitVec 32 := BitVec.ofNat 32 (op * 2 ^ 26 + d * 2 ^ 21 + a * 2 ^ 16 + imm.toNat)

/-- The word of a core's instruction; none for every other command, and for the illegal word, which has no encoding. -/
def kisEncode (i : Instr) : Option (BitVec 32) :=
  match i with
  | .add _ d a b => some (kisR 0 d a b 0x001)
  | .sub _ d a b => some (kisR 0 d a b 0x002)
  | .and _ d a b => some (kisR 0 d a b 0x003)
  | .or _ d a b => some (kisR 0 d a b 0x004)
  | .xor _ d a b => some (kisR 0 d a b 0x005)
  | .shl _ d a b => some (kisR 0 d a b 0x006)
  | .shr _ d a b => some (kisR 0 d a b 0x007)
  | .sra _ d a b => some (kisR 0 d a b 0x008)
  | .slt _ d a b => some (kisR 0 d a b 0x009)
  | .min _ d a b => some (kisR 0 d a b 0x00A)
  | .max _ d a b => some (kisR 0 d a b 0x00B)
  | .minu _ d a b => some (kisR 0 d a b 0x00C)
  | .maxu _ d a b => some (kisR 0 d a b 0x00D)
  | .mul _ d a b => some (kisR 0 d a b 0x00E)
  | .mulh _ d a b => some (kisR 0 d a b 0x00F)
  | .mulhu _ d a b => some (kisR 0 d a b 0x010)
  | .popc _ d a => some (kisR 0 d a 0 0x011)
  | .clz _ d a => some (kisR 0 d a 0 0x012)
  | .ctz _ d a => some (kisR 0 d a 0 0x013)
  | .sltu _ d a b => some (kisR 0 d a b 0x014)
  | .addi _ d a imm => some (kisI 0x01 d a imm)
  | .andi _ d a imm => some (kisI 0x02 d a imm)
  | .ori _ d a imm => some (kisI 0x03 d a imm)
  | .xori _ d a imm => some (kisI 0x04 d a imm)
  | .slti _ d a imm => some (kisI 0x05 d a imm)
  | .sltiu _ d a imm => some (kisI 0x06 d a imm)
  | .ins32 _ d a imm => some (kisI 0x08 d a imm)
  | .ldb _ d a imm => some (kisI 0x0A d a imm)
  | .ldbu _ d a imm => some (kisI 0x0B d a imm)
  | .ldh _ d a imm => some (kisI 0x0C d a imm)
  | .ldhu _ d a imm => some (kisI 0x0D d a imm)
  | .ldw _ d a imm => some (kisI 0x0E d a imm)
  | .ldwu _ d a imm => some (kisI 0x0F d a imm)
  | .ldd _ d a imm => some (kisI 0x10 d a imm)
  | .stb _ d a imm => some (kisI 0x11 d a imm)
  | .sth _ d a imm => some (kisI 0x12 d a imm)
  | .stw _ d a imm => some (kisI 0x13 d a imm)
  | .std _ d a imm => some (kisI 0x14 d a imm)
  | .jalr _ d a imm => some (kisI 0x1C d a imm)
  | .lui _ d imm => some (kisI 0x07 d 0 imm)
  | .shi _ d a kind amt => some (kisR 0x09 d a 0 (kind.val * 2 ^ 14 + amt.val))
  | .beq _ a b off => some (kisI 0x15 a b off)
  | .bne _ a b off => some (kisI 0x16 a b off)
  | .blt _ a b off => some (kisI 0x17 a b off)
  | .bge _ a b off => some (kisI 0x18 a b off)
  | .bltu _ a b off => some (kisI 0x19 a b off)
  | .bgeu _ a b off => some (kisI 0x1A a b off)
  | .jal _ d off => some (BitVec.ofNat 32 (0x1B * 2 ^ 26 + d.val * 2 ^ 21 + off.toNat))
  | .send _ a b => some (kisR 0x1D 0 a b 0x001)
  | .recv _ a b => some (kisR 0x1D 0 a b 0x002)
  | .atomAdd _ d a b => some (kisR 0x1D d a b 0x010)
  | .atomSwap _ d a b => some (kisR 0x1D d a b 0x011)
  | .atomCas _ d a b => some (kisR 0x1D d a b 0x012)
  | .atomOr _ d a b => some (kisR 0x1D d a b 0x013)
  | .fenceS _ => some (kisR 0x1D 0 0 0 0x020)
  | .waitcnt _ k a => some (kisR 0x1E 0 a k 0x001)
  | .cntrd _ d k => some (kisR 0x1E d 0 k 0x002)
  | .cntwr _ k a => some (kisR 0x1E 0 a k 0x003)
  | .cntsub _ k a => some (kisR 0x1E 0 a k 0x004)
  | .dmaFill _ a => some (kisR 0x1F 0 a 0 0x001)
  | .dmaDrain _ a => some (kisR 0x1F 0 a 0 0x001)
  | .dmaCopy _ a => some (kisR 0x1F 0 a 0 0x001)
  | .dmaZero _ a => some (kisR 0x1F 0 a 0 0x001)
  | .fenceD _ => some (kisR 0x1F 0 0 0 0x002)
  | .mfsr _ d n => some (kisR 0x20 d 0 0 n.toNat)
  | .mtsr _ a n => some (kisR 0x20 0 a 0 (0x1000 + n.toNat))
  | .tbar _ => some (kisR 0x20 0 0 0 0x2000)
  | .tend _ => some (kisR 0x20 0 0 0 0x3000)
  | .eret _ => some (kisR 0x20 0 0 0 0x4000)
  | .fenceI _ => some (kisR 0x20 0 0 0 0x5000)
  | .waitcnti _ k n => some (kisI 0x21 k 0 n)
  | .tmac _ tile a b z gov => some (kisR 0x22 tile a b (gov.val * 2 ^ 5 + (if z then 0x10 else 0) + 1))
  | .tzero _ tile => some (kisR 0x23 tile 0 0 0x1)
  | .tst _ tile a => some (kisR 0x23 tile a 0 0x2)
  | .tld _ tile a => some (kisR 0x23 tile a 0 0x3)
  | .taddm _ tile a => some (kisR 0x23 tile a 0 0x6)
  | .trow _ vd tile r st => some (kisR 0x23 vd tile 0 (r.val * 2 ^ 5 + (if st then 0x10 else 0) + 4))
  | .taddr _ tile va r => some (kisR 0x23 tile va 0 (r.val * 2 ^ 5 + 5))
  | .vld _ v a imm => some (kisI 0x24 v a imm)
  | .vst _ v a imm => some (kisI 0x25 v a imm)
  | .vaddH _ d a b => some (kisR 0x26 d a b 0x01)
  | .vsubH _ d a b => some (kisR 0x26 d a b 0x02)
  | .vmulH _ d a b => some (kisR 0x26 d a b 0x03)
  | .vminH _ d a b => some (kisR 0x26 d a b 0x05)
  | .vmaxH _ d a b => some (kisR 0x26 d a b 0x06)
  | .vcltH _ d a b => some (kisR 0x26 d a b 0x0C)
  | .vceqH _ d a b => some (kisR 0x26 d a b 0x0D)
  | .vaddI _ d a b => some (kisR 0x26 d a b 0x10)
  | .vsubI _ d a b => some (kisR 0x26 d a b 0x11)
  | .vand _ d a b => some (kisR 0x26 d a b 0x12)
  | .vor _ d a b => some (kisR 0x26 d a b 0x13)
  | .vxor _ d a b => some (kisR 0x26 d a b 0x14)
  | .vshlI _ d a b => some (kisR 0x26 d a b 0x15)
  | .vshrI _ d a b => some (kisR 0x26 d a b 0x16)
  | .vsraI _ d a b => some (kisR 0x26 d a b 0x17)
  | .vcltI _ d a b => some (kisR 0x26 d a b 0x18)
  | .vfmaH _ d a b e => some (kisR 0x26 d a b (e.val * 2 ^ 7 + 0x04))
  | .vsel _ d a b e => some (kisR 0x26 d a b (e.val * 2 ^ 7 + 0x0E))
  | .vabsH _ d a => some (kisR 0x26 d a 0 0x07)
  | .vnegH _ d a => some (kisR 0x26 d a 0 0x08)
  | .vrcpH _ d a => some (kisR 0x26 d a 0 0x09)
  | .vrsqH _ d a => some (kisR 0x26 d a 0 0x0A)
  | .vexp2H _ d a => some (kisR 0x26 d a 0 0x0B)
  | .vrsumH _ d va => some (kisR 0x27 d va 0 0x001)
  | .vrmaxH _ d va => some (kisR 0x27 d va 0 0x002)
  | .vrminH _ d va => some (kisR 0x27 d va 0 0x003)
  | .vrsumI _ d va => some (kisR 0x27 d va 0 0x004)
  | .vbcast _ vd a => some (kisR 0x27 vd a 0 0x010)
  | .vext _ d va lane => some (kisR 0x27 d va lane 0x011)
  | .vins _ vd a lane => some (kisR 0x27 vd a lane 0x012)
  | .vldq _ vd a st => some (kisR 0x28 vd a 0 ((if st then 0x10 else 0) + 1))
  | .vcvtHi _ vd va st => some (kisR 0x28 vd va 0 ((if st then 0x10 else 0) + 2))
  | .vcvtIh _ vd va st => some (kisR 0x28 vd va 0 ((if st then 0x10 else 0) + 3))
  | .qsb _ d a b => some (kisR 0x29 d a b 0x001)
  | .dqb _ d a b => some (kisR 0x29 d a b 0x002)
  | .cvtb _ d a b => some (kisR 0x29 d a b 0x003)
  | _ => none

end Sys2Proof
end

