-- ==== Sys2Proof/Config.lean ====
section
/-! DEFINITION. The values that the spec leaves open, as constants without a body, and the functions that published
standards outside the spec fix (SM2, SM3, SM4, HKDF). No proof can see a value of any of them; a statement about one
holds for every value. -/

namespace Sys2Proof

/-- The `n`-th free word: a value that the spec leaves open. The state counts the ones used. -/
opaque Config.freeWord : Nat → Word

/-- Which of the two symbols at one place of the field a burst's decoder corrects, by syndromes and exponent (08 R271). -/
opaque Config.aliasPick : (syndromes exponent : Nat) → Bool

/-- The `n`-th free byte. -/
opaque Config.freeByte : Nat → Byte

/-- The completion status that a site port's own answer carries, by reason: 1 an uncorrectable payload, 2 reset in
progress, 3 target unavailable, 4 bus error; and the source identity of such an answer (11 R381, R386, R392; 18 R597). -/
opaque Config.hubStatus : (reason : Nat) → BitVec 16
opaque Config.answerSid : (site : Nat) → BitVec 48

/-- What the PCI Express standard fixes in a function's configuration space and the spec does not list: the version of a
capability by its ID, and a double word by function and offset, as it stands at reset (13 R456, R457). -/
opaque Config.capVersion : (id : Nat) → BitVec 4
opaque Config.pcieDword : (f offset : Nat) → BitVec 32

/-- What OBS[15:0] show of a group of logic signals, by group, unit and time (15 R531). -/
opaque Config.obsSignals : (group unit time : Nat) → BitVec 16

/-- SM3 digest of a byte sequence (14 R502, R510; 16 R541; 17 R578), as a number whose bits [8i+7:8i] are byte i. -/
opaque Config.sm3 : List Byte → Nat

/-- Whether an SM2 signature (given with the key's digest and the signed bytes) verifies (16 R541, 15 R527). -/
opaque Config.sm2Verify : (key : Nat) → (msg : List Byte) → (sig : List Byte) → Bool

/-- The unit's unique secret, fused at the transition to TEST; the device identity key derived from the fused bits, and the
alias key derived from that key and the digests of measurement blocks 1 to 3 (14 R498; 15 R520). -/
opaque Config.uniqueSecret : Nat
opaque Config.identityKey : (secret : Nat) → Nat
opaque Config.aliasKey : (identity : Nat) → (digests : List Byte) → Nat

/-- The certificates of slot 0, production CA, device identity and alias, by the two keys (14 R499). -/
opaque Config.certificates : (identity alias_ : Nat) → List Byte

/-- The SM2 signature that a key gives over bytes (14 R498, R501, R515). -/
opaque Config.sm2Sign : (key : Nat) → List Byte → Nat

/-- What a boundary-scan or full-scan shift reads of the dies, by instruction and by a counter; no rule gives the chains (15
R520). -/
opaque Config.scanShift : (instruction at_ : Nat) → List Byte

/-- Key derivation of a sealed window: session secret, context bytes (14 R504). -/
opaque Config.hkdf : (secret : Nat) → List Byte → Nat

/-- The SM4 block cipher (GB/T 32907) of 14 R505: key and 128-bit block to 128-bit block. -/
opaque Config.sm4Block : (key block : Nat) → Nat

/-- The random nonces, by a counter (14 R499, 15 R526). -/
opaque Config.nonce : Nat → Word

/-- The version string of a firmware image, by the image's digest: no rule gives its form (14 R501). -/
opaque Config.versionString : (digest : Nat) → List Byte

/-- The digest of the Crocus boot ROM (14 R501). -/
opaque Config.romDigest : Nat

/-- The digests of the life-cycle keys and of the image keys (15 R525; 16 R541). -/
opaque Config.lcManufKey : Nat
opaque Config.lcServiceKey : Nat
opaque Config.fwManufKey : Nat
opaque Config.fwProdKey : Nat

end Sys2Proof
end

