-- ==== Sys2Proof/Machine/Regs.lean ====
section
/-! DEFINITION. Where every R-space register stands (its offset, as the register maps of the chapters give it) and where
its fields lie. A field is named by register and bits; offsets are relative to R-space 0x2000_0000_0000 (00 R9). The
BAR0 pages of the host functions (13 R463) are no part of R-space: they stand under keys from 2^32 upward (`hepKey`). -/

namespace Sys2Proof.Machine

/-- One field of one register: the register's offset, the field's highest and lowest bit. -/
structure Fld where
  off : Nat
  hi : Nat
  lo : Nat
  deriving DecidableEq, Repr

/-- Width of a field in bits. -/
def Fld.width (f : Fld) : Nat := f.hi + 1 - f.lo

/-- A field that lies inside its word. -/
def Fld.fits (f : Fld) : Bool := decide (f.hi < 64) && decide (f.lo ≤ f.hi)

/-- Two fields without a bit in common. -/
def Fld.apart (f g : Fld) : Bool := decide (f.off ≠ g.off) || decide (f.hi < g.lo) || decide (g.hi < f.lo)

/-- The field of bits hi..lo of a word, as a number. -/
def bitsOf (w : Word) (hi lo : Nat) : Nat := (w.toNat >>> lo) % 2 ^ (hi + 1 - lo)

/-- The word with bits hi..lo replaced by the low bits of v. -/
def putBits (w : Word) (hi lo v : Nat) : Word :=
  let n := hi + 1 - lo
  BitVec.ofNat 64 (w.toNat - (bitsOf w hi lo) * 2 ^ lo + (v % 2 ^ n) * 2 ^ lo)

/-! ## 00, 01: identity, hub dies, sites -/

def devId : Nat := 0x0000
def fDevStepping : Fld := ⟨devId, 47, 40⟩
def fDevStackCap : Fld := ⟨devId, 39, 32⟩
def fDevOint : Fld := ⟨devId, 31, 24⟩
def fDevOpenPop : Fld := ⟨devId, 23, 16⟩

def hubDie (k : Nat) : Nat := 0x0040 + 8 * k
def fDieUid (k : Nat) : Fld := ⟨hubDie k, 55, 40⟩
def fDieStepping (k : Nat) : Fld := ⟨hubDie k, 39, 32⟩
def fDieRxS (k : Nat) : Fld := ⟨hubDie k, 10, 10⟩
def fDieRxE (k : Nat) : Fld := ⟨hubDie k, 9, 9⟩
def fDieRotValid (k : Nat) : Fld := ⟨hubDie k, 8, 8⟩
def fDieSeamS (k : Nat) : Fld := ⟨hubDie k, 7, 7⟩
def fDieSeamE (k : Nat) : Fld := ⟨hubDie k, 6, 6⟩
def fDieNbrS (k : Nat) : Fld := ⟨hubDie k, 5, 4⟩
def fDieNbrE (k : Nat) : Fld := ⟨hubDie k, 3, 2⟩
def fDieStrap (k : Nat) : Fld := ⟨hubDie k, 1, 0⟩

def siteCfg (n : Nat) : Nat := 0x1000 + 8 * n
def fSitePwrCap (n : Nat) : Fld := ⟨siteCfg n, 47, 40⟩
def fSiteSpareUsed (n : Nat) : Fld := ⟨siteCfg n, 39, 32⟩
def fSiteWidth (n : Nat) : Fld := ⟨siteCfg n, 31, 30⟩
def fSiteState (n : Nat) : Fld := ⟨siteCfg n, 27, 24⟩
def fSiteType (n : Nat) : Fld := ⟨siteCfg n, 19, 16⟩
def fSiteGy (n : Nat) : Fld := ⟨siteCfg n, 14, 12⟩
def fSiteGx (n : Nat) : Fld := ⟨siteCfg n, 10, 8⟩
def fSiteQuad (n : Nat) : Fld := ⟨siteCfg n, 7, 6⟩
def fSiteLocal (n : Nat) : Fld := ⟨siteCfg n, 3, 0⟩

/-! ## 02: tiles -/

def tileBlk (t : Nat) : Nat := 0x00100000 + 0x1000 * t
def tileStatus (t : Nat) : Nat := tileBlk t
def fTileAbsent (t : Nat) : Fld := ⟨tileStatus t, 44, 32⟩
def fTileSpares (t : Nat) : Fld := ⟨tileStatus t, 28, 20⟩
def fTileCdom (t : Nat) : Fld := ⟨tileStatus t, 15, 8⟩
def fTileRot (t : Nat) : Fld := ⟨tileStatus t, 7, 6⟩
def tileRemap (t y : Nat) : Nat := tileBlk t + 0x100 + 8 * y
def fRemapUsed (t y b : Nat) : Fld := ⟨tileRemap t y, 8 * b + 7, 8 * b + 7⟩
def fRemapJ (t y b : Nat) : Fld := ⟨tileRemap t y, 8 * b + 4, 8 * b⟩
def tileAbsLo (t y : Nat) : Nat := tileBlk t + 0x400 + 8 * y
def tileAbsHi (t y : Nat) : Nat := tileBlk t + 0x700 + 8 * y
/-- The absence bit of logical core (x, y) of tile t (02, TILE_ABSLOy and TILE_ABSHIy). -/
def fAbsent (t x y : Nat) : Fld :=
  if x < 64 then ⟨tileAbsLo t y, x, x⟩ else ⟨tileAbsHi t y, x - 64, x - 64⟩

/-! ## 06: guard floors -/

def grdFloor (p : Nat) : Nat := 0x00090000 + 8 * p
def fFloor (p cls : Nat) : Fld := ⟨grdFloor p, 2 * cls + 1, 2 * cls⟩

/-! ## 07: cache maintenance and the coherent domain -/

def cmoAddr (c : Nat) : Nat := 0x00080000 + 0x40 * c
def cmoLen (c : Nat) : Nat := cmoAddr c + 0x08
def cmoCtl (c : Nat) : Nat := cmoAddr c + 0x10
def cmoSt (c : Nat) : Nat := cmoAddr c + 0x18
def fCmoAddr (c : Nat) : Fld := ⟨cmoAddr c, 47, 6⟩
def fCmoLen (c : Nat) : Fld := ⟨cmoLen c, 47, 6⟩
def fCmoDropped (c : Nat) : Fld := ⟨cmoSt c, 47, 32⟩
def fCmoWb (c : Nat) : Fld := ⟨cmoSt c, 31, 8⟩
def fCmoRej (c : Nat) : Fld := ⟨cmoSt c, 3, 3⟩
def fCmoErr (c : Nat) : Fld := ⟨cmoSt c, 2, 2⟩
def fCmoDone (c : Nat) : Fld := ⟨cmoSt c, 1, 1⟩
def fCmoBusy (c : Nat) : Fld := ⟨cmoSt c, 0, 0⟩

def ccxDomst : Nat := 0x00081000
def fDomCause : Fld := ⟨ccxDomst, 55, 48⟩
def fDomDead : Fld := ⟨ccxDomst, 44, 40⟩
def fDomCe : Fld := ⟨ccxDomst, 33, 18⟩
def fDomActive : Fld := ⟨ccxDomst, 17, 0⟩

/-! ## 08: stacks -/

def stkBlk (t : Nat) : Nat := 0x00200000 + 0x1000 * t
def stkStatus (t : Nat) : Nat := stkBlk t
def fStkDerate (t : Nat) : Fld := ⟨stkStatus t, 47, 43⟩
def fStkSpareFree (t : Nat) : Fld := ⟨stkStatus t, 39, 32⟩
def fStkSpareFor (t : Nat) : Fld := ⟨stkStatus t, 28, 24⟩
def fStkState (t : Nat) : Fld := ⟨stkStatus t, 19, 16⟩
def fStkUnit (t : Nat) : Fld := ⟨stkStatus t, 15, 8⟩
def fStkRkind (t : Nat) : Fld := ⟨stkStatus t, 7, 6⟩
def stkRepair (t : Nat) : Nat := stkBlk t + 0x008
def fStkCopied (t : Nat) : Fld := ⟨stkRepair t, 57, 32⟩
def fStkTotal (t : Nat) : Fld := ⟨stkRepair t, 25, 0⟩
def stkTherm (t : Nat) : Nat := stkBlk t + 0x010
def fStkHotLayer (t : Nat) : Fld := ⟨stkTherm t, 40, 36⟩
def fStkRefresh (t : Nat) : Fld := ⟨stkTherm t, 35, 34⟩
def fStkHold (t : Nat) : Fld := ⟨stkTherm t, 33, 33⟩
def fStkTmax (t : Nat) : Fld := ⟨stkTherm t, 31, 16⟩
def fStkTbase (t : Nat) : Fld := ⟨stkTherm t, 15, 0⟩
def stkIlv (t j : Nat) : Nat := stkBlk t + 0x100 + 8 * j
/-- The interleave entry of logical channel c (08 R268). -/
def fStkIlv (t c : Nat) : Fld := ⟨stkIlv t (c / 8), 8 * (c % 8) + 7, 8 * (c % 8)⟩
def stkChst (t p : Nat) : Nat := stkBlk t + 0x200 + 8 * p
def fChCe (t p : Nat) : Fld := ⟨stkChst t p, 55, 40⟩
def fChUe (t p : Nat) : Fld := ⟨stkChst t p, 39, 32⟩
def fChTtrain (t p : Nat) : Fld := ⟨stkChst t p, 31, 24⟩
def fChErase (t p : Nat) : Fld := ⟨stkChst t p, 20, 16⟩
def fChDue (t p : Nat) : Fld := ⟨stkChst t p, 12, 12⟩
def fChState (t p : Nat) : Fld := ⟨stkChst t p, 11, 8⟩
def fChLch (t p : Nat) : Fld := ⟨stkChst t p, 6, 0⟩
def stkRet (t k : Nat) : Nat := stkBlk t + 0x800 + 8 * k
def fRetValid (t k : Nat) : Fld := ⟨stkRet t k, 63, 63⟩
def fRetFill (t k : Nat) : Fld := ⟨stkRet t k, 62, 62⟩
def fRetRepl (t k : Nat) : Fld := ⟨stkRet t k, 49, 32⟩
def fRetRetired (t k : Nat) : Fld := ⟨stkRet t k, 17, 0⟩

/-! ## 09: faults and translation -/

def fltRec (u i w : Nat) : Nat := 0x00300000 + 0x4000 * u + 0x40 * i + 8 * w
def fltBlk (u : Nat) : Nat := 0x00350000 + 0x40 * u
def fFltProd (u : Nat) : Fld := ⟨fltBlk u, 31, 0⟩
def fFltCons (u : Nat) : Fld := ⟨fltBlk u + 0x08, 31, 0⟩
def fFltOvf (u : Nat) : Fld := ⟨fltBlk u + 0x10, 63, 48⟩
def fFltNkLost (u : Nat) : Fld := ⟨fltBlk u + 0x10, 47, 32⟩
def fFltPend (u : Nat) : Fld := ⟨fltBlk u + 0x10, 31, 16⟩
def fFltPushErr (u : Nat) : Fld := ⟨fltBlk u + 0x10, 3, 3⟩
def fFltRsErr (u : Nat) : Fld := ⟨fltBlk u + 0x10, 2, 2⟩
def fFltFull (u : Nat) : Fld := ⟨fltBlk u + 0x10, 0, 0⟩
def fltRslv (u : Nat) : Nat := fltBlk u + 0x18
def fltPush (u : Nat) : Nat := fltBlk u + 0x20

def trnE (c e w : Nat) : Nat := 0x00400000 + 0x1000 * c + 0x20 * e + 8 * w
def fTrnValid (c e : Nat) : Fld := ⟨trnE c e 0, 63, 63⟩
def fTrnDva (c e : Nat) : Fld := ⟨trnE c e 0, 47, 12⟩
def fTrnPages (c e : Nat) : Fld := ⟨trnE c e 1, 35, 0⟩
def fTrnTgt (c e : Nat) : Fld := ⟨trnE c e 2, 47, 12⟩
def fTrnCommons (c e : Nat) : Fld := ⟨trnE c e 2, 3, 3⟩
def fTrnA (c e : Nat) : Fld := ⟨trnE c e 2, 2, 2⟩
def fTrnW (c e : Nat) : Fld := ⟨trnE c e 2, 1, 1⟩
def fTrnR (c e : Nat) : Fld := ⟨trnE c e 2, 0, 0⟩
def trnStg (w : Nat) : Nat := 0x00420000 + 8 * w
def trnCmd : Nat := 0x00420018
def trnCmdSt : Nat := 0x00420020
def fTrnCode : Fld := ⟨trnCmdSt, 7, 4⟩
def fTrnErr : Fld := ⟨trnCmdSt, 2, 2⟩
def fTrnDone : Fld := ⟨trnCmdSt, 1, 1⟩
def fTrnBusy : Fld := ⟨trnCmdSt, 0, 0⟩

/-! ## 10: the tick sequencer -/

def tsqCtrl : Nat := 0x00500000
def fTsqSwap : Fld := ⟨tsqCtrl, 2, 2⟩
def fTsqBank : Fld := ⟨tsqCtrl, 1, 1⟩
def fTsqRun : Fld := ⟨tsqCtrl, 0, 0⟩
def tsqPeriod : Nat := 0x00500008
def fTsqGuard : Fld := ⟨tsqPeriod, 51, 32⟩
def fTsqT : Fld := ⟨tsqPeriod, 19, 0⟩
def tsqStat : Nat := 0x00500010
def fTsqToff : Fld := ⟨tsqStat, 51, 32⟩
def fTsqPc : Fld := ⟨tsqStat, 31, 16⟩
def fTsqExt : Fld := ⟨tsqStat, 5, 5⟩
def fTsqEnded : Fld := ⟨tsqStat, 4, 4⟩
def fTsqPend : Fld := ⟨tsqStat, 3, 3⟩
def fTsqPhase : Fld := ⟨tsqStat, 2, 0⟩
def tsqTick : Nat := 0x00500018
def fTsqTick : Fld := ⟨tsqTick, 63, 0⟩
def tsqAdm : Nat := 0x00500020
def fAdmEnd : Fld := ⟨tsqAdm, 63, 44⟩
def fAdmPc : Fld := ⟨tsqAdm, 43, 28⟩
def fAdmStack : Fld := ⟨tsqAdm, 27, 22⟩
def fAdmTask : Fld := ⟨tsqAdm, 21, 12⟩
def fAdmCode : Fld := ⟨tsqAdm, 11, 4⟩
def fAdmBusy : Fld := ⟨tsqAdm, 0, 0⟩
def tsqOvr : Nat := 0x00500028
def fOvrOvr : Fld := ⟨tsqOvr, 63, 48⟩
def fOvrAbort : Fld := ⟨tsqOvr, 47, 32⟩
def fOvrCarry : Fld := ⟨tsqOvr, 31, 16⟩
def fOvrCut : Fld := ⟨tsqOvr, 15, 0⟩
def tsqCfg : Nat := 0x00500030
def fTsqMargin : Fld := ⟨tsqCfg, 15, 8⟩
def fTsqStep : Fld := ⟨tsqCfg, 3, 0⟩
def tsqTcmd : Nat := 0x00500040
def tsqTcmdSt : Nat := 0x00500048
def fTcmdCode : Fld := ⟨tsqTcmdSt, 7, 4⟩
def fTcmdErr : Fld := ⟨tsqTcmdSt, 2, 2⟩
def fTcmdDone : Fld := ⟨tsqTcmdSt, 1, 1⟩
def fTcmdBusy : Fld := ⟨tsqTcmdSt, 0, 0⟩
def fTsqIng (u : Nat) : Fld := ⟨0x00500100 + 8 * u, 31, 0⟩
def seqSlot (n w : Nat) : Nat := 0x00520000 + 0x20 * n + 8 * w
def fSlotTenant (n : Nat) : Fld := ⟨seqSlot n 0, 7, 4⟩
def fSlotCsel (n : Nat) : Fld := ⟨seqSlot n 0, 1, 1⟩
def fSlotValid (n : Nat) : Fld := ⟨seqSlot n 0, 0, 0⟩
def fSlotSta (n : Nat) : Fld := ⟨seqSlot n 1, 47, 0⟩
def fSlotStb (n : Nat) : Fld := ⟨seqSlot n 2, 47, 0⟩
def fSlotPos (n : Nat) : Fld := ⟨seqSlot n 3, 31, 0⟩
def tsqTst (k : Nat) : Nat := 0x00540000 + 8 * k
def fTstOvr (k : Nat) : Fld := ⟨tsqTst k, 63, 48⟩
def fTstCtick (k : Nat) : Fld := ⟨tsqTst k, 47, 16⟩
def fTstFpend (k : Nat) : Fld := ⟨tsqTst k, 5, 5⟩
def fTstMism (k : Nat) : Fld := ⟨tsqTst k, 4, 4⟩
def fTstState (k : Nat) : Fld := ⟨tsqTst k, 3, 0⟩
def tsqProg (b i : Nat) : Nat := 0x00600000 + 0x80000 * b + 8 * i
def tsqTd (k w : Nat) : Nat := 0x00700000 + 0x80 * k + 8 * w

/-! ## 11: hub network, probes, events, labels -/

def hubRcfg : Nat := 0x00900000
def fXen : Fld := ⟨hubRcfg, 8, 8⟩
def fXthr : Fld := ⟨hubRcfg, 3, 0⟩
def hubXwg (w : Nat) : Nat := 0x00900100 + 8 * w
def fXwgState (w : Nat) : Fld := ⟨hubXwg w, 43, 40⟩
def fXwgTtrain (w : Nat) : Fld := ⟨hubXwg w, 39, 32⟩
def fXwgLmap (w : Nat) : Fld := ⟨hubXwg w, 31, 0⟩
def hubRst (n : Nat) : Nat := 0x00910000 + 0x400 * n
def fRstCe (n : Nat) : Fld := ⟨hubRst n, 63, 48⟩
def fRstReplay (n : Nat) : Fld := ⟨hubRst n, 47, 32⟩
def fRstStale (n : Nat) : Fld := ⟨hubRst n, 31, 16⟩
def hubRwid (n : Nat) : Nat := hubRst n + 8
def fWid (n d : Nat) : Fld := ⟨hubRwid n, 6 * d + 5, 6 * d + 4⟩
def fSpw (n d : Nat) : Fld := ⟨hubRwid n, 6 * d + 3, 6 * d⟩
def lupCtl (n j : Nat) : Nat := hubRst n + 0x100 + 0x40 * j
def fLupOwner (n j : Nat) : Fld := ⟨lupCtl n j, 58, 55⟩
def fLupTown (n j : Nat) : Fld := ⟨lupCtl n j, 54, 54⟩
def fLupPorts (n j : Nat) : Fld := ⟨lupCtl n j, 53, 49⟩
def fLupPhases (n j : Nat) : Fld := ⟨lupCtl n j, 48, 44⟩
def fLupShift (n j : Nat) : Fld := ⟨lupCtl n j, 43, 40⟩
def fLupTrace (n j : Nat) : Fld := ⟨lupCtl n j, 2, 2⟩
def fLupMode (n j : Nat) : Fld := ⟨lupCtl n j, 1, 0⟩
def fLupMatch (n j : Nat) : Fld := ⟨lupCtl n j + 8, 56, 16⟩
def fLupMask (n j : Nat) : Fld := ⟨lupCtl n j + 16, 56, 16⟩
def fLupCnt (n j : Nat) : Fld := ⟨lupCtl n j + 24, 47, 0⟩
def evqW (u i : Nat) : Nat := 0x00800000 + 0x8000 * u + 8 * i
def evqBlk (u : Nat) : Nat := 0x008C0000 + 0x40 * u
def fEvqPprod (u : Nat) : Fld := ⟨evqBlk u, 31, 0⟩
def fEvqPcons (u : Nat) : Fld := ⟨evqBlk u + 0x08, 31, 0⟩
def fEvqNprod (u : Nat) : Fld := ⟨evqBlk u + 0x10, 31, 0⟩
def fEvqNcons (u : Nat) : Fld := ⟨evqBlk u + 0x18, 31, 0⟩
def fEvqOvw (u : Nat) : Fld := ⟨evqBlk u + 0x20, 63, 48⟩
def fEvqPlost (u : Nat) : Fld := ⟨evqBlk u + 0x20, 47, 32⟩
def fEvqUnd (u : Nat) : Fld := ⟨evqBlk u + 0x20, 31, 16⟩
def fEvqPterr (u : Nat) : Fld := ⟨evqBlk u + 0x20, 2, 2⟩
def fEvqPnz (u : Nat) : Fld := ⟨evqBlk u + 0x20, 1, 1⟩
def fEvqNnz (u : Nat) : Fld := ⟨evqBlk u + 0x20, 0, 0⟩
def slrCfg (l : Nat) : Nat := 0x00940000 + 8 * l
def fSlrTarget (l : Nat) : Fld := ⟨slrCfg l, 63, 48⟩
def fSlrOl (l : Nat) : Fld := ⟨slrCfg l, 39, 32⟩
def fSlrBe (l : Nat) : Fld := ⟨slrCfg l, 31, 16⟩
def slgSt : Nat := 0x00940040
def fSlgElem : Fld := ⟨slgSt, 63, 32⟩
def fSlgCode : Fld := ⟨slgSt, 7, 4⟩
def fSlgErr : Fld := ⟨slgSt, 1, 1⟩
def fSlgBusy : Fld := ⟨slgSt, 0, 0⟩
def slg (g : Nat) : Nat := 0x00940100 + 8 * g
def fSlgValid (g : Nat) : Fld := ⟨slg g, 63, 63⟩
def fSlgDir (g : Nat) : Fld := ⟨slg g, 62, 62⟩
def fSlgLabel (g : Nat) : Fld := ⟨slg g, 61, 59⟩
def fSlgTenant (g : Nat) : Fld := ⟨slg g, 58, 55⟩
def fSlgRes (g : Nat) : Fld := ⟨slg g, 54, 48⟩
def fSlgRate (g : Nat) : Fld := ⟨slg g, 47, 32⟩
def fSlgEff (g : Nat) : Fld := ⟨slg g, 31, 16⟩

/-! ## 12: open sites -/

def osBlk (k : Nat) : Nat := 0x00A00000 + 0x1000 * k
def fOsCause (k : Nat) : Fld := ⟨osBlk k, 55, 48⟩
def fOsRjerr (k : Nat) : Fld := ⟨osBlk k, 45, 45⟩
def fOsRejoins (k : Nat) : Fld := ⟨osBlk k, 44, 42⟩
def fOsVer (k : Nat) : Fld := ⟨osBlk k, 39, 32⟩
def fOsRate (k : Nat) : Fld := ⟨osBlk k, 31, 24⟩
def fOsMods (k : Nat) : Fld := ⟨osBlk k, 23, 20⟩
def fOsNodes (k : Nat) : Fld := ⟨osBlk k, 15, 8⟩
def fOsLstate (k : Nat) : Fld := ⟨osBlk k, 3, 0⟩
def osCtl (k : Nat) : Nat := osBlk k + 0x008
def fOsRateMax (k : Nat) : Fld := ⟨osCtl k, 13, 8⟩
def fOsLanes (k m : Nat) : Fld := ⟨osBlk k + 0x010, 8 * m + 7, 8 * m⟩
def osNeg (k : Nat) : Nat := osBlk k + 0x018
def fOsMaker (k : Nat) : Fld := ⟨osNeg k, 63, 48⟩
def fOsChiplet (k : Nat) : Fld := ⟨osNeg k, 47, 32⟩
def fOsRev (k : Nat) : Fld := ⟨osNeg k, 31, 16⟩
def fOsFeat (k : Nat) : Fld := ⟨osNeg k, 15, 8⟩
def fOsVmap (k : Nat) : Fld := ⟨osNeg k, 7, 0⟩
def osPwr (k : Nat) : Nat := osBlk k + 0x020
def fOsLevel (k : Nat) : Fld := ⟨osPwr k, 50, 48⟩
def fOsPwrDecl (k : Nat) : Fld := ⟨osPwr k, 47, 40⟩
def fOsTjMax (k : Nat) : Fld := ⟨osPwr k, 39, 32⟩
def fOsTguest (k : Nat) : Fld := ⟨osPwr k, 31, 16⟩
def fOsPmeas (k : Nat) : Fld := ⟨osPwr k, 15, 0⟩
def osGrant (k u : Nat) : Nat := osBlk k + 0x100 + 8 * u
def fGrantPtask (k u : Nat) : Fld := ⟨osGrant k u, 13, 4⟩
def fGrantLabel (k u : Nat) : Fld := ⟨osGrant k u, 3, 1⟩
def fGrantEn (k u : Nat) : Fld := ⟨osGrant k u, 0, 0⟩
def osDesc (k i : Nat) : Nat := osBlk k + 0x800 + 8 * i

/-! ## 13: host endpoint -/

def htBind (q f : Nat) : Nat := 0x00B00000 + 0x1000 * q + 8 * f
def fBindEn (q f : Nat) : Fld := ⟨htBind q f, 63, 63⟩
def fBindTenant (q f : Nat) : Fld := ⟨htBind q f, 62, 59⟩
def fBindLabel (q f : Nat) : Fld := ⟨htBind q f, 58, 56⟩
def fBindAdmin (q f : Nat) : Fld := ⟨htBind q f, 55, 55⟩
def fBindWbase (q f : Nat) : Fld := ⟨htBind q f, 47, 12⟩
def hepPort (q : Nat) : Nat := 0x00B00000 + 0x1000 * q + 0x100
def fPortLost (q : Nat) : Fld := ⟨hepPort q, 63, 48⟩
def fPortAbsorbed (q : Nat) : Fld := ⟨hepPort q, 47, 32⟩
def fPortLanes (q : Nat) : Fld := ⟨hepPort q, 20, 16⟩
def fPortSpeed (q : Nat) : Fld := ⟨hepPort q, 15, 12⟩
def fPortState (q : Nat) : Fld := ⟨hepPort q, 5, 4⟩
def fPortQdone (q : Nat) : Fld := ⟨hepPort q, 2, 2⟩

/-- The key of BAR0 offset `o` of function `f` of host tile `q` (13 R463); no R-space offset reaches 2^32. -/
def hepKey (q f o : Nat) : Nat := 2 ^ 32 + (q * 32 + f) * 2 ^ 20 + o
def hepFstat (q f : Nat) : Nat := hepKey q f 0
def fFstAbsent (q f : Nat) : Fld := ⟨hepFstat q f, 7, 7⟩
def fFstCfgerr (q f : Nat) : Fld := ⟨hepFstat q f, 6, 6⟩
def fFstSafe (q f : Nat) : Fld := ⟨hepFstat q f, 5, 5⟩
def fFstPaused (q f : Nat) : Fld := ⟨hepFstat q f, 4, 4⟩
def fFstFlr (q f : Nat) : Fld := ⟨hepFstat q f, 3, 3⟩
def hepIvec (q f : Nat) : Nat := hepKey q f 8
def fIvecEnStat (q f : Nat) : Fld := ⟨hepIvec q f, 63, 63⟩
def fIvecEnFlt (q f : Nat) : Fld := ⟨hepIvec q f, 62, 62⟩
def fIvecEnEvn (q f : Nat) : Fld := ⟨hepIvec q f, 61, 61⟩
def fIvecEnEvp (q f : Nat) : Fld := ⟨hepIvec q f, 60, 60⟩
def fIvecVStat (q f : Nat) : Fld := ⟨hepIvec q f, 43, 33⟩
def fIvecVFlt (q f : Nat) : Fld := ⟨hepIvec q f, 32, 22⟩
def fIvecVEvn (q f : Nat) : Fld := ⟨hepIvec q f, 21, 11⟩
def fIvecVEvp (q f : Nat) : Fld := ⟨hepIvec q f, 10, 0⟩
def sqAddr (q f i : Nat) : Nat := hepKey q f (0x2000 + 0x20 * i)
def sqCtl (q f i : Nat) : Nat := hepKey q f (0x2008 + 0x20 * i)
def cqAddr (q f i : Nat) : Nat := hepKey q f (0x2010 + 0x20 * i)
def cqCtl (q f i : Nat) : Nat := hepKey q f (0x2018 + 0x20 * i)
def fSqBase (q f i : Nat) : Fld := ⟨sqAddr q f i, 63, 12⟩
def fCqBase (q f i : Nat) : Fld := ⟨cqAddr q f i, 63, 12⟩
def fSqHead (q f i : Nat) : Fld := ⟨sqCtl q f i, 27, 16⟩
def fSqK (q f i : Nat) : Fld := ⟨sqCtl q f i, 7, 4⟩
def fSqErr (q f i : Nat) : Fld := ⟨sqCtl q f i, 3, 3⟩
def fSqEn (q f i : Nat) : Fld := ⟨sqCtl q f i, 0, 0⟩
def fCqVec (q f i : Nat) : Fld := ⟨cqCtl q f i, 50, 40⟩
def fCqCcnt (q f i : Nat) : Fld := ⟨cqCtl q f i, 39, 32⟩
def fCqCtime (q f i : Nat) : Fld := ⟨cqCtl q f i, 31, 16⟩
def fCqK (q f i : Nat) : Fld := ⟨cqCtl q f i, 7, 4⟩
def fCqErr (q f i : Nat) : Fld := ⟨cqCtl q f i, 3, 3⟩
def fCqEn (q f i : Nat) : Fld := ⟨cqCtl q f i, 0, 0⟩
/-- HEP_RECOV, BAR0 offset 0x4_0008 of PF0 (16 R545). -/
def hepRecov (q : Nat) : Nat := hepKey q 0 0x40008
def fRecLen64 (q : Nat) : Fld := ⟨hepRecov q, 31, 8⟩
def fRecState (q : Nat) : Fld := ⟨hepRecov q, 7, 5⟩
def fRecOther (q : Nat) : Fld := ⟨hepRecov q, 4, 4⟩
def fRecOwn (q : Nat) : Fld := ⟨hepRecov q, 3, 3⟩
def fRecBusy (q : Nat) : Fld := ⟨hepRecov q, 0, 0⟩
/-- One 16-byte MSI-X table entry of a function: its first word and its second (vector control in [63:32]). -/
def msixLo (q f v : Nat) : Nat := hepKey q f (0x20000 + 16 * v)
def msixHi (q f v : Nat) : Nat := hepKey q f (0x20008 + 16 * v)
def fMsixMask (q f v : Nat) : Fld := ⟨msixHi q f v, 32, 32⟩
def fMsixPba (q f v : Nat) : Fld := ⟨hepKey q f (0x28000 + 8 * (v / 64)), v % 64, v % 64⟩

/-! ## 14: tenancy -/

def tenCfg (u : Nat) : Nat := 0x00C00000 + 0x100 * u
def fTenValid (u : Nat) : Fld := ⟨tenCfg u, 63, 63⟩
def fTenConf (u : Nat) : Fld := ⟨tenCfg u, 62, 62⟩
def fTenState (u : Nat) : Fld := ⟨tenCfg u, 61, 60⟩
def fTenTiles (u : Nat) : Fld := ⟨tenCfg u, 47, 0⟩
def tenKey (u j : Nat) : Nat := tenCfg u + 0x08 + 8 * j
def tenDig (u j : Nat) : Nat := tenCfg u + 0x28 + 8 * j
def fTenDgen (u : Nat) : Fld := ⟨tenCfg u + 0x48, 31, 0⟩
def sealA (u i : Nat) : Nat := tenCfg u + 0x80 + 0x10 * i
def sealB (u i : Nat) : Nat := tenCfg u + 0x88 + 0x10 * i
def fSealValid (u i : Nat) : Fld := ⟨sealA u i, 63, 63⟩
def fSealLocked (u i : Nat) : Fld := ⟨sealA u i, 62, 62⟩
def fSealDva (u i : Nat) : Fld := ⟨sealA u i, 47, 12⟩
def fSealGen (u i : Nat) : Fld := ⟨sealB u i, 63, 32⟩
def fSealPages (u i : Nat) : Fld := ⟨sealB u i, 31, 0⟩
def tenTile (t : Nat) : Nat := 0x00C10000 + 8 * t
def fTileOwner (t : Nat) : Fld := ⟨tenTile t, 7, 4⟩
def fTileState (t : Nat) : Fld := ⟨tenTile t, 1, 0⟩
def tenPerm (u i : Nat) : Nat := 0x00C20000 + 0x100 * u + 8 * i
def fPermValid (u i : Nat) : Fld := ⟨tenPerm u i, 63, 63⟩
def fPermSite (u i : Nat) : Fld := ⟨tenPerm u i, 50, 48⟩
def fPermHi (u i : Nat) : Fld := ⟨tenPerm u i, 47, 32⟩
def fPermLo (u i : Nat) : Fld := ⟨tenPerm u i, 15, 0⟩
def comRgn (r : Nat) : Nat := 0x00C30000 + 0x10 * r
def fRgnValid (r : Nat) : Fld := ⟨comRgn r, 63, 63⟩
def fRgnSealed (r : Nat) : Fld := ⟨comRgn r, 62, 62⟩
def fRgnStack (r : Nat) : Fld := ⟨comRgn r, 61, 56⟩
def fRgnFirst (r : Nat) : Fld := ⟨comRgn r, 55, 38⟩
def fRgnNg (r : Nat) : Fld := ⟨comRgn r, 37, 20⟩
def fRgnMap (r : Nat) : Fld := ⟨comRgn r, 19, 4⟩
def comRld (r : Nat) : Nat := comRgn r + 8
def fRldActive (r : Nat) : Fld := ⟨comRld r, 63, 63⟩
def fRldGranule (r : Nat) : Fld := ⟨comRld r, 17, 0⟩

/-! ## 15: life cycle -/

def lcsState : Nat := 0x00D00000
def fLcsSlots : Fld := ⟨lcsState, 44, 40⟩
def fLcsOpens : Fld := ⟨lcsState, 34, 32⟩
def fLcsBusy : Fld := ⟨lcsState, 17, 17⟩
def fLcsTorn : Fld := ⟨lcsState, 16, 16⟩
def fLcsPos : Fld := ⟨lcsState, 12, 8⟩
def fLcsState : Fld := ⟨lcsState, 2, 0⟩
def lcsNonce : Nat := 0x00D00008
def fLcsNonce : Fld := ⟨lcsNonce, 63, 0⟩
def lcsResult : Nat := 0x00D00010
def fLcsCode : Fld := ⟨lcsResult, 15, 8⟩
def fLcsErr : Fld := ⟨lcsResult, 1, 1⟩
def fLcsDone : Fld := ⟨lcsResult, 0, 0⟩
def lcsCmd : Nat := 0x00D00038
def lcsReq (w : Nat) : Nat := 0x00D00040 + 8 * w
def tstObssel : Nat := 0x00D00100
def fObsUnit : Fld := ⟨tstObssel, 13, 8⟩
def fObsGrp : Fld := ⟨tstObssel, 2, 0⟩

/-! ## 16: bring-up, reset, self-test -/

def bootStat : Nat := 0x00E00000
def fBootCause : Fld := ⟨bootStat, 47, 40⟩
def fBootStep : Fld := ⟨bootStat, 39, 32⟩
def fBootLogok : Fld := ⟨bootStat, 5, 5⟩
def fBootNostore : Fld := ⟨bootStat, 4, 4⟩
def fBootMode : Fld := ⟨bootStat, 3, 0⟩
def bootImg : Nat := 0x00E00008
def fImgSvn : Fld := ⟨bootImg, 63, 32⟩
def fImgFloor : Fld := ⟨bootImg, 31, 24⟩
def fImgLen64 : Fld := ⟨bootImg, 23, 0⟩
def fBootTime : Fld := ⟨0x00E00010, 31, 0⟩
def bootCtl : Nat := 0x00E00018
def rstCtl : Nat := 0x00E00020
def rstStat : Nat := 0x00E00028
def fRstDropped : Fld := ⟨rstStat, 63, 48⟩
def fRstAbsorbed : Fld := ⟨rstStat, 47, 32⟩
def fRstCode : Fld := ⟨rstStat, 11, 8⟩
def fRstErr : Fld := ⟨rstStat, 2, 2⟩
def fRstDone : Fld := ⟨rstStat, 1, 1⟩
def fRstBusy : Fld := ⟨rstStat, 0, 0⟩
def fFscanEn : Fld := ⟨0x00E00040, 0, 0⟩
def fscanStat : Nat := 0x00E00048
def fFscanPass : Fld := ⟨fscanStat, 63, 48⟩
def fFscanFail : Fld := ⟨fscanStat, 47, 32⟩
def fFscanSkip : Fld := ⟨fscanStat, 31, 16⟩
def fFscanAbort : Fld := ⟨fscanStat, 15, 8⟩
def fFscanNostore : Fld := ⟨fscanStat, 0, 0⟩
def fFscanSet : Fld := ⟨0x00E00050, 21, 16⟩
def fFscanBlock : Fld := ⟨0x00E00050, 9, 0⟩

/-! ## 17: reliability -/

def relStat : Nat := 0x00F00000
def fRelKatLate : Fld := ⟨relStat, 63, 48⟩
def fRelPartOut : Fld := ⟨relStat, 47, 32⟩
def fRelLog : Fld := ⟨relStat, 5, 5⟩
def fRelDigest : Fld := ⟨relStat, 4, 4⟩
def fRelGuard : Fld := ⟨relStat, 3, 3⟩
def fRelCoolant : Fld := ⟨relStat, 2, 2⟩
def fRelSupply : Fld := ⟨relStat, 1, 1⟩
def fRelHeld : Fld := ⟨relStat, 0, 0⟩
def lspCc : Nat := 0x00F00008
def fCcSpares : Fld := ⟨lspCc, 12, 11⟩
def fCcErr : Fld := ⟨lspCc, 10, 10⟩
def fCcDone : Fld := ⟨lspCc, 9, 9⟩
def fCcBusy : Fld := ⟨lspCc, 8, 8⟩
def fCcPcore : Fld := ⟨lspCc, 4, 0⟩
def snpCfg : Nat := 0x00F00010
def fSnpEn : Fld := ⟨snpCfg, 63, 63⟩
def fSnpPeers : Fld := ⟨snpCfg, 55, 52⟩
def fSnpInterval : Fld := ⟨snpCfg, 15, 0⟩
def snpStat : Nat := 0x00F00018
def fSnpPasses : Fld := ⟨snpStat, 63, 32⟩
def fSnpLate : Fld := ⟨snpStat, 31, 16⟩
def fSnpCode : Fld := ⟨snpStat, 7, 4⟩
def fSnpErr : Fld := ⟨snpStat, 0, 0⟩
def twnCfg : Nat := 0x00F00020
def fTwnEn : Fld := ⟨twnCfg, 63, 63⟩
def fTwnAuto : Fld := ⟨twnCfg, 62, 62⟩
def fTwnPort : Fld := ⟨twnCfg, 61, 60⟩
def fTwnStandby : Fld := ⟨twnCfg, 59, 59⟩
def twnStat : Nat := 0x00F00028
def fTwnBase : Fld := ⟨twnStat, 63, 32⟩
def fTwnEpoch : Fld := ⟨twnStat, 31, 16⟩
def fTwnState : Fld := ⟨twnStat, 7, 4⟩
def fTwnRole : Fld := ⟨twnStat, 1, 0⟩
def mirCfg : Nat := 0x00F00030
def fMirTenants : Fld := ⟨mirCfg, 63, 48⟩
def fMirBulk : Fld := ⟨mirCfg, 40, 32⟩
def fMirErr : Fld := ⟨mirCfg, 0, 0⟩
def fMirStage : Fld := ⟨0x00F00038, 47, 24⟩
def mirSlot (n : Nat) : Nat := 0x00F00100 + 8 * n
def fMirSlotLen (n : Nat) : Fld := ⟨mirSlot n, 31, 8⟩
def snpRng (r w : Nat) : Nat := 0x00F01000 + 0x40 * r + 8 * w
def fRngValid (r : Nat) : Fld := ⟨snpRng r 0, 63, 63⟩
def fRngSettled (r : Nat) : Fld := ⟨snpRng r 0, 62, 62⟩
def fRngGset (r : Nat) : Fld := ⟨snpRng r 0, 61, 61⟩
def fRngStack (r : Nat) : Fld := ⟨snpRng r 0, 60, 55⟩
def fRngFirst (r : Nat) : Fld := ⟨snpRng r 0, 54, 37⟩
def fRngNg (r : Nat) : Fld := ⟨snpRng r 0, 36, 19⟩
def fRngLgen (r : Nat) : Fld := ⟨snpRng r 1, 63, 32⟩
def fRngPtick (r : Nat) : Fld := ⟨snpRng r 1, 31, 0⟩
def snpGold (r j : Nat) : Nat := 0x00F05000 + 0x20 * r + 8 * j

/-! ## 18: clocks, power, heat -/

def hubClken : Nat := 0x01000000
def fClkEn (m : Nat) : Fld := ⟨hubClken, m, m⟩
def fPkgCap : Fld := ⟨0x01000008, 15, 0⟩
def pwrStat : Nat := 0x01000010
def fPwrVin : Fld := ⟨pwrStat, 63, 48⟩
def fPwrIin : Fld := ⟨pwrStat, 47, 32⟩
def fPwrPkg : Fld := ⟨pwrStat, 31, 16⟩
def coolIn : Nat := 0x01000018
def fCoolTin : Fld := ⟨coolIn, 63, 48⟩
def fCoolFlow : Fld := ⟨coolIn, 47, 32⟩
def fCoolAge : Fld := ⟨coolIn, 31, 16⟩
def clkDom (m : Nat) : Nat := 0x01000100 + 8 * m
def fClkLost (m : Nat) : Fld := ⟨clkDom m, 63, 48⟩
def fClkNcur (m : Nat) : Fld := ⟨clkDom m, 42, 37⟩
def fClkNfloor (m : Nat) : Fld := ⟨clkDom m, 35, 30⟩
def fClkNset (m : Nat) : Fld := ⟨clkDom m, 25, 20⟩
def fClkLim (m : Nat) : Fld := ⟨clkDom m, 7, 4⟩
def fClkNolock (m : Nat) : Fld := ⟨clkDom m, 2, 2⟩
def fClkSrc (m : Nat) : Fld := ⟨clkDom m, 1, 1⟩
def fClkRun (m : Nat) : Fld := ⟨clkDom m, 0, 0⟩
def thmSite (n : Nat) : Nat := 0x01001000 + 8 * n
def fThmSite (n : Nat) : Fld := ⟨thmSite n, 63, 48⟩
def fThmStack (n : Nat) : Fld := ⟨thmSite n, 47, 32⟩
def fThmHub (n : Nat) : Fld := ⟨thmSite n, 31, 16⟩
def fThmPower (n : Nat) : Fld := ⟨thmSite n, 15, 0⟩
def regStat (r : Nat) : Nat := 0x01002000 + 8 * r
def fRegP (r : Nat) : Fld := ⟨regStat r, 55, 48⟩
def fRegW (r : Nat) : Fld := ⟨regStat r, 47, 40⟩
def fRegS (r : Nat) : Fld := ⟨regStat r, 39, 32⟩
def fRegIout (r : Nat) : Fld := ⟨regStat r, 31, 16⟩
def fRegVout (r : Nat) : Fld := ⟨regStat r, 15, 0⟩

/-! ## 19: management -/

def mgtStat : Nat := 0x01100000
def fMgtEid : Fld := ⟨mgtStat, 47, 40⟩
def fMgtDaddr : Fld := ⟨mgtStat, 39, 33⟩
def fMgtIbi : Fld := ⟨mgtStat, 32, 32⟩
def fMgtFhold : Fld := ⟨mgtStat, 6, 4⟩
def fMgtSlot : Fld := ⟨mgtStat, 2, 0⟩

end Sys2Proof.Machine
end

