-- ==== Sys2Proof/Machine/RegMap.lean ====
section
/-! DEFINITION. The register maps of 00 to 11: where registers stand, the access code and reset value of every field
that is not reserved (00 R10, the access table; the register maps of the chapters). A bit that no field covers is
reserved and reads 0. The maps of 12 to 19 are in RegMap2. -/

namespace Sys2Proof.Machine

/-- The access codes (00, Notation). `lk`: writable only in the life-cycle states its map lists. -/
inductive Acc where
  | r | rw | w1c | wo | rs | lk
  deriving DecidableEq, Repr

/-- One field of a register map: bits, access, reset value. -/
structure FieldDef where
  hi : Nat
  lo : Nat
  acc : Acc
  rst : Nat
  deriving DecidableEq, Repr

/-- One register map: the base offset, the strides and counts of its indices (outermost first), its fields. -/
structure RegDef where
  base : Nat
  dims : List (Nat × Nat)
  flds : List FieldDef
  deriving DecidableEq, Repr

def mR (hi lo : Nat) : FieldDef := ⟨hi, lo, .r, 0⟩
def mRv (hi lo v : Nat) : FieldDef := ⟨hi, lo, .r, v⟩
def mRW (hi lo v : Nat) : FieldDef := ⟨hi, lo, .rw, v⟩
def mW1C (b : Nat) : FieldDef := ⟨b, b, .w1c, 0⟩
def mWO (hi lo : Nat) : FieldDef := ⟨hi, lo, .wo, 0⟩
def mRS (hi lo : Nat) : FieldDef := ⟨hi, lo, .rs, 0⟩

/-- The indices of an offset in a register map, where it is one of the map's registers. -/
def dimIndex : List (Nat × Nat) → Nat → Option (List Nat)
  | [], r => if r = 0 then some [] else none
  | (st, n) :: ds, r =>
    if r / st < n then (dimIndex ds (r % st)).map (r / st :: ·) else none

def RegDef.index (d : RegDef) (off : Nat) : Option (List Nat) :=
  if off < d.base then none else dimIndex d.dims (off - d.base)

/-! ## 00, 01, 02: identity, hub dies, sites, tiles -/

/-- DESIGN CHOICE (log 7): DEV_ID.stack_cap, a fuse, reads 2 until the first power-on fuses it. -/
def regs00 : List RegDef := [
  ⟨0x0000, [], [mRv 55 48 1, mR 47 40, mRv 39 32 2, mR 31 24, mR 23 16, mRv 15 0 0x4B64]⟩,
  ⟨0x0040, [(8, 4)], [mR 55 40, mR 39 32, mR 10 10, mR 9 9, mR 8 8, mR 7 7, mR 6 6, mR 5 4, mR 3 2, mR 1 0]⟩,
  ⟨0x1000, [(8, 64)], [mRW 47 40 0, mR 39 32, mR 31 30, mR 27 24, mR 19 16, mR 14 12, mR 10 8, mR 7 6, mR 3 0]⟩,
  ⟨0x00100000, [(0x1000, 48)], [mR 44 32, mR 28 20, mR 15 8, mR 7 6, mR 5 0]⟩,
  ⟨0x00100100, [(0x1000, 48), (8, 80)],
    [mR 31 31, mR 28 24, mR 23 23, mR 20 16, mR 15 15, mR 12 8, mR 7 7, mR 4 0]⟩,
  ⟨0x00100400, [(0x1000, 48), (8, 80)], [mR 63 0]⟩,
  ⟨0x00100700, [(0x1000, 48), (8, 80)], [mR 15 0]⟩]

/-! ## 06, 07: guard floors, cache maintenance, coherent domain -/

def regs06 : List RegDef := [
  ⟨0x00090000, [(8, 16)], [mRW 7 6 1, mRW 5 4 1, mRW 3 2 1, mRW 1 0 1]⟩,
  ⟨0x00080000, [(0x40, 16)], [mRW 47 6 0]⟩,
  ⟨0x00080008, [(0x40, 16)], [mRW 47 6 0]⟩,
  ⟨0x00080010, [(0x40, 16)], [mWO 3 3, mWO 2 1, mWO 0 0]⟩,
  ⟨0x00080018, [(0x40, 16)], [mR 47 32, mR 31 8, mW1C 3, mW1C 2, mR 1 1, mR 0 0]⟩,
  ⟨0x00081000, [], [mR 55 48, mR 44 40, mRS 33 18, mR 17 0]⟩]

/-! ## 08: stacks -/

def regs08 : List RegDef := [
  ⟨0x00200000, [(0x1000, 48)],
    [mR 47 43, mRv 39 32 8, mRv 28 24 0x1F, mR 19 16, mRv 15 8 0xFF, mR 7 6, mR 5 0]⟩,
  ⟨0x00200008, [(0x1000, 48)], [mR 57 32, mR 25 0]⟩,
  ⟨0x00200010, [(0x1000, 48)], [mR 40 36, mR 35 34, mR 33 33, mR 31 16, mR 15 0]⟩,
  ⟨0x00200100, [(0x1000, 48), (8, 16)], [mR 63 0]⟩,
  ⟨0x00200200, [(0x1000, 48), (8, 136)],
    [mRS 55 40, mRS 39 32, mR 31 24, mRv 20 16 0x1F, mR 12 12, mR 11 8, mR 6 0]⟩,
  ⟨0x00200800, [(0x1000, 48), (8, 256)], [mRW 63 63 0, mR 62 62, mRW 49 32 0, mRW 17 0 0]⟩]

/-! ## 09: faults and translation -/

def regs09 : List RegDef := [
  ⟨0x00300000, [(0x4000, 17), (0x40, 256), (8, 8)], [mR 63 0]⟩,
  ⟨0x00350000, [(0x40, 17)], [mR 31 0]⟩,
  ⟨0x00350008, [(0x40, 17)], [mRW 31 0 0]⟩,
  ⟨0x00350010, [(0x40, 17)], [mRS 63 48, mRS 47 32, mR 31 16, mW1C 3, mW1C 2, mR 0 0]⟩,
  ⟨0x00350018, [(0x40, 17)], [mWO 33 32, mWO 31 0]⟩,
  ⟨0x00350020, [(0x40, 17)], [mWO 15 0]⟩,
  ⟨0x00400000, [(0x1000, 24), (0x20, 128)], [mR 63 63, mR 47 12]⟩,
  ⟨0x00400008, [(0x1000, 24), (0x20, 128)], [mR 35 0]⟩,
  ⟨0x00400010, [(0x1000, 24), (0x20, 128)], [mR 47 12, mR 3 3, mR 2 2, mR 1 1, mR 0 0]⟩,
  ⟨0x00400018, [(0x1000, 24), (0x20, 128)], []⟩,
  ⟨0x00420000, [], [mRW 63 63 0, mRW 47 12 0]⟩,
  ⟨0x00420008, [], [mRW 35 0 0]⟩,
  ⟨0x00420010, [], [mRW 47 12 0, mR 3 3, mRW 2 2 0, mRW 1 1 0, mRW 0 0 0]⟩,
  ⟨0x00420018, [], [mWO 20 16, mWO 14 8, mWO 1 0]⟩,
  ⟨0x00420020, [], [mR 7 4, mW1C 2, mR 1 1, mR 0 0]⟩]

/-! ## 10: the tick sequencer -/

def regs10 : List RegDef := [
  ⟨0x00500000, [], [mW1C 2, mR 1 1, mRW 0 0 0]⟩,
  ⟨0x00500008, [], [mRW 51 32 0x29B, mRW 19 0 0x8235]⟩,
  ⟨0x00500010, [], [mR 51 32, mR 31 16, mR 5 5, mR 4 4, mR 3 3, mRv 2 0 5]⟩,
  ⟨0x00500018, [], [mR 63 0]⟩,
  ⟨0x00500020, [], [mR 63 44, mR 43 28, mR 27 22, mR 21 12, mR 11 4, mR 0 0]⟩,
  ⟨0x00500028, [], [mRS 63 48, mRS 47 32, mRS 31 16, mRS 15 0]⟩,
  ⟨0x00500030, [], [mRW 15 8 0x0A, mRW 3 0 2]⟩,
  ⟨0x00500040, [], [mWO 25 16, mWO 1 0]⟩,
  ⟨0x00500048, [], [mR 7 4, mW1C 2, mR 1 1, mR 0 0]⟩,
  ⟨0x00500100, [(8, 16)], [mR 31 0]⟩,
  ⟨0x00520000, [(0x20, 64)], [mRW 7 4 0, mR 1 1, mRW 0 0 0]⟩,
  ⟨0x00520008, [(0x20, 64)], [mRW 47 0 0]⟩,
  ⟨0x00520010, [(0x20, 64)], [mRW 47 0 0]⟩,
  ⟨0x00520018, [(0x20, 64)], [mR 31 0]⟩,
  ⟨0x00540000, [(8, 1024)], [mRS 63 48, mR 47 16, mR 5 5, mR 4 4, mR 3 0]⟩,
  ⟨0x00600000, [(0x80000, 2), (8, 65536)], [mRW 63 0 0]⟩,
  ⟨0x00700000, [(0x80, 1024), (8, 16)], [mRW 63 0 0]⟩]

/-! ## 11: hub network, probes, event queues, labels -/

def regs11 : List RegDef := [
  ⟨0x00900000, [], [mRW 8 8 1, mRW 3 0 4]⟩,
  ⟨0x00900100, [(8, 12)], [mR 43 40, mR 39 32, mRv 31 0 0x3FFFFFFF]⟩,
  ⟨0x00910000, [(0x400, 64)], [mRS 63 48, mRS 47 32, mRS 31 16]⟩,
  ⟨0x00910008, [(0x400, 64)], [mR 23 22, mR 21 18, mR 17 16, mR 15 12, mR 11 10, mR 9 6, mR 5 4, mR 3 0]⟩,
  ⟨0x00910100, [(0x400, 64), (0x40, 4)],
    [mRW 58 55 0, mRW 54 54 0, mRW 53 49 0, mRW 48 44 0, mRW 43 40 0, mRW 2 2 0, mRW 1 0 0]⟩,
  ⟨0x00910108, [(0x400, 64), (0x40, 4)], [mRW 56 16 0]⟩,
  ⟨0x00910110, [(0x400, 64), (0x40, 4)], [mRW 56 16 0]⟩,
  ⟨0x00910118, [(0x400, 64), (0x40, 4)], [mRS 47 0]⟩,
  ⟨0x00800000, [(0x8000, 16), (8, 4096)], [mR 63 0]⟩,
  ⟨0x00880000, [(8, 16384)], [mR 63 0]⟩,
  ⟨0x008C0000, [(0x40, 17)], [mR 31 0]⟩,
  ⟨0x008C0008, [(0x40, 17)], [mRW 31 0 0]⟩,
  ⟨0x008C0010, [(0x40, 17)], [mR 31 0]⟩,
  ⟨0x008C0018, [(0x40, 17)], [mRW 31 0 0]⟩,
  ⟨0x008C0020, [(0x40, 17)], [mRS 63 48, mRS 47 32, mRS 31 16, mW1C 2, mR 1 1, mR 0 0]⟩,
  ⟨0x00940000, [(8, 8)], [mRW 63 48 0, mRW 39 32 0, mRW 31 16 0x000A]⟩,
  ⟨0x00940040, [], [mR 63 32, mR 7 4, mW1C 1, mR 0 0]⟩,
  ⟨0x00940100, [(8, 128)], [mRW 63 63 0, mRW 62 62 0, mRW 61 59 0, mRW 58 55 0, mRW 54 48 0, mRW 47 32 0, mR 31 16]⟩]

end Sys2Proof.Machine
end

