-- ==== Sys2Proof/Machine/RegMap2.lean ====
section
/-! DEFINITION. The register maps of 12 to 19, and the one table of all maps: which register an offset names, its reset
value, its access codes and its reserved bits. -/

namespace Sys2Proof.Machine

/-! ## 12, 13: open sites, host endpoint -/

def regs12 : List RegDef := [
  ⟨0x00A00000, [(0x1000, 8)], [mR 55 48, mW1C 45, mR 44 42, mR 39 32, mR 31 24, mR 23 20, mR 15 8, mR 3 0]⟩,
  ⟨0x00A00008, [(0x1000, 8)], [mRW 13 8 0x20, mWO 1 1, mWO 0 0]⟩,
  ⟨0x00A00010, [(0x1000, 8)], [mR 31 24, mR 23 16, mR 15 8, mR 7 0]⟩,
  ⟨0x00A00018, [(0x1000, 8)], [mR 63 48, mR 47 32, mR 31 16, mR 15 8, mR 7 0]⟩,
  ⟨0x00A00020, [(0x1000, 8)], [mR 50 48, mR 47 40, mR 39 32, mR 31 16, mR 15 0]⟩,
  ⟨0x00A00100, [(0x1000, 8), (8, 16)], [mRW 13 4 0, mRW 3 1 0, mRW 0 0 0]⟩,
  ⟨0x00A00800, [(0x1000, 8), (8, 256)], [mR 63 0]⟩]

def regs13 : List RegDef := [
  ⟨0x00B00000, [(0x1000, 4), (8, 17)], [mRW 63 63 0, mRW 62 59 0, mRW 58 56 0, mRW 55 55 0, mRW 47 12 0]⟩,
  ⟨0x00B00100, [(0x1000, 4)], [mRS 63 48, mRS 47 32, mR 20 16, mR 15 12, mR 5 4, mR 2 2, mWO 1 1, mWO 0 0]⟩]

/-- The BAR0 pages of function `f` of host tile `q` (13 R463), under the keys of `hepKey`. -/
def regs13bar : List RegDef :=
  let fn : Nat × Nat := (2 ^ 20, 128)
  [ ⟨hepKey 0 0 0x00, [fn], [mR 55 52, mR 51 51, mR 50 50, mR 40 32, mW1C 7, mW1C 6, mR 5 5, mR 4 4, mR 3 3, mR 0 0]⟩,
    ⟨hepKey 0 0 0x08, [fn],
      [mRW 63 63 0, mRW 62 62 0, mRW 61 61 0, mRW 60 60 0, mRW 43 33 0, mRW 32 22 0, mRW 21 11 0, mRW 10 0 0]⟩,
    ⟨hepKey 0 0 0x2000, [fn, (0x20, 256)], [mRW 63 12 0]⟩,
    ⟨hepKey 0 0 0x2008, [fn, (0x20, 256)], [mR 27 16, mRW 7 4 0, mW1C 3, mRW 0 0 0]⟩,
    ⟨hepKey 0 0 0x2010, [fn, (0x20, 256)], [mRW 63 12 0]⟩,
    ⟨hepKey 0 0 0x2018, [fn, (0x20, 256)], [mRW 50 40 0, mRW 39 32 0, mRW 31 16 0, mRW 7 4 0, mW1C 3, mRW 0 0 0]⟩,
    ⟨hepKey 0 0 0x20000, [fn, (16, 2048)], [mRW 63 0 0]⟩,
    ⟨hepKey 0 0 0x20008, [fn, (16, 2048)], [mRW 63 0 0x100000000]⟩,
    ⟨hepKey 0 0 0x28000, [fn, (8, 32)], [mR 63 0]⟩,
    ⟨hepKey 0 0 0x40008, [(32 * 2 ^ 20, 4)], [mRW 31 8 0, mR 7 5, mR 4 4, mR 3 3, mWO 2 2, mWO 1 1, mR 0 0]⟩]

/-! ## 14, 15: tenancy, life cycle -/

def regs14 : List RegDef := [
  ⟨0x00C00000, [(0x100, 16)], [mRW 63 63 0, mRW 62 62 0, mR 61 60, mRW 47 0 0]⟩,
  ⟨0x00C00008, [(0x100, 16), (8, 4)], [mRW 63 0 0]⟩,
  ⟨0x00C00028, [(0x100, 16), (8, 4)], [mR 63 0]⟩,
  ⟨0x00C00048, [(0x100, 16)], [mR 31 0]⟩,
  ⟨0x00C00080, [(0x100, 16), (0x10, 8)], [mR 63 63, mR 62 62, mR 47 12]⟩,
  ⟨0x00C00088, [(0x100, 16), (0x10, 8)], [mR 63 32, mR 31 0]⟩,
  ⟨0x00C10000, [(8, 48)], [mR 7 4, mR 1 0]⟩,
  ⟨0x00C20000, [(0x100, 16), (8, 32)], [mRW 63 63 0, mRW 50 48 0, mRW 47 32 0, mRW 15 0 0]⟩,
  ⟨0x00C30000, [(0x10, 64)], [mRW 63 63 0, mRW 62 62 0, mRW 61 56 0, mRW 55 38 0, mRW 37 20 0, mRW 19 4 0]⟩,
  ⟨0x00C30008, [(0x10, 64)], [mRW 63 63 0, mRW 17 0 0]⟩]

def regs15 : List RegDef := [
  ⟨0x00D00000, [], [mR 44 40, mR 34 32, mR 17 17, mR 16 16, mR 12 8, mR 2 0]⟩,
  ⟨0x00D00008, [], [mR 63 0]⟩,
  ⟨0x00D00010, [], [mR 15 8, mW1C 1, mR 0 0]⟩,
  ⟨0x00D00038, [], [mWO 0 0]⟩,
  ⟨0x00D00040, [(8, 12)], [mRW 63 0 0]⟩,
  ⟨0x00D00100, [], [⟨13, 8, .lk, 0⟩, ⟨2, 0, .lk, 0⟩]⟩]

/-! ## 16, 17: bring-up and reset, reliability -/

def regs16 : List RegDef := [
  ⟨0x00E00000, [], [mR 47 40, mR 39 32, mR 5 5, mR 4 4, mR 3 0]⟩,
  ⟨0x00E00008, [], [mR 63 32, mR 31 24, mR 23 0]⟩,
  ⟨0x00E00010, [], [mR 31 0]⟩,
  ⟨0x00E00018, [], [mWO 0 0]⟩,
  ⟨0x00E00020, [], [mWO 35 32, mWO 31 29, mWO 19 0]⟩,
  ⟨0x00E00028, [], [mRS 63 48, mRS 47 32, mR 11 8, mW1C 2, mR 1 1, mR 0 0]⟩,
  ⟨0x00E00040, [], [mRW 0 0 1]⟩,
  ⟨0x00E00048, [], [mRS 63 48, mRS 47 32, mRS 31 16, mRS 15 8, mR 0 0]⟩,
  ⟨0x00E00050, [], [mR 21 16, mR 9 0]⟩]

def regs17 : List RegDef := [
  ⟨0x00F00000, [], [mR 63 48, mR 47 32, mR 5 5, mR 4 4, mR 3 3, mR 2 2, mR 1 1, mR 0 0]⟩,
  ⟨0x00F00008, [], [mRv 12 11 2, mW1C 10, mR 9 9, mR 8 8, mWO 5 5, mRW 4 0 0]⟩,
  ⟨0x00F00010, [], [mRW 63 63 1, mRW 55 52 0, mRW 15 0 0x40]⟩,
  ⟨0x00F00018, [], [mRS 63 32, mR 31 16, mR 7 4, mW1C 0]⟩,
  ⟨0x00F00020, [], [mRW 63 63 0, mRW 62 62 0, mRW 61 60 0, mRW 59 59 0, mWO 0 0]⟩,
  ⟨0x00F00028, [], [mR 63 32, mR 31 16, mR 7 4, mR 1 0]⟩,
  ⟨0x00F00030, [], [mRW 63 48 0, mRW 40 32 0, mW1C 0]⟩,
  ⟨0x00F00038, [], [mRW 47 24 0]⟩,
  ⟨0x00F00100, [(8, 64)], [mRW 31 8 0]⟩,
  ⟨0x00F01000, [(0x40, 256)], [mRW 63 63 0, mRW 62 62 0, mRW 61 61 0, mRW 60 55 0, mRW 54 37 0, mRW 36 19 0]⟩,
  ⟨0x00F01008, [(0x40, 256)], [mRW 63 32 0, mR 31 0]⟩,
  ⟨0x00F01010, [(0x40, 256), (8, 4)], [mR 63 0]⟩,
  ⟨0x00F05000, [(0x20, 256), (8, 4)], [mRW 63 0 0]⟩]

/-! ## 18, 19: clocks, power, heat; management -/

def regs18 : List RegDef := [
  ⟨0x01000000, [], [mRW 24 0 0x1FFFFFF]⟩,
  ⟨0x01000008, [], [mRW 15 0 0x1D4C]⟩,
  ⟨0x01000010, [], [mR 63 48, mR 47 32, mR 31 16]⟩,
  ⟨0x01000018, [], [mRW 63 48 0, mRW 47 32 0, mRv 31 16 0xFFFF]⟩,
  ⟨0x01000100, [(8, 25)], [mRS 63 48, mR 42 37, mR 35 30, mRW 25 20 0, mR 7 4, mWO 3 3, mW1C 2, mR 1 1, mR 0 0]⟩,
  ⟨0x01001000, [(8, 64)], [mR 63 48, mR 47 32, mR 31 16, mR 15 0]⟩,
  ⟨0x01002000, [(8, 260)], [mR 55 48, mR 47 40, mR 39 32, mR 31 16, mR 15 0]⟩]

def regs19 : List RegDef := [⟨0x01100000, [], [mR 47 40, mR 39 33, mR 32 32, mR 6 4, mR 2 0]⟩]

/-! ## The one table -/

/-- Every register map. -/
def regMap : List RegDef :=
  regs00 ++ regs06 ++ regs08 ++ regs09 ++ regs10 ++ regs11 ++ regs12 ++ regs13 ++ regs13bar ++ regs14 ++ regs15
    ++ regs16 ++ regs17 ++ regs18 ++ regs19

/-- The map of the register at an offset. -/
def findReg (off : Nat) : Option RegDef := regMap.find? (fun d => (d.index off).isSome)

/-- The reset value of the map's fields. -/
def RegDef.resetWord (d : RegDef) : Word := d.flds.foldl (fun w f => putBits w f.hi f.lo f.rst) 0

/-- Global coordinates of a site (01 R18, R24). -/
def siteXY (n : Nat) : Nat × Nat :=
  let q := n / 16
  let i := n % 16
  let ab : Nat × Nat :=
    if i = 15 then (0, 0) else if i = 12 then (1, 0) else if i = 13 then (0, 1) else if i = 14 then (0, 2)
    else if i ≤ 1 then (i + 2, 0) else if i ≤ 4 then (i - 1, 1) else if i ≤ 7 then (i - 4, 2) else (i - 8, 3)
  let (a, b) := ab
  if q = 0 then (a, b) else if q = 1 then (7 - b, a) else if q = 2 then (7 - a, 7 - b) else (b, 7 - a)

/-- The site type that integration code O00 gives (01 R26): open sites carry dummy dies. -/
def siteTypeFixed (n : Nat) : Nat :=
  let i := n % 16
  if i ≤ 11 then 0 else if i ≤ 13 then 4 else if i = 14 then 2 else 3

/-- The class budget of a site in W (01 R29, R30). -/
def classBudget (n : Nat) : Nat :=
  let i := n % 16
  if i ≤ 11 then 110 else if i ≤ 13 then 90 else 25

/-- Phases P and spares S of regulator r (18 R605); 0 for an unused r. -/
def regPhases (r : Nat) : Nat × Nat :=
  if 256 ≤ r then (if r < 260 then (24, 2) else (0, 0))
  else
    let i := r / 4 % 16
    let k := r % 4
    if i ≤ 11 then (if k = 0 then (10, 1) else if k = 1 then (6, 1) else (0, 0))
    else if i ≤ 13 then (if k = 0 then (14, 1) else if k = 1 then (2, 1) else (0, 0))
    else if k = 0 then (4, 1) else (0, 0)

/-- The reset values that differ from index to index: sites, tiles, stacks, labels, compute domains, regulators. -/
def resetIndexed (off : Nat) (w : Word) : Word :=
  if 0x1000 ≤ off ∧ off < 0x1200 then
    let n := (off - 0x1000) / 8
    let xy := siteXY n
    let w := putBits (putBits w 47 40 (classBudget n)) 27 24 (if siteTypeFixed n = 4 then 0 else 1)
    let w := putBits (putBits w 19 16 (siteTypeFixed n)) 14 12 xy.2
    putBits (putBits (putBits w 10 8 xy.1) 7 6 (n / 16)) 3 0 (n % 16)
  else if 0x00100000 ≤ off ∧ off < 0x00130000 ∧ off % 0x1000 = 0 then
    let t := (off - 0x00100000) / 0x1000
    putBits (putBits (putBits (putBits w 28 20 320) 15 8 (5 + t / 4)) 7 6 (t / 12)) 5 0 t
  else if 0x00200000 ≤ off ∧ off < 0x00230000 then
    let t := (off - 0x00200000) / 0x1000
    let o := off % 0x1000
    if o = 0 then putBits w 5 0 t
    else if 0x100 ≤ o ∧ o < 0x180 then
      let j := (o - 0x100) / 8
      (List.range 8).foldl (fun w k => putBits w (8 * k + 7) (8 * k) (8 * j + k)) w
    else if 0x200 ≤ o ∧ o < 0x640 then
      let p := (o - 0x200) / 8
      if p < 128 then putBits (putBits w 11 8 1) 6 0 p else w
    else w
  else if 0x00940000 ≤ off ∧ off < 0x00940040 then
    let l := (off - 0x00940000) / 8
    let w := putBits w 63 48 (([10, 20, 50, 100, 200, 500, 1000, 10000] : List Nat).getD l 0)
    putBits w 39 32 (([64, 64, 48, 32, 32, 16, 16, 8] : List Nat).getD l 0)
  else if 0x01000100 ≤ off ∧ off < 0x010001C8 then
    let m := (off - 0x01000100) / 8
    if 5 ≤ m ∧ m ≤ 16 then putBits w 25 20 0x20 else w
  else if 0x01002000 ≤ off ∧ off < 0x01002820 then
    let ps := regPhases ((off - 0x01002000) / 8)
    putBits (putBits (putBits w 55 48 ps.1) 47 40 ps.1) 39 32 ps.2
  else w

/-- The reset value of the register at an offset (the Reset columns; "fuse" values as the log entry on fuses names
them). An offset that names no register reads 0 here; accesses to it are refused before. -/
def regReset (off : Nat) : Word :=
  match findReg off with
  | none => 0
  | some d => resetIndexed off d.resetWord

end Sys2Proof.Machine
end

