-- ==== Sys2Proof/Machine/SMap.lean ====
section
/-! DEFINITION. Sorted association lists keyed by a number: the one form in which the model holds sparse state
(registers, memory bytes, cores, tasks). A key stands at most once and keys rise strictly. -/

namespace Sys2Proof.Machine

/-- The entry of key `k`. -/
def smLookup {α : Type} : List (Nat × α) → Nat → Option α
  | [], _ => none
  | (k', v) :: l, k => if k' = k then some v else smLookup l k

/-- Puts `v` at key `k`, replacing the entry of `k` or standing at its place in the rising order. -/
def smInsert {α : Type} : List (Nat × α) → Nat → α → List (Nat × α)
  | [], k, v => [(k, v)]
  | (k', v') :: l, k, v =>
    if k < k' then (k, v) :: (k', v') :: l
    else if k' = k then (k, v) :: l
    else (k', v') :: smInsert l k v

/-- Removes the entry of key `k`. -/
def smErase {α : Type} : List (Nat × α) → Nat → List (Nat × α)
  | [], _ => []
  | (k', v') :: l, k => if k' = k then smErase l k else (k', v') :: smErase l k

/-- The value of key `k` where an unlisted key reads as `d`. -/
def smGetD {α : Type} (l : List (Nat × α)) (d : α) (k : Nat) : α := (smLookup l k).getD d

/-- Writes `v` at `k` in the canonical form: a value equal to what an unlisted key reads as is not listed. -/
def smSetD {α : Type} [DecidableEq α] (l : List (Nat × α)) (d : α) (k : Nat) (v : α) : List (Nat × α) :=
  if v = d then smErase l k else smInsert l k v

/-- Keys rise strictly, so no key stands twice. -/
def smSorted {α : Type} : List (Nat × α) → Bool
  | [] => true
  | [_] => true
  | (k, _) :: (k', v') :: l => decide (k < k') && smSorted ((k', v') :: l)

/-- The canonical form: rising keys, and no entry that reads as an unlisted one. -/
def smCanon {α : Type} [DecidableEq α] (l : List (Nat × α)) (d : Nat → α) : Bool :=
  smSorted l && l.all (fun e => decide (e.2 ≠ d e.1))

end Sys2Proof.Machine
end

