-- ==== Sys2Proof/Machine/Types.lean ====
section
/-! DEFINITION. The parts of the state of compute cores, their packets, their DMA commands, the tasks and the tick
sequencer (02, 04, 05, 06, 09, 10). -/

namespace Sys2Proof.Machine

/-! ## Cores -/

/-- What a core is doing. -/
inductive CoreMode where
  /-- Runs no task. -/
  | idle
  /-- Issues instructions. -/
  | running
  /-- Stalled in TBAR (04 R154). -/
  | atBarrier
  /-- Has reported TEND (04 R155). -/
  | ended
  /-- Frozen by an exception without handler (04 R160). -/
  | frozen
  /-- Stopped by the sequencer (10 R347). -/
  | stopped
  deriving DecidableEq, Repr

/-- What a TMAC captured at issue (05 R168, 06 R199, R204, R207). -/
structure MacOp where
  pc : Nat
  tile : Nat
  z : Bool
  aWord : Word
  wWord : Word
  /-- The two captured tails, as the bytes of the superblocks' 64-byte tails. -/
  aTail : List Byte
  wTail : List Byte
  /-- The captured data bytes of a KT2 weight strip. -/
  kt2 : List Byte
  cls : Nat
  /-- The effective mode of R199. -/
  mode : Nat
  thr : Nat
  phase : Nat
  /-- Offset and captured tail of a valid companion. -/
  comp : Option (Nat × List Byte)
  deriving DecidableEq, Repr

/-- A tensor instruction in the tensor queue (05 R166). -/
inductive TOp where
  | mac (m : MacOp)
  | zero (pc tile : Nat)
  | store (pc tile off : Nat)
  | load (pc tile off : Nat)
  /-- `before`, `after`: CORE_SRSTATE without and with the instruction's draws. -/
  | row (pc vd tile r : Nat) (stochastic : Bool) (ds : List Nat) (before after : Word)
  | addRow (pc tile r : Nat) (lanes : Vector Lane 32)
  | addMem (pc tile off : Nat)
  deriving DecidableEq, Repr

/-- A compute core (02 R48, 04 Architectural state). -/
structure Core where
  mode : CoreMode
  /-- The mode in which a stopped or not yet started core goes on (09 R330, 10 R344). -/
  before : CoreMode
  /-- The task whose state the core holds. -/
  task : Option Nat
  pc : Nat
  s : Vector Word 32
  v : Vector (Vector Lane 32) 16
  a : Vector (Vector F32 512) 8
  c : Vector (BitVec 32) 16
  /-- Special registers by number; an unlisted one holds its reset value. -/
  sr : List (Nat × Word)
  tq : List TOp
  /-- ATOM results awaited: outstanding request and destination register (04 R138). -/
  atoms : List (Nat × Nat)
  /-- Pending asynchronous exceptions: cause and information (04 R157, R159). -/
  async : List (Nat × Word)
  /-- The counter that a stalled WAITCNT compares (04 R144). -/
  wait : Option Nat
  /-- Barriers reached since the tick began (04 R154). -/
  bars : Nat
  /-- Guard events raised in this tick, by type and class (06 R221). -/
  evs : List (Nat × Nat)
  /-- Count fields that reached their maximum in this tick, by register and low bit (06 R203). -/
  sats : List (Nat × Nat)
  /-- Message unit fenced during a repair (02 R45). -/
  fenced : Bool
  /-- The domain's cycle count (in fortieths) when the core's reset state was last loaded (04 CORE_CYCLE). -/
  cyc0 : Nat
  /-- Scrubber position: the next word index of each bank (02 R51). -/
  scrub : Nat
  deriving DecidableEq, Repr

/-! ## Packets of messages -/

/-- What a message packet is (02 R63, R643; 04 R135 to R138). -/
inductive MsgKind where
  | send
  | recvReq
  | recvData
  | atomAdd | atomSwap | atomCas | atomOr
  | atomRes
  | ack
  | merr (code : Nat)
  deriving DecidableEq, Repr

/-- A message in flight between a sender and a message destination. `src` is the sender's logical core address, or the
24-bit destination of the node that sent it. -/
structure Msg where
  kind : MsgKind
  src : Nat
  /-- The sender's task when the message was issued (10 R346). -/
  task : Option Nat
  dst : Nat
  roff : Nat
  len : Nat
  ctr : Nat
  /-- Local offset of a RECV. -/
  lofs : Nat
  /-- Destination register of an ATOM. -/
  rd : Nat
  /-- Compare value of ATOM.CAS. -/
  cmp : Word
  data : List Byte
  /-- The outstanding request that this message answers, or its own number. -/
  req : Nat
  /-- The physical core that the destination stood for at injection, where it lies in the sender's tile (02 R52). -/
  phys : Option Nat
  /-- The gateways of the sender's and of the destination's block, where the message leaves its tile (02 R66). -/
  gateOut : Option Nat
  gateIn : Option Nat
  /-- The mesh routers that forward it, by physical coordinates, in the order it meets them (02 R52, R66). -/
  route : List Nat
  deriving DecidableEq, Repr

/-! ## DMA commands -/

/-- Where a DMA command stands (02 R69 to R72, 09 R316). -/
inductive DmaState where
  | queued
  | admitted
  /-- Every byte moved; completion not yet counted. -/
  | moved
  /-- Refused, or ended by poison; it keeps its slot until the task's group is stopped. -/
  | refused
  deriving DecidableEq, Repr

/-- A DMA command in a core's queue at the stack controller (04 R146). -/
structure Dma where
  core : Nat
  task : Option Nat
  off : Nat
  op : Nat
  ctr : Nat
  rowb : Nat
  rows : Nat
  stride : Nat
  src : Nat
  dst : Nat
  st : DmaState
  done : Nat
  /-- Reissued once after a payload loss on the hub (11 R386). -/
  retried : Bool
  /-- The snapshot of the check: DVA bounds and target of each range entry that the extent meets (09 R313 to R315). -/
  maps : List (Nat × Nat × Nat)
  deriving DecidableEq, Repr

/-! ## Stacks (08) -/

/-- What a burst's stored symbols differ in from the codeword of its data bytes: symbol positions, rising, with their
nonzero differences; data byte i is symbol i, check symbol k is symbol 256 + k (08 R269 to R272). -/
abbrev Deviation := List (Nat × Nat)

/-- A repair that copies a unit of a stack (08 R289 to R293). -/
structure Repair where
  /-- A layer; else a channel. -/
  layer : Bool
  /-- Logical channel or layer. -/
  unit : Nat
  /-- Physical channel taken from, and the spare channel that is the target. -/
  old : Nat
  spare : Nat
  /-- The source cannot be read (R293). -/
  dead : Bool
  /-- Bursts, by storage address / 256, that the target holds as the poison pattern. -/
  poisoned : List Nat
  /-- Bursts written whole since a dead source's repair began. -/
  wrote : List Nat
  deriving DecidableEq, Repr

/-- A repair trigger that waits (08 R288): layer or channel, its number, whether its source is dead. -/
structure RepairReq where
  layer : Bool
  unit : Nat
  dead : Bool
  deriving DecidableEq, Repr

/-- An uncorrectable-burst report whose tenant copies are not placed yet (08 R296). -/
structure UeReport where
  stack : Nat
  pch : Nat
  addr : Nat
  layer : Nat
  src : Nat
  ppat : Bool
  /-- The record's tick, which the copies repeat. -/
  tick : Nat
  deriving DecidableEq, Repr

/-- What the controller and Larkspur keep of one stack beside its registers. -/
structure Stack where
  repair : Option Repair
  queue : List RepairReq
  /-- By physical channel: the pin sets of its last 16 corrected bursts (R274). -/
  pins : List (Nat × List (List Nat))
  /-- By physical channel, counted in tick boundaries since power-on (`Seq.count`): its last training, and since when it is
  due (R284, R286). -/
  trained : List (Nat × Nat)
  dueAt : List (Nat × Nat)
  /-- Bursts, by storage address / 256, that a read has corrected and that are not written back yet (R276). -/
  fixes : List Nat
  /-- Uncorrectable bursts of the last 24 h, and corrected ones of the last second: time, physical channel, physical layer
  burst (R287). -/
  ues : List (Nat × Nat × Nat × Nat)
  ces : List (Nat × Nat × Nat × Nat)
  /-- The spare layer has failed before it was needed (R294). -/
  spareBad : Bool
  /-- Channels that the running retraining group holds (R285). -/
  held : List Nat
  /-- Layers that refresh at double rate (R280). -/
  warm : List Nat
  /-- The stack is hotter than its tile: it admits one chunk per two turns; the turn just passed was an idle one (18 R611). -/
  slow : Bool
  idled : Bool
  deriving DecidableEq, Repr

def Stack.fresh : Stack := { repair := none, queue := [], pins := [], trained := [], dueAt := [], fixes := [], ues := [], ces := [], spareBad := false, held := [], warm := [], slow := false, idled := false }

/-! ## The fault history log (17 R569, R570) -/

/-- A record that firmware has yet to write to the fault history log: kind, class, unit, detail. -/
structure LogReq where
  kind : Nat
  uclass : Nat
  unit : Nat
  detail : Nat
  deriving DecidableEq, Repr

/-! ## Tasks (10 R340 to R348) -/

/-- One core's part of a switch or commit slot. -/
structure SlotPart where
  core : Core
  spad : List (Nat × Byte)
  deriving DecidableEq, Repr

/-- A pending or written fault record: its eight words (09 R321). -/
abbrev FaultRec := List Word

/-- A detected fault whose record the hub has yet to write: its queue, its task where it parks one, its record; `kept`
is false for a host or BML fault, which is not kept when the queue is full (09 R324, R325, R327). -/
structure FaultWait where
  queue : Nat
  task : Option Nat
  words : FaultRec
  kept : Bool
  deriving DecidableEq, Repr

/-- The runtime state of a loaded task beside its descriptor in TSQ_TDk and TSQ_TSTk. -/
structure Task where
  /-- Switch slots and commit slots, by rank. -/
  sw : List SlotPart
  cm : List SlotPart
  /-- Pending fault records of the task, oldest first, with the core they concern (09 R325). -/
  pend : List FaultRec
  /-- Unresolved faults of the task: sequence number, cause, device address reached (09 R329; 13 R473). -/
  open_ : List (Nat × Nat × Nat)
  /-- Resolved faults carried action drop (09 R329). -/
  dropped : Bool
  /-- Parked in tick. -/
  faultTick : Nat
  /-- The tick's work is discarded (10 R645). -/
  discarded : Bool
  /-- Aborted since it last ran: the next binding restores the commit slot (10 R344). -/
  aborted : Bool
  /-- Resumes in its faulting tick (09 R330). -/
  resumes : Bool
  /-- Extended into the guard band (10 R366). -/
  extended : Bool
  /-- The tick at whose guard band it became Carried (10 R366). -/
  carried : Option Nat
  /-- A drain stop is in progress (10 R347). -/
  draining : Bool
  /-- A refusal awaits the stop of the group (09 R328). -/
  mustPark : Bool
  /-- Commands refused by a fault, to be reissued whole in issue order (09 R330). -/
  refused : List Dma
  /-- Waves started after binding (10 R345). -/
  waves : Nat
  deriving DecidableEq, Repr

def Task.fresh : Task :=
  { sw := [], cm := [], pend := [], open_ := [], dropped := false, faultTick := 0, discarded := false, aborted := false,
    resumes := false, extended := false, carried := none, draining := false, mustPark := false, refused := [], waves := 0 }

/-- A unit whose capacity fell while the package runs (10 R364). -/
inductive CapUnit where
  | stack (t : Nat)
  | dom (m : Nat)
  | core (c : Nat)
  /-- A link, waveguide, site port or open site: no task runs on it. -/
  | net
  deriving DecidableEq, Repr

/-! ## Host tiles (13) -/

/-- A fetched command of a submission queue (R466). -/
structure HostCmd where
  id : Nat
  f : Nat
  i : Nat
  cid : Nat
  op : Nat
  hold : Bool
  fence : Bool
  haddr : Nat
  dva : Nat
  bytes : Nat
  args : List Word
  /-- The tenant that the function was bound to when the command was fetched. -/
  tenant : Nat
  /-- A service's register command has been issued and awaits its end. -/
  issued : Bool
  /-- Status, cause and result once the work is done (R469, R470). -/
  fin : Option (Nat × Nat × Word)
  /-- Its completion is not written (R477, R480). -/
  mute : Bool
  deriving DecidableEq, Repr

/-- What the host tile keeps of a queue pair beside its registers (R464, R474). -/
structure QPair where
  sqTail : Nat
  cqHead : Nat
  cqTail : Nat
  /-- The phase of the entries now written. -/
  phase : Bool
  deriving DecidableEq, Repr

def QPair.init : QPair := ⟨0, 0, 0, true⟩

/-- The state of a host tile beside its registers. -/
structure HostTile where
  linkUp : Bool
  /-- Quiesce was asked for (R485). -/
  quiescing : Bool
  /-- By 256 × function + queue. -/
  pairs : List (Nat × QPair)
  /-- Armed sources: 2,048 × function + source; 0 priority ring, 1 normal ring, 2 fault queue, 4 + i CQ i (R474). -/
  armed : List Nat
  cmds : List HostCmd
  /-- The queue served last (R468). -/
  last : Option Nat
  /-- Functions in D3hot (R458). -/
  d3 : List Nat
  /-- Cached translations, and pages without a usable one, by function and page (R332). -/
  atc : List (Nat × Nat)
  noTr : List (Nat × Nat)
  /-- What the host has written to configuration space: by 4,096 × function + offset, a double word's writable bits (R456,
  R457). -/
  cfg : List (Nat × Nat)
  /-- PERST_N is high (16 R549). -/
  perstHigh : Bool
  /-- Tenants whose function lay here when they were last bound (R472). -/
  served : List Nat
  /-- Cut entries that wait for room in CQ 0: function and ingest generation (R472). -/
  cutDue : List (Nat × Word)
  /-- What has been lost and absorbed since the port left up (R482). -/
  lostSum : Nat
  absorbedSum : Nat
  deriving DecidableEq, Repr

def HostTile.fresh : HostTile :=
  { linkUp := false, quiescing := false, pairs := [], armed := [], cmds := [], last := none, d3 := [], atc := [],
    noTr := [], cfg := [], perstHigh := false, served := [], cutDue := [], lostSum := 0, absorbedSum := 0 }

/-! ## The tick sequencer (10) -/

/-- The sequencer's own state beside its registers. -/
structure Seq where
  /-- The program's own phase beneath the guard band (10 R339). -/
  phase : Nat
  /-- AT waits for this offset (R358). -/
  waitAt : Option Nat
  /-- Accepted period and guard band, margin and step, that await their boundary (R337). -/
  pendPeriod : Option (Nat × Nat)
  pendCfg : Option (Nat × Nat)
  /-- Written period and guard band, margin and step, that await admission (R337, R361). -/
  reqPeriod : Option (Nat × Nat)
  reqCfg : Option (Nat × Nat)
  /-- The swap requested is admitted and awaits the boundary (R360). -/
  swapOk : Bool
  /-- The active bank has been admitted. -/
  bankOk : Bool
  /-- Stop at the next boundary (R338). -/
  stopReq : Bool
  /-- The guard band of this tick has begun; its extension deadline has passed. -/
  inGuard : Bool
  late : Bool
  /-- Tasks committed in this tick (R358 MIRROR). -/
  committed : List Nat
  /-- Tasks that cut maintenance in this guard band (R369). -/
  cut : List Nat
  /-- Nanoseconds into the current microsecond. -/
  ns : Nat
  /-- Admission holds for the active bank (R364). -/
  admHolds : Bool
  /-- Tick boundaries since power-on; a start of the program does not set it back (08 R284, R286). -/
  count : Nat
  deriving DecidableEq, Repr

def Seq.init : Seq :=
  { phase := 0, waitAt := none, pendPeriod := none, pendCfg := none, reqPeriod := none,
    reqCfg := none, swapOk := false, bankOk := false, stopReq := false, inGuard := false, late := false, committed := [],
    cut := [], ns := 0, admHolds := true, count := 0 }

end Sys2Proof.Machine
end

