-- ==== Sys2Proof/Machine/Units.lean ====
section
/-! DEFINITION. The parts of the state of the control caches, the hub network, the open sites, the security engine, the
package's own supervision (Crocus, clocks, log) and the twin (07, 11, 12, 14 to 19). -/

namespace Sys2Proof.Machine

/-! ## Control caches (07 R244 to R252) -/

/-- A cached 64 B line of S-space. -/
structure CacheLine where
  data : List Byte
  dirty : Bool
  poison : Bool
  deriving DecidableEq, Repr

/-- A maintenance operation in progress: what it does, the line addresses / 64 that it covers, and the lines that control
cores have accessed since it started (R251). -/
structure Cmo where
  op : Nat
  lo : Nat
  hi : Nat
  touched : List Nat
  deriving DecidableEq, Repr

/-! ## Hub network (11) -/

/-- Where a packet is held: the injection queue of its source site, an input port of a router (0 to 3 links N, E, S, W;
4 the site port; 5 the station), the station of a quadrant. -/
inductive PktAt where
  | site
  | router (n port : Nat)
  | station (q : Nat)
  deriving DecidableEq, Repr

/-- A packet on the hub network (R381). -/
structure Packet where
  hdr : List Word
  data : List Byte
  loc : PktAt
  /-- The buffer class post (R376). -/
  post : Bool
  /-- The payload is marked uncorrectable (R386). -/
  bad : Bool
  /-- Replays and resends of the present hop. -/
  tries : Nat
  deriving DecidableEq, Repr

/-- A request that awaits its answer at its injector (R406, R407). -/
structure Await where
  site : Nat
  /-- The request's packet type, and whether firmware or the sequencer issued it (R381, R382). -/
  type : Nat
  fw : Bool
  label : Nat
  tenant : Nat
  /-- The shared resource it goes to, as SLGg.res codes it. -/
  res : Option Nat
  tag : Nat
  since : Nat
  deriving DecidableEq, Repr

/-- A request that has left the hub at its site port and awaits its service and its answer there (R383, R409). -/
structure Owed where
  site : Nat
  src : Nat
  type : Nat
  tag : Nat
  label : Nat
  /-- The resource that serves it, as SLGg.res codes it. -/
  res : Option Nat
  /-- The tenant and fw of the request, which its answer carries. -/
  tenant : Nat
  fw : Bool
  deriving DecidableEq, Repr

/-- The hub network beside its registers. -/
structure HubNet where
  pkts : List (Nat × Packet)
  /-- By output link: the channel, request or bulk, that it served last of the two (R378). -/
  turn : List (Nat × Nat)
  /-- What a bucket lacks of its burst, in bytes times the tenant's tiles, by 256 × site + entry, or 128 + label for
  traffic without an entry (R405). -/
  lacks : List (Nat × Nat)
  awaits : List Await
  /-- ol_eff where it is below ol, by 8 × site + label (R406, R408). -/
  tight : List (Nat × Nat)
  /-- The last 64 request-to-answer times, newest first, in 10 ns, with the tenant, by 8 × site + label (R407). -/
  times : List (Nat × List (Nat × Nat))
  boosted : List Nat
  /-- Tenants and labels, 8 × u + l, whose missed target is reported in this tick. -/
  told : List Nat
  /-- Matching packets that a probe has seen since its fields were last written, by 4 × site + j (R393). -/
  seen : List (Nat × Nat)
  /-- Links held for retraining, 8 × router + output port (R391). -/
  held : List Nat
  /-- Requests at their targets, oldest first (R383, R409). -/
  owed : List Owed
  /-- Stacks whose controller has served a remote request since its last local chunk (R409). -/
  remoteLast : List Nat
  /-- Temperature and tick of the last training of a link, by 8 × router + output port, and the tick of a waveguide's, by
  512 + its number (R391). -/
  temps : List (Nat × Nat)
  trainedAt : List (Nat × Nat)
  /-- Guarantee writes that wait while an admission runs: entry and word, oldest first (R415). -/
  guarWait : List (Nat × Word)
  deriving DecidableEq, Repr

def HubNet.init : HubNet :=
  { pkts := [], turn := [], lacks := [], awaits := [], tight := [], times := [], boosted := [], told := [], seen := [],
    held := [], owed := [], remoteLast := [], temps := [], trainedAt := [], guarWait := [] }

/-! ## Open sites (12) -/

/-- A hub request that the guest has yet to answer: tag, BML type, the message it carries, the bytes asked for. -/
structure BmlOut where
  tag : Nat
  type : Nat
  msg : Nat
  n : Nat
  deriving DecidableEq, Repr

/-- A guest request that the hub has yet to answer: tag, node, BML type, the message it became, the data bytes still to
return, the status and the cause of its answer. -/
structure BmlIn where
  tag : Nat
  node : Nat
  type : Nat
  msg : Nat
  data : List Byte
  status : Nat
  cause : Nat
  deriving DecidableEq, Repr

/-- An open site beside its registers. -/
structure OpenSite where
  /-- All three rails are up; GRST_N is released (R421). -/
  rails : Bool
  released : Bool
  /-- The UCIe link is active (R424). -/
  link : Bool
  /-- A power-up is due: bring-up or an accepted rejoin (R421, R447). -/
  due : Bool
  /-- Request credits that the hub holds, that the guest holds, and that the hub has freed and not yet returned (R429). -/
  hubCred : Nat
  guestCred : Nat
  freed : Nat
  nextTag : Nat
  outs : List BmlOut
  ins : List BmlIn
  /-- The negotiated feature bits (R439). -/
  feat : Nat
  /-- When the rejoins of the last 24 h were accepted, in 10 ns (R447). -/
  rejoinAt : List Nat
  /-- A descriptor result to send, as DACK's status (R441, R442). -/
  dack : Option Nat
  /-- The level to send in a THROTTLE, where one is due (R422). -/
  thr : Bool
  /-- The guest's test port is linked into the package chain; else GTRST_N is held low and the guest is bypassed (R423). -/
  tap : Bool
  /-- The hub time at which the site was isolated last (R450: causes of one cycle). -/
  isolatedAt : Option Nat
  deriving DecidableEq, Repr

def OpenSite.init : OpenSite :=
  { rails := false, released := false, link := false, due := true, hubCred := 0, guestCred := 64, freed := 0, nextTag := 0,
    outs := [], ins := [], feat := 0, rejoinAt := [], dack := none, thr := false, tap := false,
    isolatedAt := none }

/-! ## Security engine and life cycle (14, 15) -/

/-- An SPDM session. -/
structure Session where
  id : Nat
  /-- Host tile of its DOE mailbox, or 4 for MCTP (R499). -/
  port : Nat
  /-- Mutual authentication is complete; the digest of the requester's leaf key (R502). -/
  authed : Bool
  key : Nat
  /-- The export master secret (R504). -/
  secret : Nat
  bound : Option Nat
  deriving DecidableEq, Repr

/-- An intent slot of the OTP: its burned bits (15 R524). -/
structure OtpSlot where
  digest : Nat
  target : Nat
  sealed : Nat
  deriving DecidableEq, Repr

/-- The OTP: copies of the 16 steps, the 24 intent slots, copies of the 64 floor steps (15 R523, R524; 16 R542), whether
the unique secret and the service key's digest have been fused (15 R520, R525), and the bits of the secret that its
erasure has burned (15 R528). -/
structure Otp where
  steps : List (List Nat)
  slots : List OtpSlot
  floor : List (List Nat)
  fused : Bool
  secret : Nat
  deriving DecidableEq, Repr

/-- A unit in the FIELD: steps 1 and 2 burned, slots 0 and 1 used for them (15 R525, the example of R530). -/
def Otp.field : Otp :=
  { steps := List.replicate 2 [0xFFFF, 0xFFFF, 0xFFFF] ++ List.replicate 14 [0, 0, 0]
    slots := [⟨0, 0x010101, 0xFFFF⟩, ⟨0, 0x020202, 0xFFFF⟩] ++ List.replicate 22 ⟨0, 0, 0⟩
    floor := List.replicate 64 [0, 0, 0], fused := true, secret := 0 }

/-- A scrub under way (14 R513): its tenant, whether a teardown began it or only a removal of tiles, TEN_CFGu.conf, the records
and slots zeroed, TEN_DGENu at its start, and the mask of its tiles. -/
structure Scrub where
  tenant : Nat
  torn : Bool
  conf : Nat
  records : Nat
  slots : Nat
  dgen : Nat
  tiles : Nat
  deriving DecidableEq, Repr

structure Security where
  sessions : List Session
  /-- The session that opened a window, by 8 × tenant + window. -/
  opener : List (Nat × Nat)
  /-- The latest scrub report of each tenant number: its 16 words (R515). -/
  reports : List (Nat × List Word)
  /-- Scrubs under way, oldest first (R513). -/
  scrubs : List Scrub
  /-- Teardown writes that wait for a partition reset to end (R516). -/
  tearWait : List (Nat × Word)
  /-- Tiles out of service that a write took from a tenant: they keep it as their owner until its teardown (R489). -/
  kept : List (Nat × Nat)
  otp : Otp
  deriving DecidableEq, Repr

/-- The security engine without sessions, over an OTP. -/
def Security.fresh (o : Otp) : Security := { sessions := [], opener := [], reports := [], scrubs := [], tearWait := [], kept := [], otp := o }

/-! ## Crocus and the fault history log (16, 17, 19) -/

/-- A loaded firmware image: its header's fields, its digest, and the body as it stands in the firmware partition (16 R540,
R541). -/
structure Image where
  svn : Nat
  floor : Nat
  entry : Nat
  digest : Nat
  body : List Byte
  deriving DecidableEq, Repr

/-- A half of the log's state part: its header's ver, len, sequence number and digest of the body, and the records (19 R629,
R630). -/
structure LogHalf where
  ver : Nat
  len : Nat
  seq : Nat
  digest : Nat
  body : List (List Word)
  deriving DecidableEq, Repr

/-- The package's supervision beside its registers. -/
structure Crocus where
  /-- AUX_3V3, PWRGD, RST_N. -/
  aux : Bool
  pwrgd : Bool
  rstN : Bool
  /-- CD0 runs on the crystal; consecutive good windows and the last count (16 R536). -/
  crystal : Bool
  good : Nat
  lastCount : Option Nat
  /-- The steps of 16 R538 that have ended. -/
  ended : List Nat
  /-- The strap check of the last power-on: not yet known, passed, failed (01 R22, R23). -/
  straps : Option Bool
  /-- The dies have read their straps in this power-on (01 R17). -/
  strapsRead : Bool
  /-- FAULT_N and THERM_N are asserted. -/
  faultN : Bool
  thermN : Bool
  /-- Bring-ups, and when the present one began and left C3, in 10 ns. -/
  boots : Nat
  bootAt : Nat
  readyFrom : Nat
  image : Option Image
  /-- The control cores run (07 R259, 16 R551). -/
  running : Bool
  /-- The history ring of the fault history log: records of four words, oldest first (17 R569). -/
  log : List (List Word)
  /-- Halves A and B of its state part; an erased half is none (19 R630). -/
  halves : Option LogHalf × Option LogHalf
  /-- An image whose flash write is suspended for pending log writes (19 R631). -/
  flashHeld : Option (List Byte)
  /-- The recovery buffer's bytes written since it was last released; another byte is the free byte that `recSeed` gives
  (16 R544, R546). -/
  recBuf : List (Nat × Byte)
  recSeed : Nat
  /-- Host tiles that still answer configuration requests with Request Retry Status (16 R549), and those whose 900 ms
  window runs. -/
  retry : List Nat
  /-- A whole-device reset is due after a delay: the end of 15 R528, or of 16 R545. -/
  lcDelay : Bool
  recDelay : Bool
  /-- The partition under reset, and the requests absorbed since it was fenced (16 R554). -/
  resetOf : Option Nat
  absorbed : Nat
  /-- Known-answer runs in progress, by physical core; logical cores that arbitration retires (17 R573 to R576). -/
  kat : List Nat
  retire : List Nat
  /-- Next physical core of each tile in the known-answer rotation, cores passed over, in line, and cores that run a second
  time, with the signatures that differed (17 R573, R574). -/
  katNext : List (Nat × Nat)
  katHeld : List Nat
  katAgain : List (Nat × Nat)
  /-- Tick and time of each physical core's last passing run; an unlisted core passed the run of step C9, at time
  `katBase`. -/
  katPass : List (Nat × (Nat × Nat))
  katBase : Nat
  /-- Free spare cores that have failed (02 R42). -/
  badSpares : List Nat
  /-- Physical cores whose tile router is switched to pass-through (02 R44). -/
  passThrough : List Nat
  /-- Sites whose difference limit has been reported while it holds, and rails out of tolerance at the last sample, with
  whether that is reported (18 R607, R613). -/
  limits : List Nat
  railOut : List (Nat × Bool)
  /-- Failed lanes of each bond: 2,048 × (64 × direction + site) + lane (17 R567). -/
  lanes : List Nat
  /-- Physical control core that serves each logical number, and those that are free (17 R568). -/
  cc : List (Option Nat)
  ccFree : List Nat
  /-- Sensor values last reported over management, by sensor (19 R634). -/
  reported : List (Nat × Nat)
  /-- When COOL_IN was last written, in 10 ns (18 R619). -/
  coolAt : Option Nat
  deriving DecidableEq, Repr

/-- Crocus before any power. -/
def Crocus.init : Crocus :=
  { aux := false, pwrgd := false, rstN := false, crystal := false, good := 0, lastCount := none, ended := [], straps := none, strapsRead := false
    faultN := true, thermN := false, boots := 0, bootAt := 0, readyFrom := 0, image := none, running := false, log := [], halves := (none, none), flashHeld := none
    recBuf := [], recSeed := 0, retry := [], lcDelay := false, recDelay := false, resetOf := none, absorbed := 0, kat := [], retire := []
    katNext := [], katHeld := [], katAgain := [], katPass := [], katBase := 0, badSpares := [], passThrough := [], limits := [], railOut := []
    lanes := [], cc := [], ccFree := List.range 18, reported := [], coolAt := none }

/-- A window over which readings are averaged for a viewer: sum, samples, ticks, the value shown (14 R511). Averages are
numbered: u the hottest reading of confidential tenant u, 16 + u the power of its sites in 0.1 W, 32 the package power in W,
33 the power of the VIN_HI current in W, 64 + n the power of site n in 0.1 W. -/
structure Coarse where
  sum : Int
  n : Nat
  ticks : Nat
  shown : Int
  deriving DecidableEq, Repr

/-! ## Clock domains (18) -/

/-- A clock domain beside CLK_DOMm. -/
structure ClkDomain where
  /-- The PLL is on, and locked. -/
  on : Bool
  locked : Bool
  /-- A relock is under way (R599). -/
  relock : Bool
  /-- A cleared enable bit drains (R597). -/
  drain : Bool
  /-- The n that the ramp has reached. -/
  n : Nat
  /-- n_therm, n_cap of the site caps, n_cap of the package cap, n_volt (R602). -/
  therm : Nat
  cap : Nat
  pkg : Nat
  volt : Nat
  /-- Loops of 100 µs that the readings, the site means and the package mean have been calm (R612, R614). -/
  calm : Nat
  capCalm : Nat
  pkgCalm : Nat
  /-- The tick in which event 0xA0 was raised (R612). -/
  told : Option Nat
  /-- Stopped by a trip, or for a bridge voltage (R608, R613). -/
  trip : Bool
  vstop : Bool
  /-- n_volt is being lowered (R608). -/
  vlow : Bool
  deriving DecidableEq, Repr

def ClkDomain.init : ClkDomain :=
  { on := false, locked := false, relock := false, drain := false, n := 0, therm := 32, cap := 32, pkg := 32, volt := 32,
    calm := 0, capCalm := 0, pkgCalm := 0, told := none, trip := false, vstop := false, vlow := false }

/-! ## Peer ports and the twin (17, 19) -/

/-- An item of a mirror: a record or a slot that a tick's commit changed (17 R583). -/
inductive MirItem where
  | record (n : Nat)
  | slot (n : Nat)
  deriving DecidableEq, Repr

/-- What a standby holds of a tick's mirror until MEND: record images, and slots with csel and pos. -/
structure Staged where
  tick : Nat
  items : Nat
  recs : List (Nat × List Byte)
  slots : List (Nat × Nat × Nat)
  deriving DecidableEq, Repr

structure Peers where
  /-- Working lanes of each peer port (19 R637), and the received laser power of each lane that its port status reports, in
  0.01 dBm above -100 dBm, by 8 × port + lane (19 R636). -/
  lanes : List Nat
  laser : List (Nat × Nat)
  /-- Next sequence number of a frame, by port (17 R588). -/
  seq : List (Nat × Nat)
  /-- Items changed since the last applied tick, and the mirror under way: tick and items. -/
  changed : List MirItem
  sent : Option (Nat × List MirItem)
  staged : Option Staged
  /-- A query about the active's silence is out. -/
  asked : Bool
  /-- Digests of replicas: port, or 4 for this package, range, lgen, digest (17 R578). -/
  digests : List (Nat × Nat × Nat × Nat)
  /-- By range: the tick of its last agreeing pass (17 R579). -/
  agreed : List (Nat × Nat)
  /-- Ranges that have been counted late. -/
  late : List Nat
  /-- Digest lanes out of service, whose ranges the lane of the next stack reads (17 R576). -/
  lost : List Nat
  deriving DecidableEq, Repr

def Peers.init : Peers :=
  { lanes := [8, 8, 8, 8], laser := [], seq := [], changed := [], sent := none, staged := none, asked := false, digests := [],
    agreed := [], late := [], lost := [] }

end Sys2Proof.Machine
end

