-- ==== Sys2Proof/Machine/State.lean ====
section
/-! DEFINITION. The state of the package as plain data, the two stop reasons, and the state right after reset. -/

namespace Sys2Proof.Machine

/-- Why a step stops with a fault. No command of this block stops the model: every error that the spec names ends in a
next state (an error answer, a record, an event, a safe state), so the type is empty. -/
inductive Fault where
  deriving DecidableEq, Repr

/-- Why a command has no meaning here. -/
inductive Refusal where
  /-- Raised by an arm of `exec` whose command has no meaning in the model yet; safe: the step stops. -/
  | notModelled (mnemonic : String)
  deriving DecidableEq, Repr

/-- A message or signal that leaves the package, in the order sent: the model's own record of what the outside sees. -/
structure OutMsg where
  kind : String
  args : List Nat
  data : List Byte
  deriving DecidableEq, Repr

/-- The state of the package. -/
structure State where
  /-- R-space registers by offset, and BAR0 pages under `hepKey`; an unlisted one holds its reset value. -/
  regs : List (Nat × Word)
  /-- S-, P- and C-space bytes by storage address; an unlisted byte reads 0. -/
  mem : List Host.Cell
  /-- Deviations of stored bursts by number (storage address / 256); an unlisted burst is clean (08 R271, R272). -/
  badBursts : List (Nat × Deviation)
  bks : List (Nat × Stack)
  /-- Uncorrectable-burst reports that await their tenant copies (08 R296). -/
  ueWait : List UeReport
  /-- Words in error by device address; true: uncorrectable, false: single-bit: of scratchpads (02 R50), and of the hub SRAM
  that holds tick programs, translation entries and context records (07 R256; 17 R563). -/
  badWords : List (Nat × Bool)
  /-- Cores by logical address; an unlisted one is as at reset. -/
  cores : List (Nat × Core)
  /-- Messages in flight, in issue order by number. -/
  net : List (Nat × Msg)
  /-- DMA commands in the stack controllers' queues, in issue order by number. -/
  dma : List (Nat × Dma)
  /-- Round-robin position of each tile's stack controller: the core served last (02 R71). -/
  dmaLast : List (Nat × Nat)
  nextId : Nat
  /-- Records that firmware has yet to write to the fault history log (17 R570). -/
  logWait : List LogReq
  tasks : List (Nat × Task)
  seq : Seq
  /-- Hub time in 10 ns steps, 24 bits (11 R379). -/
  hubTime : Nat
  /-- Next fault sequence number of each queue (09 R322), and next entry number of each event ring (11 R397). -/
  faultSeq : List (Nat × Nat)
  /-- The entry update in progress: its context and the DVA range of the entry's old contents (09 R313). -/
  trnUpd : Option (Nat × Nat × Nat)
  hosts : List (Nat × HostTile)
  /-- Tenants whose ingest cut is due at their host tile, in order (13 R472). -/
  cuts : List Nat
  /-- The host tile, or 4 for the service domain, that holds the recovery buffer (16 R546). -/
  recHold : Option Nat
  /-- Keys of sealed windows that are valid and unlocked, by 8 × tenant + window: key and initial value (14 R504). -/
  sealKeys : List (Nat × (Nat × Nat))
  /-- Capacity falls whose recheck of admission is due, in order (10 R364). -/
  fell : List CapUnit
  /-- Power caps in force, by site (01 R30), and label parameters in force, by label (11 R404): where one differs from
  its register's reset value. -/
  caps : List (Nat × Nat)
  labels : List (Nat × Word)
  /-- Tenants whose tasks are not due in this tick: paused by a host port (13 R481). -/
  paused : List Nat
  /-- Tenants shadowed on a standby package (17 R582). -/
  shadow : List Nat
  /-- Detected faults whose records are not written yet, in order (09 R322, R324). -/
  faultWait : List FaultWait
  /-- Fault queues whose full event has been raised since they filled (09 R325). -/
  fullTold : List Nat
  evSeq : List (Nat × Nat)
  /-- Tenants whose partition is fenced by a partition reset (11 R392, 16 R554). -/
  fencedTen : List Nat
  /-- Guard floors in force, by partition; an unlisted one is 0x55 (06 R224). -/
  floors : List (Nat × Nat)
  /-- Arithmetic cycles of each compute domain, in fortieths (04 CORE_CYCLE). -/
  domCyc : List (Nat × Nat)
  /-- Lines of the control caches by device address / 64, and maintenance operations by slot (07 R244 to R252). -/
  lines : List (Nat × CacheLine)
  cmo : List (Nat × Cmo)
  /-- The package identity record, 18 words, as integration fused it (12 R443); empty until the first power-on. -/
  ident : List Word
  hub : HubNet
  opens : List (Nat × OpenSite)
  sec : Security
  cro : Crocus
  clks : List (Nat × ClkDomain)
  /-- Invalid sensors, by 4 × site + 0 site, 1 stack, 2 hub (18 R615). -/
  badSensor : List Nat
  /-- Averages of confidential partitions, by tenant (14 R511). -/
  coarse : List (Nat × Coarse)
  peers : Peers
  /-- Time since power-on, in 10 ns (the model's own). -/
  now : Nat
  /-- Free values used so far (the model's own). -/
  freeCtr : Nat
  /-- What has left the package (the model's own). -/
  out : List OutMsg
  /-- The commands that wait, first in, first out (the model's own). -/
  pending : List Instr
  deriving DecidableEq, Repr

/-- The package before AUX_3V3 rises: every register at its reset value, no power, a unit in the FIELD, memory with nothing
listed. Bring-up is what commands do from here. -/
def State.reset : State :=
  { regs := [], mem := [], badBursts := [], bks := [], ueWait := [], badWords := [], cores := [], net := [], dma := []
    dmaLast := [], nextId := 0, logWait := [], tasks := [], seq := Seq.init, hubTime := 0, faultSeq := [], trnUpd := none
    hosts := [], cuts := [], recHold := none, sealKeys := [], fell := [], caps := [], labels := [], paused := [], shadow := []
    faultWait := [], fullTold := [], evSeq := [], fencedTen := [], floors := [], domCyc := [], lines := [], cmo := []
    ident := [], hub := HubNet.init, opens := [], sec := Security.fresh Otp.field, cro := Crocus.init, clks := []
    badSensor := [], coarse := [], peers := Peers.init, now := 0, freeCtr := 0, out := [], pending := [] }

end Sys2Proof.Machine
end

