-- ==== Sys2Proof/Machine/Ops.lean ====
section
/-! DEFINITION. The named operations over registers, memory and cores. -/

namespace Sys2Proof.Machine

/-- The outcome of a command. -/
abbrev Out := Host.Outcome State Fault Refusal

/-! ## Registers -/

/-- A register word. -/
def State.rd (s : State) (off : Nat) : Word := (smLookup s.regs off).getD (regReset off)

/-- Stores a register word, in the canonical form. -/
def State.wr (s : State) (off : Nat) (w : Word) : State := { s with regs := smSetD s.regs (regReset off) off w }

/-- A field of a register. -/
def State.get (s : State) (f : Fld) : Nat := bitsOf (s.rd f.off) f.hi f.lo

/-- Stores a field of a register; the rest of the register is kept. -/
def State.set (s : State) (f : Fld) (v : Nat) : State := s.wr f.off (putBits (s.rd f.off) f.hi f.lo v)

/-- A one-bit field. -/
def State.flag (s : State) (f : Fld) : Bool := decide (s.get f = 1)
def State.setB (s : State) (f : Fld) (b : Bool) : State := s.set f (if b then 1 else 0)

/-- Adds to a counter field, which saturates. -/
def State.addSat (s : State) (f : Fld) (n : Nat) : State := s.set f (min (s.get f + n) (2 ^ f.width - 1))

/-- The package is in its safe state: the control cores and the sequencer are stopped, the stacks admit no command (16 R551; 07
R259). -/
def State.inSafe (s : State) : Bool := decide (s.get fBootMode = 4)

/-! ## Free values -/

/-- The next free word, and the state that has used it. -/
def State.freeWord (s : State) : Word × State := (Config.freeWord s.freeCtr, { s with freeCtr := s.freeCtr + 1 })

/-! ## Memory -/

/-- A byte of storage. -/
def State.byte (s : State) (k : Nat) : Byte := smGetD s.mem 0 k

def State.setByte (s : State) (k : Nat) (b : Byte) : State := { s with mem := smSetD s.mem 0 k b }

/-- Writes bytes at rising storage addresses. -/
def memPut : List Host.Cell → Nat → List Byte → List Host.Cell
  | m, _, [] => m
  | m, k, b :: bs => memPut (smSetD m 0 k b) (k + 1) bs

def State.setBytes (s : State) (k : Nat) (bs : List Byte) : State := { s with mem := memPut s.mem k bs }

/-- `n` bytes from a storage address. -/
def State.bytes (s : State) (k n : Nat) : List Byte := (List.range n).map (fun i => s.byte (k + i))

/-- The number that `n` little-endian bytes form. -/
def State.natAt (s : State) (k n : Nat) : Nat := leNat' s.byte k n
where
  leNat' (b : Nat → Byte) (off : Nat) : Nat → Nat
    | 0 => 0
    | m + 1 => (b off).toNat + 256 * leNat' b (off + 1) m

/-- The little-endian bytes of a number. -/
def bytesLE : Nat → Nat → List Byte
  | 0, _ => []
  | n + 1, v => BitVec.ofNat 8 (v % 256) :: bytesLE n (v / 256)

/-- The memory's canonical form: addresses rise strictly and no listed byte reads as an unlisted one. -/
def memWf (m : List Host.Cell) : Bool := smCanon m (fun _ => 0)

/-! ## Scratchpads (02) -/

/-- The P-space address of offset `o` of logical core `c` (02: tile, y and x stand above the 15 offset bits). -/
def spadAddr (c o : Nat) : Nat := 0x100000000000 + c * 2 ^ 15 + o

/-- A logical core address names a core (00 R8). -/
def isCore (c : Nat) : Bool := decide (c / 2 ^ 14 < 48 ∧ c / 2 ^ 7 % 128 < 80 ∧ c % 128 < 80)
def coreTile (c : Nat) : Nat := c / 2 ^ 14
def coreY (c : Nat) : Nat := c / 2 ^ 7 % 128
def coreX (c : Nat) : Nat := c % 128
def coreAddr (t x y : Nat) : Nat := t * 2 ^ 14 + y * 2 ^ 7 + x

def State.spad (s : State) (c : Nat) (o : Nat) : Byte := s.byte (spadAddr c o)
def State.spadNat (s : State) (c o n : Nat) : Nat := s.natAt (spadAddr c o) n
def State.spadBytes (s : State) (c o n : Nat) : List Byte := s.bytes (spadAddr c o) n

/-- Writes scratchpad bytes; a word in error that is rewritten whole is good again (02 R50). -/
def State.setSpad (s : State) (c o : Nat) (bs : List Byte) : State :=
  let k := spadAddr c o
  { s with
    mem := memPut s.mem k bs
    badWords := s.badWords.filter (fun w => !(decide (k ≤ w.1 ∧ w.1 + 8 ≤ k + bs.length))) }

/-- A word of hub SRAM, by its address in R-space or C-space, is uncorrectable (07 R256; 17 R563). -/
def State.sramBad (s : State) (a : Nat) : Bool := s.badWords.contains (a, true)

/-- Words of hub SRAM that are rewritten hold good data again. -/
def State.sramWritten (s : State) (a n : Nat) : State :=
  { s with badWords := s.badWords.filter (fun w => !(decide (a ≤ w.1 ∧ w.1 + 8 ≤ a + n))) }

/-- Stores bytes of the context store. -/
def State.putCtx (s : State) (a : Nat) (bs : List Byte) : State := (s.setBytes a bs).sramWritten a bs.length

/-- The least of some numbers. -/
def listMin : List Nat → Option Nat
  | [] => Option.none
  | x :: l => match listMin l with
    | Option.none => some x
    | some y => some (min x y)

/-- The offset of the lowest uncorrectable word that a read of `n` bytes at `o` touches (02 R50). -/
def State.spadPoison (s : State) (c o n : Nat) : Option Nat :=
  let k := spadAddr c o
  listMin ((s.badWords.filter (fun w => w.2 && decide (w.1 < k + n ∧ k < w.1 + 8))).map (fun w => w.1 - spadAddr c 0))

/-! ## Cores -/

/-- The reset value of a core special register (02, 03, 04, 05, 06). -/
def coreSrReset (c n : Nat) : Word :=
  if n = 0x000 then BitVec.ofNat 64 c
  else if n = 0x013 then 0x4B64000000000001 ||| BitVec.ofNat 64 (c * 2)
  else if n = 0x030 then 0x55
  else if n = 0x031 ∨ n = 0x032 then 0x1400
  else if n = 0x03C then 0x2C00
  else 0

/-- A core as its reset state leaves it; `cyc` is the domain's cycle count then. -/
def coreReset (cyc : Nat) : Core :=
  { mode := .idle, before := .idle, task := none, pc := 0, s := Vector.replicate 32 0, v := Vector.replicate 16 (Vector.replicate 32 0),
    a := Vector.replicate 8 (Vector.replicate 512 0), c := Vector.replicate 16 0, sr := [], tq := [], atoms := [],
    async := [], wait := none, bars := 0, evs := [], sats := [], fenced := false, cyc0 := cyc, scrub := 0 }

def State.core (s : State) (c : Nat) : Core := (smLookup s.cores c).getD (coreReset 0)
def State.setCore (s : State) (c : Nat) (k : Core) : State := { s with cores := smInsert s.cores c k }
def State.modCore (s : State) (c : Nat) (f : Core → Core) : State := s.setCore c (f (s.core c))

/-- A special register of a core, as stored. -/
def Core.srd (k : Core) (c n : Nat) : Word := (smLookup k.sr n).getD (coreSrReset c n)
def Core.swr (k : Core) (n : Nat) (w : Word) : Core := { k with sr := smInsert k.sr n w }

/-- A field of a special register of core `c`; the field's `off` is the register's number. -/
def State.cget (s : State) (c : Nat) (f : Fld) : Nat := bitsOf ((s.core c).srd c f.off) f.hi f.lo
def State.cset (s : State) (c : Nat) (f : Fld) (v : Nat) : State :=
  s.modCore c (fun k => k.swr f.off (putBits (k.srd c f.off) f.hi f.lo v))
def State.caddSat (s : State) (c : Nat) (f : Fld) (n : Nat) : State :=
  s.cset c f (min (s.cget c f + n) (2 ^ f.width - 1))

/-- A scalar register; s0 reads 0 (04, Architectural state). -/
def Core.sreg (k : Core) (r : Fin 32) : Word := if r = 0 then 0 else k.s[r]

/-- Writes a scalar register; a write of s0 is discarded. -/
def Core.setS (k : Core) (r : Fin 32) (w : Word) : Core := if r = 0 then k else { k with s := k.s.set r w }

def Core.vreg (k : Core) (r : Fin 16) : Vector Lane 32 := k.v[r]
def Core.setV (k : Core) (r : Fin 16) (x : Vector Lane 32) : Core := { k with v := k.v.set r x }
def Core.tile (k : Core) (r : Fin 8) : Vector F32 512 := k.a[r]
def Core.setTile (k : Core) (r : Fin 8) (x : Vector F32 512) : Core := { k with a := k.a.set r x }
def Core.ctr (k : Core) (r : Fin 16) : BitVec 32 := k.c[r]
def Core.setCtr (k : Core) (r : Fin 16) (x : BitVec 32) : Core := { k with c := k.c.set r x }

/-! ## Ownership (14 R488) -/

/-- The tenant that owns a tile, if one does; a tile out of service keeps its owner until the owner's teardown (R489). -/
def State.tileOwner (s : State) (t : Nat) : Option Nat :=
  let u := s.get (fTileOwner t)
  if s.get (fTileState t) = 1 ∨ (s.get (fTileState t) = 3 ∧ ((s.flag (fTenValid u) = true ∧ s.get (fTenTiles u) / 2 ^ t % 2 = 1)
      ∨ s.sec.kept.contains (t, u) = true))
  then some u else none

/-- The tenant that owns a core's tile. -/
def State.coreTenant (s : State) (c : Nat) : Option Nat := s.tileOwner (coreTile c)

/-- Site number of tile t, and its compute clock domain (00 R7, 02 R41). -/
def tileSite (t : Nat) : Nat := 16 * (t / 12) + t % 12
def tileDom (t : Nat) : Nat := 5 + t / 4

/-- A core is absent: no working physical core stands behind its address (02 R47, R74, R77). -/
def State.absent (s : State) (c : Nat) : Bool :=
  !isCore c || s.flag (fAbsent (coreTile c) (coreX c) (coreY c)) || decide (s.get (fSiteState (tileSite (coreTile c))) = 5)

/-- Changes the hub network's own state. -/
def State.modHub (s : State) (f : HubNet → HubNet) : State := { s with hub := f s.hub }

/-- The domain is gated: its clock has stopped at firmware's word (18 R597). -/
def State.gated (s : State) (m : Nat) : Bool := !(s.flag (fClkEn m)) && !(s.flag (fClkRun m))

/-- No engine reaches the core: it is absent, or its domain is gated. -/
def State.noCore (s : State) (c : Nat) : Bool := s.absent c || s.gated (tileDom (coreTile c))

/-- The domain's cycle count in fortieths. -/
def State.cycles (s : State) (m : Nat) : Nat := smGetD s.domCyc 0 m

/-! ## What leaves the package -/

def State.emit (s : State) (kind : String) (args : List Nat) (data : List Byte) : State :=
  { s with out := s.out ++ [⟨kind, args, data⟩] }

/-- A word from fields: value and low bit. -/
def packW (fs : List (Nat × Nat)) : Word := BitVec.ofNat 64 (fs.foldl (fun a f => a + f.1 * 2 ^ f.2) 0)

/-- A run of `n` bytes from `a`, cut at the multiples of `g`: start and length of each part. -/
def cutParts (g a n : Nat) : List (Nat × Nat) :=
  (List.range (n / g + 2)).filterMap (fun i =>
    let lo := max a (a / g * g + g * i)
    let hi := min (a + n) (a / g * g + g * i + g)
    if lo < hi then some (lo, hi - lo) else none)

end Sys2Proof.Machine
end

