-- ==== Sys2Proof/Machine/Events.lean ====
section
/-! DEFINITION. Event queues: the rings, the entries, and the records that several chapters write (11 R396 to R403,
R402; 10 R372). -/

namespace Sys2Proof.Machine

/-- The priority types: those of 11 R399 and those that their own chapters declare (0x03, 0x04, 0x50, 0x60, 0x71, 0x80,
0x90, 0x95, 0x96, 0x98, 0xA0, 0xA2). -/
def priorityTypes : List Nat :=
  [0x12, 0x20, 0x26, 0x27, 0x28, 0x30, 0x31, 0x35, 0x36, 0x40, 0x42, 0x03, 0x04, 0x50, 0x60, 0x71, 0x80, 0x90, 0x95,
   0x96, 0x98, 0xA0, 0xA2]

/-- Words of the priority ring and of the normal ring of queue `u` (R396). -/
def ringSize (u : Nat) (prio : Bool) : Nat :=
  if u < 16 then (if prio then 1024 else 3072) else (if prio then 4096 else 12288)

/-- Index in the queue of word `p` of a ring; pointers count modulo 2^32 (R396). -/
def ringIndex (u : Nat) (prio : Bool) (p : Nat) : Nat :=
  (if prio then 0 else ringSize u true) + p % 2 ^ 32 % ringSize u prio

/-- Register offset of queue word `i`. -/
def evqWord (u i : Nat) : Nat := if u < 16 then evqW u i else 0x00880000 + 8 * i

def fProd (u : Nat) (prio : Bool) : Fld := if prio then fEvqPprod u else fEvqNprod u
def fCons (u : Nat) (prio : Bool) : Fld := if prio then fEvqPcons u else fEvqNcons u

/-- Words between cons and prod, modulo 2^32. -/
def State.ringUsed (s : State) (u : Nat) (prio : Bool) : Nat :=
  (s.get (fProd u prio) + 2 ^ 32 - s.get (fCons u prio)) % 2 ^ 32

/-- The flags that say whether each ring holds an entry. -/
def State.ringFlags (s : State) (u : Nat) : State :=
  (s.setB (fEvqPnz u) (decide (s.ringUsed u true ≠ 0))).setB (fEvqNnz u) (decide (s.ringUsed u false ≠ 0))

/-- Advances NCONS past whole oldest entries until `need` words fit, counting each in ovw (R398). -/
def State.makeRoom (s : State) (u need : Nat) : Nat → State
  | 0 => s
  | fuel + 1 =>
    if s.ringUsed u false + need ≤ ringSize u false then s
    else
      let c := s.get (fEvqNcons u)
      let nw := bitsOf (s.rd (evqWord u (ringIndex u false c))) 7 0
      State.makeRoom ((s.set (fEvqNcons u) (c + nw + 1)).addSat (fEvqOvw u) 1) u need fuel

/-- Writes words at ring position `p` onward. -/
def State.ringWords (s : State) (u : Nat) (prio : Bool) : Nat → List Word → State
  | _, [] => s
  | p, w :: ws => State.ringWords (s.wr (evqWord u (ringIndex u prio p)) w) u prio (p + 1) ws

/-- The next entry sequence number of a ring; the first is 1 (R397). -/
def State.entrySeq (s : State) (u : Nat) (prio : Bool) : Nat := smGetD s.evSeq 1 (2 * u + (if prio then 1 else 0))

/-- Writes an entry: record words, then the length word, then prod (R397, R398). -/
def State.putEntry (s : State) (u : Nat) (prio : Bool) (type : Nat) (ws : List Word) : State :=
  let p := s.get (fProd u prio)
  let nw := ws.length
  let q := s.entrySeq u prio
  let lw := packW [(nw, 0), (if prio then 1 else 0, 8), (type, 16), (q, 32)]
  let s := (s.ringWords u prio (p + 1) ws).wr (evqWord u (ringIndex u prio p)) lw
  let s := s.set (fProd u prio) (p + nw + 1)
  ({ s with evSeq := smSetD s.evSeq 1 (2 * u + (if prio then 1 else 0)) ((q + 1) % 2 ^ 32) }).ringFlags u

/-- Places a record in queue `u` (R396 to R399). The record's type stands in word 0 [23:16]. -/
def State.raise (s : State) (u : Nat) (ws : List Word) : State :=
  let type := bitsOf (ws.headD 0) 23 16
  let need := ws.length + 1
  if priorityTypes.contains type then
    if s.ringUsed u true + need ≤ ringSize u true then s.putEntry u true type ws
    else s.addSat (fEvqPlost u) 1
  else (s.makeRoom u need 40).putEntry u false type ws

/-- Tick number bits [31:0]. -/
def State.tick32 (s : State) : Nat := s.get (fTsqTick) % 2 ^ 32

/-- Word 1 of a general event: tick number and hub time (R402, R403). -/
def State.timeWord (s : State) : Word := packW [(s.tick32, 0), (s.hubTime % 2 ^ 24, 32)]

/-- A general event of length 3 in queue `u`; the firmware queue's copy carries fw (R403). `extra` are further fields of
word 0. -/
def State.raiseX (s : State) (u type : Nat) (extra : List (Nat × Nat)) (detail : Word) : State :=
  let who := if u < 16 then [(u, 24)] else [(1, 28)]
  s.raise u [packW ([(1, 0), (3, 8), (type, 16)] ++ who ++ extra), s.timeWord, detail]

def State.raiseG (s : State) (u type : Nat) (detail : Word) : State := s.raiseX u type [] detail

/-- A tenancy event of tenant u: to its queue, and to the firmware queue, whose copy names the tenant too (14 R517). -/
def State.raiseTenancy (s : State) (u type : Nat) (detail : Word) : State :=
  (s.raiseX u type [] detail).raiseX 16 type [(u, 24)] detail

/-- To the tenant named, where there is one, and to the firmware queue. -/
def State.raiseBoth (s : State) (u : Option Nat) (type : Nat) (extra : List (Nat × Nat)) (detail : Word) : State :=
  let s := match u with
    | some u => s.raiseX u type extra detail
    | none => s
  s.raiseX 16 type extra detail

/-- The device address of an R-space offset (00 R9). -/
def regAddr (off : Nat) : Nat := 0x200000000000 + off

/-- Event 0x07, write refused: 1 value out of range, 2 state does not permit, 3 consistency check failed, 4 busy. -/
def State.refuseWrite (s : State) (addr reason : Nat) : State :=
  s.raiseG 16 0x07 (packW [(addr, 0), (reason, 48)])

/-- Event 0x01, reserved-write, in the writer's queue (R10). A register of a host page alone has no device address: the
address that its event carries is a free value. -/
def State.reservedWrite (s : State) (u addr : Nat) : State :=
  if addr < 0x200100000000 then s.raiseG u 0x01 (packW [(addr, 0)])
  else
    let r := s.freeWord
    r.2.raiseG u 0x01 (packW [(bitsOf r.1 47 0, 0)])

/-- Event 0x01 for a core special register (R403). -/
def State.reservedSr (s : State) (c n : Nat) : State :=
  match s.coreTenant c with
  | some u => s.raiseG u 0x01 (packW [(n, 0), (c, 12), (1, 63)])
  | none => s

/-- An event record of the stack chapter, of length 3, in queue `u`, of tick `n` (08 R296). -/
def State.raiseStkAt (s : State) (n u type t pch pin addr layer src : Nat) (ppat : Bool) : State :=
  let who := if u < 16 then [(u, 48)] else [(1, 52)]
  s.raise u [packW ([(1, 0), (3, 8), (type, 16), (t, 24), (pch, 32), (pin, 40)] ++ who),
    packW [(addr, 0), (layer, 48)], packW [(n, 0), (src, 32), (if ppat then 1 else 0, 36)]]

def State.raiseStk (s : State) (u type t pch pin addr layer src : Nat) (ppat : Bool) : State :=
  s.raiseStkAt s.tick32 u type t pch pin addr layer src ppat

/-- A record for the fault history log, which firmware writes (17 R570). -/
def State.logLater (s : State) (kind uclass unit detail : Nat) : State :=
  { s with logWait := s.logWait ++ [⟨kind, uclass, unit, detail⟩] }

/-- A sequencer event in queue `u` (10 R372). -/
def State.raiseSeqTo (s : State) (u type task policy reason rec code : Nat) : State :=
  let who := if u < 16 then [(u, 24)] else [(1, 28)]
  s.raise u [packW ([(1, 0), (3, 8), (type, 16), (reason, 29), (task, 32), (policy, 42)] ++ who),
    packW [(s.tick32, 0), (s.get fTsqToff, 32)], packW [(rec, 0), (code, 16)]]

/-- A sequencer event in the owning tenant's queue and in the firmware queue (10 R372). -/
def State.raiseSeq (s : State) (tenant type task policy reason rec code : Nat) : State :=
  (s.raiseSeqTo tenant type task policy reason rec code).raiseSeqTo 16 type task policy reason rec code

/-- A request into a partition under reset is absorbed: RST_STAT counts it, and the event that ends the reset (16 R554,
R562). -/
def State.absorb (s : State) : State :=
  let s := s.addSat fRstAbsorbed 1
  { s with cro := { s.cro with absorbed := min 65535 (s.cro.absorbed + 1) } }

end Sys2Proof.Machine
end

