-- ==== Sys2Proof/Machine/Num.lean ====
section
/-! DEFINITION. Exact fractions and the one rounding of a real value to F16 or F32 (03 R86, R101, R105, R106, R116;
05 R183, R186). Every intermediate value is an exact fraction, so each result is rounded once. -/

namespace Sys2Proof.Machine

/-- An exact fraction `n / d`; `d` is never 0 in the model's values. It is not reduced. -/
structure Q where
  n : Int
  d : Nat
  deriving DecidableEq, Repr

namespace Q

/-- An integer. -/
def int (z : Int) : Q := ⟨z, 1⟩
def zero : Q := ⟨0, 1⟩
def add (a b : Q) : Q := ⟨a.n * b.d + b.n * a.d, a.d * b.d⟩
def neg (a : Q) : Q := ⟨-a.n, a.d⟩
def sub (a b : Q) : Q := add a (neg b)
def mul (a b : Q) : Q := ⟨a.n * b.n, a.d * b.d⟩
/-- The quotient; 0 where the divisor is 0 (03 R113: `t := 0` when `unit = 0`). -/
def div (a b : Q) : Q :=
  if b.n = 0 then zero else ⟨a.n * b.d * b.n.sign, a.d * b.n.natAbs⟩
def abs (a : Q) : Q := ⟨a.n.natAbs, a.d⟩
def isZero (a : Q) : Bool := a.n == 0
def isNeg (a : Q) : Bool := decide (a.n < 0)
def lt (a b : Q) : Bool := decide (a.n * b.d < b.n * a.d)
def le (a b : Q) : Bool := decide (a.n * b.d ≤ b.n * a.d)
def eq (a b : Q) : Bool := decide (a.n * b.d = b.n * a.d)
/-- The power of two `2^z`. -/
def pow2 (z : Int) : Q := match z with
  | .ofNat k => ⟨2 ^ k, 1⟩
  | .negSucc k => ⟨1, 2 ^ (k + 1)⟩
/-- The integer below or equal. -/
def floor (a : Q) : Int := a.n / (a.d : Int)
/-- The integer above or equal. -/
def ceil (a : Q) : Int := -((-a.n) / (a.d : Int))
/-- The exact sum of a list. -/
def sum (l : List Q) : Q := l.foldl add zero

end Q

/-- A binary float format: precision in bits with the hidden one, least exponent, largest finite code. -/
structure FloatFmt where
  p : Nat
  emin : Int
  maxCode : Nat
  deriving DecidableEq, Repr

/-- IEEE 754 binary16 (03 R86). -/
def f16Fmt : FloatFmt := ⟨11, -14, 0x7BFF⟩
/-- IEEE 754 binary32 (03 R86). -/
def f32Fmt : FloatFmt := ⟨24, -126, 0x7F7FFFFF⟩

/-- The largest `e` with `2^e ≤ n/d`, for `n, d > 0`. -/
def log2Floor (n d : Nat) : Int :=
  let e : Int := (Nat.log2 n : Int) - Nat.log2 d
  if Q.le (Q.pow2 e) ⟨n, d⟩ then e else e - 1

/-- The exponent of the binade in which a positive magnitude is rounded: never below the format's least. -/
def FloatFmt.exponent (f : FloatFmt) (n d : Nat) : Int := max f.emin (log2Floor n d)

/-- The spacing of the format's values at exponent `e`. -/
def FloatFmt.quantum (f : FloatFmt) (e : Int) : Q := Q.pow2 (e - ((f.p : Int) - 1))

/-- The magnitude code of `m` quanta at exponent `e`; a carry to the next binade comes out right. -/
def FloatFmt.code (f : FloatFmt) (e : Int) (m : Nat) : Nat := (e - f.emin).toNat * 2 ^ (f.p - 1) + m

/-- How a value between two neighbours is rounded (03, Rounding). -/
inductive Rnd where
  | nearestEven
  | stochastic (r : Nat)
  deriving DecidableEq, Repr

/-- Whether `whole + fracN/fracD` quanta go up to `whole + 1` in magnitude. Nearest-even ties to an even count
(R105); a stochastic draw compares `r × (hi − lo) < (t − lo) × 65,536` (R106), where for a negative value `lo` is the
neighbour of larger magnitude. -/
def roundsUp (rnd : Rnd) (negative : Bool) (whole : Nat) (fracN fracD : Nat) : Bool :=
  match rnd with
  | .nearestEven => decide (fracD < 2 * fracN) || (decide (2 * fracN = fracD) && decide (whole % 2 = 1))
  | .stochastic r =>
    if fracN = 0 then false
    else if negative then !decide (r * fracD < (fracD - fracN) * 65536)
    else decide (r * fracD < fracN * 65536)

/-- The magnitude code of the rounding of a non-zero value; it may lie above the largest finite code. -/
def FloatFmt.roundMag (f : FloatFmt) (rnd : Rnd) (x : Q) : Nat :=
  let n := x.n.natAbs
  if n = 0 then 0 else
    let e := f.exponent n x.d
    let u := Q.div ⟨n, x.d⟩ (f.quantum e)
    let un := u.n.natAbs
    let whole := un / u.d
    f.code e (if roundsUp rnd x.isNeg whole (un % u.d) u.d then whole + 1 else whole)

/-- The value of a finite magnitude code. -/
def FloatFmt.magValue (f : FloatFmt) (c : Nat) : Q :=
  let ex := c / 2 ^ (f.p - 1)
  let fr := c % 2 ^ (f.p - 1)
  if ex = 0 then Q.mul (Q.int fr) (f.quantum f.emin)
  else Q.mul (Q.int (2 ^ (f.p - 1) + fr : Nat)) (f.quantum (f.emin + ((ex : Int) - 1)))

/-- Rounding where the result is never an infinity (03 R102, R116): the magnitude code, and whether it saturated.
Under nearest-even only what IEEE rounding would make an infinity saturates; under stochastic every value beyond the
largest finite magnitude does. -/
def FloatFmt.roundSat (f : FloatFmt) (rnd : Rnd) (x : Q) : Nat × Bool :=
  match rnd with
  | .nearestEven =>
    let c := f.roundMag .nearestEven x
    if f.maxCode < c then (f.maxCode, true) else (c, false)
  | .stochastic r =>
    if Q.lt (f.magValue f.maxCode) x.abs then (f.maxCode, true) else (f.roundMag (.stochastic r) x, false)

/-- A decoded float. Zero keeps its sign. -/
inductive FVal where
  | nan
  | inf (negative : Bool)
  | fin (negative : Bool) (mag : Q)
  deriving DecidableEq, Repr

/-- Decodes the bits of a float of `w` bits. -/
def FloatFmt.decode (f : FloatFmt) (w bits : Nat) : FVal :=
  let negative := decide (2 ^ (w - 1) ≤ bits % 2 ^ w)
  let c := bits % 2 ^ (w - 1)
  if c ≤ f.maxCode then .fin negative (f.magValue c)
  else if c = f.maxCode + 1 then .inf negative
  else .nan

/-- The exact value of a finite float; 0 for the others. -/
def FVal.q : FVal → Q
  | .fin n m => if n then m.neg else m
  | _ => Q.zero

def FVal.isFin : FVal → Bool
  | .fin _ _ => true
  | _ => false

def FVal.isNan : FVal → Bool
  | .nan => true
  | _ => false

def f16Val (x : Lane) : FVal := f16Fmt.decode 16 x.toNat
def f32Val (x : F32) : FVal := f32Fmt.decode 32 x.toNat

/-- The canonical F16 NaN (05 R183). -/
def f16Nan : Lane := 0x7E00
def f16Inf (negative : Bool) : Lane := if negative then 0xFC00 else 0x7C00

/-- IEEE rounding to F16: nearest-even, overflow to an infinity; `negative` is the sign of a zero result (05 R183). -/
def f16Ieee (negative : Bool) (x : Q) : Lane :=
  let c := f16Fmt.roundMag .nearestEven x
  BitVec.ofNat 16 ((if negative then 0x8000 else 0) + min c 0x7C00)

/-- Rounding into F16 that saturates (03 R116, R117); an exact zero gives +0. DESIGN CHOICE (log 77): a negative value other
than zero that rounds to zero keeps its sign. -/
def f16Sat (rnd : Rnd) (x : Q) : Lane × Bool :=
  if x.isZero then (0, false) else
    let r := f16Fmt.roundSat rnd x
    (BitVec.ofNat 16 ((if x.isNeg then 0x8000 else 0) + r.1), r.2)

/-- Rounding into F32 that saturates (03 R101, R102, R116); an exact zero gives +0. DESIGN CHOICE (log 77): a negative value
other than zero that rounds to zero keeps its sign. -/
def f32Sat (rnd : Rnd) (x : Q) : F32 × Bool :=
  if x.isZero then (0, false) else
    let r := f32Fmt.roundSat rnd x
    (BitVec.ofNat 32 ((if x.isNeg then 0x80000000 else 0) + r.1), r.2)

/-- The sign bit of a finite value. -/
def FVal.isNegative : FVal → Bool
  | .fin n _ => n
  | .inf n => n
  | .nan => false

/-- A finite F32 rounded to F16 (03 R117): a zero keeps its sign. -/
def toF16 (rnd : Rnd) (v : FVal) : Lane × Bool :=
  if v.q.isZero then (if v.isNegative then 0x8000 else 0, false) else f16Sat rnd v.q

/-- A finite F16 as F32, exactly (03 R117). -/
def toF32 (v : FVal) : F32 :=
  if v.q.isZero then (if v.isNegative then 0x80000000 else 0) else (f32Sat .nearestEven v.q).1

/-! ## F16 lane arithmetic (05 R183 to R186) -/

/-- Rounds a sum or product whose exact value is `x`; `zeroNeg` is the sign of an exact zero. -/
def f16Result (zeroNeg : Bool) (x : Q) : Lane :=
  if x.isZero then (if zeroNeg then 0x8000 else 0) else f16Ieee x.isNeg x

def fAdd (a b : FVal) : Lane :=
  match a, b with
  | .nan, _ => f16Nan
  | _, .nan => f16Nan
  | .inf m, .inf n => if m = n then f16Inf m else f16Nan
  | .inf m, _ => f16Inf m
  | _, .inf n => f16Inf n
  | .fin m _, .fin n _ => f16Result (m && n) (Q.add a.q b.q)

def FVal.negate : FVal → FVal
  | .nan => .nan
  | .inf n => .inf (!n)
  | .fin n m => .fin (!n) m

/-- `a × b + c` with one rounding (05 R184). A product of zero and an infinity is invalid. -/
def fFma (a b c : FVal) : Lane :=
  match a, b, c with
  | .nan, _, _ => f16Nan
  | _, .nan, _ => f16Nan
  | _, _, .nan => f16Nan
  | .fin m x, .fin n y, .fin k _ =>
    let p := Q.mul x y
    f16Result (xor m n && k) (Q.add (if xor m n then p.neg else p) c.q)
  | .fin _ _, .fin _ _, .inf k => f16Inf k
  | .inf m, .fin n y, c => if y.isZero then f16Nan else
      match c with
      | .inf k => if k = xor m n then f16Inf k else f16Nan
      | _ => f16Inf (xor m n)
  | .fin m x, .inf n, c => if x.isZero then f16Nan else
      match c with
      | .inf k => if k = xor m n then f16Inf k else f16Nan
      | _ => f16Inf (xor m n)
  | .inf m, .inf n, c =>
      match c with
      | .inf k => if k = xor m n then f16Inf k else f16Nan
      | _ => f16Inf (xor m n)

def fMul (a b : FVal) : Lane :=
  match a, b with
  | .nan, _ => f16Nan
  | _, .nan => f16Nan
  | .inf m, .inf n => f16Inf (xor m n)
  | .inf m, .fin n y => if y.isZero then f16Nan else f16Inf (xor m n)
  | .fin m x, .inf n => if x.isZero then f16Nan else f16Inf (xor m n)
  | .fin m x, .fin n y =>
    let p := Q.mul x y
    f16Result (xor m n) (if xor m n then p.neg else p)

/-- Whether `a` is less than `b` as F16 values; −0 is less than +0 when `signedZero` (R185). No NaN. -/
def fLess (signedZero : Bool) (a b : FVal) : Bool :=
  match a, b with
  | .nan, _ => false
  | _, .nan => false
  | .inf m, .inf n => m && !n
  | .inf m, _ => m
  | _, .inf n => !n
  | .fin m x, .fin n y =>
    if x.isZero && y.isZero then signedZero && m && !n else Q.lt a.q b.q

def fEqual (a b : FVal) : Bool :=
  match a, b with
  | .inf m, .inf n => m == n
  | .fin _ _, .fin _ _ => Q.eq a.q b.q
  | _, _ => false

/-- F16 minimum of two lanes (R185). -/
def f16Min (a b : Lane) : Lane :=
  match (f16Val a).isNan, (f16Val b).isNan with
  | true, true => f16Nan
  | true, false => b
  | false, true => a
  | false, false => if fLess true (f16Val b) (f16Val a) then b else a

/-- F16 maximum of two lanes (R185). -/
def f16Max (a b : Lane) : Lane :=
  match (f16Val a).isNan, (f16Val b).isNan with
  | true, true => f16Nan
  | true, false => b
  | false, true => a
  | false, false => if fLess true (f16Val a) (f16Val b) then b else a

def f16Rcp (a : FVal) : Lane :=
  match a with
  | .nan => f16Nan
  | .inf n => if n then 0x8000 else 0
  | .fin n m => if m.isZero then f16Inf n else f16Ieee n (Q.div (Q.int (if n then -1 else 1)) m)

/-- The largest `r` below `2^(k+1)` with `r² ≤ x`, built from bit `k` down. -/
def isqrtBits (x : Nat) : Nat → Nat → Nat
  | 0, r => if (r + 1) * (r + 1) ≤ x then r + 1 else r
  | k + 1, r =>
    let r' := r + 2 ^ (k + 1)
    isqrtBits x k (if r' * r' ≤ x then r' else r)

/-- `1/√a` rounded to nearest-even (R186): the count of quanta is `⌊√y⌋` of `y = 1/(a·q²)`, and the half is decided on
`(2n + 1)²` against `4y`. -/
def f16Rsq (a : FVal) : Lane :=
  match a with
  | .nan => f16Nan
  | .inf n => if n then f16Nan else 0
  | .fin n m =>
    if m.isZero then f16Inf n
    else if n then f16Nan
    else
      let e := max f16Fmt.emin ((log2Floor m.d m.n.natAbs) / 2)
      let qu := f16Fmt.quantum e
      let y := Q.div (Q.int 1) (Q.mul m (Q.mul qu qu))
      let k := isqrtBits y.floor.toNat 11 0
      let four := Q.mul (Q.int 4) y
      let h := Q.int ((2 * k + 1) * (2 * k + 1) : Nat)
      let up := Q.lt h four || (Q.eq h four && k % 2 == 1)
      BitVec.ofNat 16 (min (f16Fmt.code e (if up then k + 1 else k)) 0x7C00)

/-- Whether the positive fraction `c` is at most `2^(k / 2^j)`, decided exactly on `c^(2^j)` against `2^k`. -/
def leExp2 (c : Q) (k : Int) (j : Nat) : Bool :=
  Q.le ⟨c.n ^ (2 ^ j), c.d ^ (2 ^ j)⟩ (Q.pow2 k)

/-- The largest `m` below `2^(b+1)`, built from bit `b` down, for which `m` quanta are at most `2^(k/2^j)`. -/
def exp2Bits (qu : Q) (k : Int) (j : Nat) : Nat → Nat → Nat
  | 0, m => if leExp2 (Q.mul (Q.int (m + 1 : Nat)) qu) k j then m + 1 else m
  | b + 1, m =>
    let m' := m + 2 ^ (b + 1)
    exp2Bits qu k j b (if leExp2 (Q.mul (Q.int m') qu) k j then m' else m)

/-- Halves the fraction `k / 2^j` while `k` is even. -/
def reduceExp : Nat → Int → Int × Nat
  | 0, k => (k, 0)
  | j + 1, k => if k % 2 = 0 then reduceExp j (k / 2) else (k, j + 1)

/-- `2^a` rounded to nearest-even (R186). A finite F16 is `n / 2^24` exactly; the comparison with each candidate is
exact, so the result is correctly rounded. Beyond the exponents that F16 can hold the result is an infinity or +0. -/
def f16Exp2 (a : FVal) : Lane :=
  match a with
  | .nan => f16Nan
  | .inf n => if n then 0 else 0x7C00
  | .fin _ _ =>
    let x := a.q
    if Q.le (Q.int 16) x then 0x7C00
    else if Q.lt x (Q.int (-26)) then 0
    else
      let e := max f16Fmt.emin x.floor
      let qu := f16Fmt.quantum e
      let kj := reduceExp 24 (Q.mul x (Q.pow2 24)).floor
      let k := kj.1
      let j := kj.2
      let m := exp2Bits qu k j 11 0
      let half := Q.mul (Q.int (2 * m + 1 : Nat)) (Q.mul qu (Q.pow2 (-1)))
      let above := leExp2 half k j
      let tie := above && Q.eq ⟨half.n ^ (2 ^ j), half.d ^ (2 ^ j)⟩ (Q.pow2 k)
      let up := above && (!tie || m % 2 == 1)
      BitVec.ofNat 16 (min (f16Fmt.code e (if up then m + 1 else m)) 0x7C00)

end Sys2Proof.Machine
end

