-- ==== Sys2Proof/Machine/Narrow.lean ====
section
/-! DEFINITION. The narrow formats, their scales, the superblock layout, its tail checks, the exact block product and
the conversions (03 R78 to R119). A superblock is read through a function from its byte offset to its byte. -/

namespace Sys2Proof.Machine

/-! ## Format codes (R78) -/

def fmtKI4 : Nat := 0
def fmtKF4 : Nat := 1
def fmtKI2 : Nat := 2
def fmtKT2 : Nat := 3
def fmtKI8 : Nat := 4
def fmtKF8 : Nat := 5
def fmtF16 : Nat := 6
def fmtF32 : Nat := 7

def isNarrow (fmt : Nat) : Bool := decide (fmt ≤ 5)
def isEightBit (fmt : Nat) : Bool := fmt == fmtKI8 || fmt == fmtKF8

/-- Grid unit `u` of a narrow format (R78). -/
def gridUnit (fmt : Nat) : Q :=
  if fmt = fmtKF4 ∨ fmt = fmtKI2 then Q.pow2 (-1) else if fmt = fmtKF8 then Q.pow2 (-6) else Q.int 1

/-- Largest grid magnitude that a conversion produces (R78). -/
def gridMax (fmt : Nat) : Nat :=
  if fmt = fmtKI4 then 7 else if fmt = fmtKF4 then 12 else if fmt = fmtKI2 then 3
  else if fmt = fmtKT2 then 1 else if fmt = fmtKI8 then 127 else 1984

/-- Data bytes of one block (R92). -/
def blockBytes (fmt : Nat) : Nat :=
  if fmt = fmtKI4 ∨ fmt = fmtKF4 then 32 else if fmt = fmtKI2 then 16 else if fmt = fmtKT2 then 13 else 64

def scalePlane (fmt : Nat) : Nat := 64 * blockBytes fmt
def tailOffset (fmt : Nat) : Nat := 64 * blockBytes fmt + 64
def superblockSize (fmt : Nat) : Nat := 64 * blockBytes fmt + 128

/-! ## Element codes (R79 to R85) -/

def signed (bits v : Nat) : Int := if v < 2 ^ (bits - 1) then (v : Int) else (v : Int) - 2 ^ bits

def gridKF4 (c : Nat) : Int :=
  let e := (c / 2) % 4
  let m := c % 2
  let mag : Nat := if e = 0 then m else 2 ^ e + m * 2 ^ (e - 1)
  if c / 8 % 2 = 1 then -(mag : Int) else mag

def gridKF8 (c : Nat) : Int :=
  let e := (c / 16) % 8
  let m := c % 16
  let mag : Nat := if e = 0 then m else (16 + m) * 2 ^ (e - 1)
  if c / 128 % 2 = 1 then -(mag : Int) else mag

/-- Grid value of an element code; a KT2 code is its digit (R79 to R85). -/
def gridOfCode (fmt c : Nat) : Int :=
  if fmt = fmtKI4 then signed 4 c
  else if fmt = fmtKF4 then gridKF4 c
  else if fmt = fmtKI2 then 2 * (c : Int) - 3
  else if fmt = fmtKT2 then (c : Int) - 1
  else if fmt = fmtKI8 then signed 8 c
  else gridKF8 c

/-- Element code `k` of a block whose bytes are `b` (R83, R93). -/
def elemCode (fmt : Nat) (b : Nat → Byte) (k : Nat) : Nat :=
  if fmt = fmtKI4 ∨ fmt = fmtKF4 then ((b (k / 2)).toNat >>> (4 * (k % 2))) % 16
  else if fmt = fmtKI2 then ((b (k / 4)).toNat >>> (2 * (k % 4))) % 4
  else if fmt = fmtKT2 then ((b (k / 5)).toNat / 3 ^ (k % 5)) % 3
  else (b k).toNat

/-- A KT2 byte of 0xF3 or above is malformed (R84). -/
def kt2Malformed (x : Byte) : Bool := decide (0xF3 ≤ x.toNat)

/-! ## Scales (R87, R88) -/

def e5m3 (c : Nat) : Q :=
  let e := c / 8 % 32
  let m := c % 8
  if e = 0 then Q.mul (Q.int m) (Q.pow2 (-17)) else Q.mul (Q.int (8 + m : Nat)) (Q.pow2 ((e : Int) - 18))

def sscaleValue (c : Nat) : Q :=
  let e := c / 256 % 256
  if e = 0 then Q.zero else Q.mul (Q.int (256 + c % 256 : Nat)) (Q.pow2 ((e : Int) - 135))

/-! ## The tail (R95 to R97) -/

/-- The bytes of a little-endian number of `n` bytes. -/
def leNat (b : Nat → Byte) (off n : Nat) : Nat :=
  match n with
  | 0 => 0
  | k + 1 => (b off).toNat + 256 * leNat b (off + 1) k

def popcount : Nat → Nat → Nat
  | 0, _ => 0
  | w + 1, x => x % 2 + popcount w (x / 2)

/-- The tail of a superblock. -/
structure Tail where
  sscale : Nat
  fmt : Nat
  scnt : Nat
  spres : Nat
  entries : List Nat
  deriving DecidableEq, Repr

/-- Reads the tail of a superblock of the named format (R95). -/
def readTail (fmt : Nat) (sb : Nat → Byte) : Tail :=
  let t := tailOffset fmt
  { sscale := leNat sb t 2, fmt := (sb (t + 2)).toNat % 16, scnt := (sb (t + 3)).toNat, spres := leNat sb (t + 8) 8,
    entries := (List.range 12).map (fun p => leNat sb (t + 16 + 4 * p) 4) }

/-- The sidecar entry of block `i`, where the block has one (R96). -/
def Tail.entryOf (t : Tail) (i : Nat) : Option Nat :=
  if (t.spres >>> i) % 2 = 1 then t.entries[popcount i (t.spres % 2 ^ i)]? else none

def entCnt (e : Nat) : Nat := (e >>> 28) % 4
def entPos1 (e : Nat) : Nat := (e >>> 22) % 64
def entPos0 (e : Nat) : Nat := (e >>> 16) % 64
def entVal1 (e : Nat) : Int := signed 8 ((e >>> 8) % 256)
def entVal0 (e : Nat) : Int := signed 8 (e % 256)

/-- An entry with cnt 0 or 3, or with two positions not rising, is malformed (R97). -/
def entryMalformed (e : Nat) : Bool :=
  entCnt e == 0 || entCnt e == 3 || (entCnt e == 2 && decide (entPos1 e ≤ entPos0 e))

/-- The bytes of a block that a read of elements `k0` to `k1` touches. -/
def kt2ByteRange (k0 k1 : Nat) : List Nat := (List.range (k1 / 5 + 1)).filter (fun j => decide (k0 / 5 ≤ j))

/-- The first failing check of R97 for the blocks `used`, of which the elements `k0` to `k1` are read: its reason
(05 R195) and the block it names. -/
def tailCheck (fmt : Nat) (t : Tail) (sb : Nat → Byte) (used : List Nat) (k0 k1 : Nat) : Option (Nat × Nat) :=
  if t.fmt ≠ fmt then some (0x2, 0)
  else if 12 < t.scnt ∨ t.scnt ≠ popcount 64 t.spres then some (0x4, 0)
  else if isEightBit fmt ∧ (t.scnt ≠ 0 ∨ t.spres ≠ 0) then some (0x5, 0)
  else
    match used.find? (fun i => match t.entryOf i with
        | some e => entryMalformed e
        | none => false) with
    | some i => some (0x6, i)
    | none =>
      if fmt ≠ fmtKT2 then none
      else match used.find? (fun i => (kt2ByteRange k0 k1).any (fun j => kt2Malformed (sb (i * 13 + j)))) with
        | some i => some (0x7, i)
        | none => none

/-- Grid value of element `k` of block `i`, from a sidecar entry where one covers it (R90, R100). -/
def gridAt (fmt : Nat) (t : Tail) (sb : Nat → Byte) (i k : Nat) : Int :=
  let packed := gridOfCode fmt (elemCode fmt (fun j => sb (i * blockBytes fmt + j)) k)
  match t.entryOf i with
  | none => packed
  | some e =>
    if entPos0 e = k then entVal0 e
    else if entCnt e = 2 ∧ entPos1 e = k then entVal1 e
    else packed

/-- Block scale code of block `i` (R92). -/
def scaleCodeAt (fmt : Nat) (sb : Nat → Byte) (i : Nat) : Nat := (sb (scalePlane fmt + i)).toNat

/-- `u × s × S` of block `i` (R89). -/
def blockUnit (fmt : Nat) (t : Tail) (sb : Nat → Byte) (i : Nat) : Q :=
  Q.mul (gridUnit fmt) (Q.mul (e5m3 (scaleCodeAt fmt sb i)) (sscaleValue t.sscale))

/-- The pairings of activation and weight format (R99). -/
def pairingOk (fa fw : Nat) : Bool :=
  ((fa == fmtKI4 || fa == fmtKF4) && decide (fw ≤ fmtKT2)) || (isEightBit fa && isEightBit fw)

/-- The block sum `S` of two rows of grid values (R100). -/
def blockSum (a w : List Int) : Int := (List.zipWith (· * ·) a w).foldl (· + ·) 0

/-- The 64 grid values of a block. -/
def gridRow (fmt : Nat) (t : Tail) (sb : Nat → Byte) (i : Nat) : List Int :=
  (List.range 64).map (gridAt fmt t sb i)

/-! ## Rounding to a narrow format (R104 to R106) -/

/-- What a rounding targets: a narrow format's produced grid values, or a sidecar's integers. -/
inductive Target where
  | narrow (fmt : Nat)
  | sidecar
  deriving DecidableEq, Repr

def Target.lim : Target → Nat
  | .narrow f => gridMax f
  | .sidecar => 127

/-- The codes a conversion produces, in rising grid order, for the formats whose grid has gaps. -/
def producedCodes (fmt : Nat) : List Nat :=
  if fmt = fmtKF4 then (List.range 7).reverse.map (· + 9) ++ List.range 8
  else if fmt = fmtKF8 then (List.range 127).reverse.map (· + 129) ++ List.range 128
  else if fmt = fmtKI2 then List.range 4
  else List.range 3

/-- Whether the target set is every integer up to its limit. -/
def Target.integral : Target → Bool
  | .narrow f => f == fmtKI4 || f == fmtKI8
  | .sidecar => true

/-- The greatest member not above `t`, for `|t|` within the limit. -/
def Target.below (g : Target) (t : Q) : Int :=
  match g with
  | .sidecar => t.floor
  | .narrow f =>
    if g.integral then t.floor
    else ((producedCodes f).map (gridOfCode f)).foldl (fun m q => if Q.le (Q.int q) t then q else m) (-(gridMax f : Int))

/-- The least member not below `t`, for `|t|` within the limit. -/
def Target.above (g : Target) (t : Q) : Int :=
  match g with
  | .sidecar => t.ceil
  | .narrow f =>
    if g.integral then t.ceil
    else ((producedCodes f).map (gridOfCode f)).foldr (fun q m => if Q.le t (Q.int q) then q else m) (gridMax f : Int)

/-- The code of a produced grid value; a KT2 code is its digit. -/
def codeOfGrid (fmt : Nat) (q : Int) : Nat :=
  if fmt = fmtKI4 then (q % 16).toNat
  else if fmt = fmtKI8 then (q % 256).toNat
  else ((producedCodes fmt).find? (fun c => gridOfCode fmt c == q)).getD 0

/-- Whether a tie goes to the lower of two neighbours (R105). -/
def Target.tieLow (g : Target) (lo hi : Int) : Bool :=
  match g with
  | .sidecar => lo % 2 == 0
  | .narrow f =>
    if g.integral then lo % 2 == 0
    else if f = fmtKT2 then decide (hi ≤ 0)
    else codeOfGrid f lo % 2 == 0

/-- The rounding of `t` to the target set, and whether it saturated (R104 to R106). -/
def Target.round (g : Target) (rnd : Rnd) (t : Q) : Int × Bool :=
  if Q.lt (Q.int g.lim) t.abs then (if t.isNeg then -(g.lim : Int) else g.lim, true)
  else
    let lo := g.below t
    let hi := g.above t
    if Q.eq (Q.int lo) t then (lo, false)
    else
      let a := Q.sub t (Q.int lo)
      match rnd with
      | .nearestEven =>
        let b := Q.sub (Q.int hi) t
        if Q.lt a b then (lo, false) else if Q.lt b a then (hi, false)
        else (if g.tieLow lo hi then lo else hi, false)
      | .stochastic r =>
        (if Q.lt (Q.mul (Q.int r) (Q.sub (Q.int hi) (Q.int lo))) (Q.mul a (Q.int 65536)) then hi else lo, false)

/-! ## The generator (R107 to R110) -/

/-- One draw: the new state and the 16 drawn bits. -/
def draw (s : Word) : Word × Nat :=
  let s1 := s ^^^ (s <<< 13)
  let s2 := s1 ^^^ (s1 >>> 7)
  let s3 := s2 ^^^ (s2 <<< 17)
  (s3, s3.toNat / 2 ^ 48)

/-- `n` draws in order. -/
def draws : Nat → Word → Word × List Nat
  | 0, s => (s, [])
  | n + 1, s =>
    let d := draw s
    let r := draws n d.1
    (r.1, d.2 :: r.2)

/-- The draws of an instruction: none under nearest-even (R110). -/
def drawsFor (stochastic : Bool) (n : Nat) (s : Word) : Word × List Nat := if stochastic then draws n s else (s, [])

/-- The rounding of output element `k` under the instruction's mode. -/
def rndOf (stochastic : Bool) (ds : List Nat) (k : Nat) : Rnd :=
  if stochastic then .stochastic (ds.getD k 0) else .nearestEven

/-- The generator's state after core reset or task load (R108). -/
def srReset (core : Nat) : Word := 0x4B64000000000001 ||| BitVec.ofNat 64 (core * 2)

/-! ## Quantization of a superblock (R112 to R115) -/

/-- The smallest scale code whose range holds magnitude `a`, and whether even 0xFF does not. -/
def scaleCode (unit : Q) (a : Q) (lim : Nat) : Nat × Bool :=
  if a.isZero then (0, false)
  else match (List.range 255).find? (fun c => Q.le a (Q.mul (e5m3 (c + 1)) (Q.mul unit (Q.int lim)))) with
    | some c => (c + 1, false)
    | none => (0xFF, true)

/-- Inserts a magnitude with its position into a list sorted by falling magnitude, ties by rising position. -/
def insertMag (m : Q × Nat) : List (Q × Nat) → List (Q × Nat)
  | [] => [m]
  | x :: l => if Q.lt x.1 m.1 then m :: x :: l else x :: insertMag m l

def sortMags (xs : List Q) : List (Q × Nat) :=
  (xs.zipIdx).foldl (fun l x => insertMag (x.1.abs, x.2) l) []

/-- Scale codes of one block: full code, code with a sidecar, and whether a scale overflowed (R113). -/
structure BlockPlan where
  cf : Nat
  cs : Nat
  ovf : Bool
  ovfSide : Bool
  deriving DecidableEq, Repr

def planBlock (fmt budget : Nat) (S : Q) (mags : List (Q × Nat)) : BlockPlan :=
  let unit := Q.mul S (gridUnit fmt)
  let m0 := (mags[0]?.map Prod.fst).getD Q.zero
  let m2 := (mags[2]?.map Prod.fst).getD Q.zero
  let f := scaleCode unit m0 (gridMax fmt)
  if isEightBit fmt ∨ budget = 0 then ⟨f.1, f.1, f.2, false⟩
  else
    let a := scaleCode unit m2 (gridMax fmt)
    let b := scaleCode unit m0 127
    ⟨f.1, max a.1 b.1, f.2, a.2 || b.2⟩

def BlockPlan.gain (p : BlockPlan) : Nat := p.cf - p.cs

/-- Inserts a block by falling gain, ties to the lower index. -/
def insertGain (g : Nat × Nat) : List (Nat × Nat) → List (Nat × Nat)
  | [] => [g]
  | x :: l => if x.1 < g.1 then g :: x :: l else x :: insertGain g l

/-- The blocks that take a sidecar (R113). -/
def chosenBlocks (plans : List BlockPlan) (budget : Nat) : List Nat :=
  let gs := ((plans.map BlockPlan.gain).zipIdx).filter (fun x => decide (0 < x.1))
  ((gs.foldl (fun l x => insertGain (x.1, x.2) l) []).take budget).map Prod.snd

/-- One quantized block: its scale code, its codes, its sidecar entry, its grid values, and its flags. -/
structure QBlock where
  scale : Nat
  codes : List Nat
  entry : Option Nat
  grid : List Int
  sat : Bool
  sovf : Bool
  sdrop : Bool
  deriving DecidableEq, Repr

/-- The zero code of a format at a sidecar position (R90). -/
def zeroCode (fmt : Nat) : Nat := if fmt = fmtKI2 then 2 else if fmt = fmtKT2 then 1 else 0

/-- The 32-bit sidecar entry word (R96). -/
def mkEntry (side : List (Nat × Int)) : Option Nat :=
  match side with
  | [] => none
  | [(p0, v0)] => some ((v0 % 256).toNat + (p0 + 0x1000) * 65536)
  | (p0, v0) :: (p1, v1) :: _ =>
    some ((v0 % 256).toNat + (v1 % 256).toNat * 256 + (p0 + 64 * p1 + 0x2000) * 65536)

/-- Quantizes one block (R113); a block of zeros gets zero codes (R114). `ds` are the block's 64 draws. -/
def quantizeBlock (fmt : Nat) (S : Q) (stochastic : Bool) (plan : BlockPlan) (chosen : Bool)
    (xs : List Q) (mags : List (Q × Nat)) (ds : List Nat) : QBlock :=
  let c := if chosen then plan.cs else plan.cf
  let unit := Q.mul (e5m3 c) (Q.mul S (gridUnit fmt))
  let side := if chosen then
      ((mags.take 2).filter (fun m => Q.lt (Q.mul unit (Q.int (gridMax fmt))) m.1)).map Prod.snd else []
  let els := xs.zipIdx.map (fun x =>
    let t := Q.div x.1 unit
    let rnd := rndOf stochastic ds x.2
    if xs.all Q.isZero then (zeroCode fmt, 0, false, none)
    else if side.contains x.2 then
      let r := Target.sidecar.round rnd t
      (zeroCode fmt, r.1, r.2, some (x.2, r.1))
    else
      let r := (Target.narrow fmt).round rnd t
      (codeOfGrid fmt r.1, r.1, r.2, none))
  { scale := c
    codes := els.map (fun e => e.1)
    entry := mkEntry (els.filterMap (fun e => e.2.2.2))
    grid := els.map (fun e => e.2.1)
    sat := els.any (fun e => e.2.2.1)
    sovf := plan.ovf || plan.ovfSide
    sdrop := !chosen && decide (0 < plan.gain) }

/-- Packs the 64 codes of a block into its bytes (R83, R93). -/
def packBlock (fmt : Nat) (codes : List Nat) : List Byte :=
  let at' (k : Nat) : Nat := codes.getD k 0
  (List.range (blockBytes fmt)).map (fun j =>
    BitVec.ofNat 8 (
      if fmt = fmtKI4 ∨ fmt = fmtKF4 then at' (2 * j) + 16 * at' (2 * j + 1)
      else if fmt = fmtKI2 then at' (4 * j) + 4 * at' (4 * j + 1) + 16 * at' (4 * j + 2) + 64 * at' (4 * j + 3)
      else if fmt = fmtKT2 then
        let d4 := if j = 12 then 1 else at' (5 * j + 4)
        at' (5 * j) + 3 * at' (5 * j + 1) + 9 * at' (5 * j + 2) + 27 * at' (5 * j + 3) + 81 * d4
      else at' j))

/-- The little-endian bytes of a number. -/
def leBytes : Nat → Nat → List Byte
  | 0, _ => []
  | n + 1, v => BitVec.ofNat 8 (v % 256) :: leBytes n (v / 256)

/-- The blocks of a quantized superblock (R112 to R115); `ds` are its 4,096 draws, empty under nearest-even. -/
def quantizeSuperblock (fmt sscale budget : Nat) (stochastic : Bool) (xs : List Q) (ds : List Nat) : List QBlock :=
  let S := sscaleValue sscale
  let rows := (List.range 64).map (fun i => (xs.drop (64 * i)).take 64)
  let mags := rows.map sortMags
  let plans := mags.map (planBlock fmt budget S)
  let chosen := chosenBlocks plans budget
  (List.range 64).map (fun i =>
    quantizeBlock fmt S stochastic (plans.getD i ⟨0, 0, false, false⟩) (chosen.contains i) (rows.getD i [])
      (mags.getD i []) ((ds.drop (64 * i)).take 64))

/-- The bytes of a superblock made of 64 quantized blocks (R92, R95, R96). -/
def superblockBytes (fmt sscale : Nat) (bs : List QBlock) : List Byte :=
  let entries := bs.filterMap QBlock.entry
  let spres := (bs.zipIdx).foldl (fun a b => if b.1.entry.isSome then a + 2 ^ b.2 else a) 0
  (bs.flatMap (fun b => packBlock fmt b.codes)) ++ bs.map (fun b => BitVec.ofNat 8 b.scale)
    ++ leBytes 2 sscale ++ [BitVec.ofNat 8 fmt, BitVec.ofNat 8 entries.length] ++ leBytes 4 0 ++ leBytes 8 spres
    ++ (entries ++ List.replicate (12 - entries.length) 0).flatMap (leBytes 4)

end Sys2Proof.Machine
end

