-- ==== Sys2Proof/Machine/CoreOps.lean ====
section
/-! DEFINITION. What every instruction of a core shares: when it may issue, taking a core exception and returning from
it, the advance of the program counter, the scoreboard (04 R130 to R132, R157 to R161; 05 R165 to R170). -/

namespace Sys2Proof.Machine

/-! ## Fields of the core special registers -/

def cMsgErrCnt : Fld := ⟨0x010, 55, 48⟩
def cMsgErrCode : Fld := ⟨0x010, 47, 44⟩
def cMsgErrDest : Fld := ⟨0x010, 39, 16⟩
def cMsgSticky : Fld := ⟨0x010, 8, 8⟩
def cSendOut : Fld := ⟨0x010, 5, 0⟩
def cOvf (k : Nat) : Fld := ⟨0x011, k, k⟩
def cvSdrop : Fld := ⟨0x012, 3, 3⟩
def cvAsat : Fld := ⟨0x012, 2, 2⟩
def cvSovf : Fld := ⟨0x012, 1, 1⟩
def cvSat : Fld := ⟨0x012, 0, 0⟩
def cSrState : Fld := ⟨0x013, 63, 0⟩
def cExcCause : Fld := ⟨0x020, 55, 48⟩
def cExcInfo : Fld := ⟨0x020, 47, 0⟩
def cEpc : Fld := ⟨0x021, 14, 0⟩
def cHoff : Fld := ⟨0x022, 30, 16⟩
def cInh : Fld := ⟨0x022, 8, 8⟩
def cEn (b : Nat) : Fld := ⟨0x022, b, b⟩

/-! ## Taking an exception and returning -/

/-- The enable bit of a cause whose handler is allowed (R157). -/
def handlerBit (cause : Nat) : Option Nat :=
  if cause = 0x06 then some 0 else if cause = 0x07 then some 1 else if cause = 0x08 then some 2
  else if cause = 0x0A then some 3 else if cause = 0x0B then some 4 else none

/-- Whether the core takes handler entry for a cause (R158). -/
def State.handles (s : State) (c cause : Nat) : Bool :=
  match handlerBit cause with
  | some b => decide (s.cget c (cEn b) = 1) && decide (s.cget c cInh = 0)
  | none => false

/-- Writes CORE_EXC and CORE_EPC (R158, R160). DESIGN CHOICE (log 77): of a register value or offset wider than the 48 bits of
CORE_EXC.info, the low 48 bits are kept. -/
def State.writeExc (s : State) (c cause info epc : Nat) : State :=
  (((s.cset c cExcCause cause).cset c cExcInfo info).cset c cEpc epc)

/-- The guard phase p of CORE_GSTAT (06 R204). -/
def gPhase : Fld := ⟨0x039, 13, 8⟩

/-- What a discarded instruction did at its issue is undone: its draws, its step of the guard phase (05 R170). DESIGN CHOICE
(log 77): where a later instruction has drawn or stepped since and has completed, its step stands. -/
def State.undoOp (s : State) (c : Nat) : TOp → State
  | .mac m => if 1 ≤ m.mode ∧ s.cget c gPhase = (m.phase + 1) % 64 then s.cset c gPhase m.phase else s
  | .row _ _ _ _ stochastic _ before after =>
    if stochastic ∧ s.cget c cSrState = after.toNat then s.cset c cSrState before.toNat else s
  | _ => s

/-- Queued tensor instructions beyond the first `n` are discarded: the core's state shows only those that complete (05 R170). -/
def State.discardQueued (s : State) (c n : Nat) : State :=
  (((s.core c).tq.drop n).reverse.foldl (fun s o => s.undoOp c o) s).modCore c (fun k => { k with tq := k.tq.take n })

/-- The core freezes its state; instructions still queued behind the executing one are discarded (R160, 05 R170). -/
def State.freeze (s : State) (c : Nat) : State :=
  (s.discardQueued c 1).modCore c (fun k => { k with mode := .frozen, wait := none })

/-- Taking an exception: handler entry where it is allowed, enabled and the core is not in the handler (R158), else
the core freezes (R160). `epc` is the offset that CORE_EPC takes. -/
def State.takeExc (s : State) (c cause info epc : Nat) : State :=
  let t := s.writeExc c cause info epc
  if s.handles c cause then
    (t.cset c cInh 1).modCore c (fun k => { k with pc := s.cget c cHoff, wait := none })
  else t.freeze c

/-- A synchronous exception of the instruction at the program counter; in the handler it is a double exception whose
information is the second cause (R157, R159). -/
def State.raiseSync (s : State) (c cause info : Nat) : State :=
  let epc := (s.core c).pc
  if s.cget c cInh = 1 then s.takeExc c 0x0C cause epc else s.takeExc c cause info epc

/-- The pending asynchronous exception of lowest cause (R159). -/
def firstAsync : List (Nat × Word) → Option (Nat × Word)
  | [] => none
  | x :: l => match firstAsync l with
    | none => some x
    | some y => some (if y.1 < x.1 then y else x)

/-- Takes the next pending asynchronous exception at an instruction boundary of a running core that is not in the
handler (R157, R158). -/
def State.deliver (s : State) (c : Nat) : State :=
  let k := s.core c
  if k.mode = .running ∧ s.cget c cInh = 0 then
    match firstAsync k.async with
    | none => s
    | some x => ((s.modCore c (fun k => { k with async := k.async.erase x })).takeExc c x.1 x.2.toNat k.pc)
  else s

/-- An asynchronous exception arrives (R157). DESIGN CHOICE (log 95): while FENCE.S, FENCE.D or TEND stalls it is taken at
once, as during a wait (R145), and CORE_EPC names the stalled instruction. -/
def State.addAsync (s : State) (c cause : Nat) (info : Word) : State :=
  (s.modCore c (fun k => { k with async := k.async ++ [(cause, info)] })).deliver c

/-! ## Issue and advance -/

/-- The clock of the core's compute domain runs (18). -/
def State.coreClock (s : State) (c : Nat) : Bool := s.flag (fClkRun (tileDom (coreTile c)))

/-- The core issues instructions. -/
def State.canIssue (s : State) (c : Nat) : Bool :=
  isCore c && decide ((s.core c).mode = .running) && s.coreClock c

/-- The scalar register awaits no ATOM result (R138). -/
def Core.regFree (k : Core) (r : Fin 32) : Bool := !(k.atoms.any (fun x => x.2 == r.val)) || decide (r = 0)

/-- The vector register awaits no queued TROW (05 R166, R167). -/
def Core.vregFree (k : Core) (r : Fin 16) : Bool :=
  !(k.tq.any (fun o => match o with
    | .row _ vd _ _ _ _ _ _ => vd == r.val
    | _ => false))

/-- The program counter passes the instruction; after the one at 0x7FFC comes the exception of R132. -/
def State.retire (s : State) (c : Nat) : State :=
  if (s.core c).pc = 0x7FFC then s.raiseSync c 0x04 0x8000
  else s.modCore c (fun k => { k with pc := k.pc + 4, wait := none })

/-- Continues at a target that is inside the scratchpad. -/
def State.jump (s : State) (c target : Nat) : State := s.modCore c (fun k => { k with pc := target, wait := none })

/-- Runs `f` when the core may issue and owns its scalar and vector register operands; else the instruction stalls and
nothing changes. -/
def State.issue (s : State) (c : Nat) (rs : List (Fin 32)) (vs : List (Fin 16)) (f : Core → State) : State :=
  let k := s.core c
  if s.canIssue c && rs.all k.regFree && vs.all k.vregFree then f k else s

/-- An instruction whose whole effect is a scalar result. -/
def State.scalar (s : State) (c : Nat) (d : Fin 32) (rs : List (Fin 32)) (f : Core → Word) : State :=
  s.issue c (d :: rs) [] (fun k => (s.modCore c (fun k' => k'.setS d (f k))).retire c)

/-! ## The scoreboard over scratchpad extents (05 R167) -/

/-- A run of scratchpad bytes: offset and length. -/
abbrev Ext := Nat × Nat

def extOverlap (a b : Ext) : Bool := decide (a.1 < b.1 + b.2 ∧ b.1 < a.1 + a.2)

/-! ### Operand words (05 R171) -/

def swFmt (w : Word) : Nat := bitsOf w 24 21
def swStrip (w : Word) : Nat := bitsOf w 16 15
def swOff (w : Word) : Nat := bitsOf w 14 0

/-- Data and scale bytes of a strip of `n` blocks from block `i0`. -/
def stripExts (w : Word) (i0 n : Nat) : List Ext :=
  let b := blockBytes (swFmt w)
  [(swOff w + b * i0, b * n), (swOff w + scalePlane (swFmt w) + i0, n)]

def TOp.reads : TOp → List Ext
  | .mac m =>
    stripExts m.aWord (16 * swStrip m.aWord) 16
      ++ (if swFmt m.wWord = fmtKT2 then [(swOff m.wWord + scalePlane fmtKT2 + 32 * swStrip m.wWord, 32)]
          else stripExts m.wWord (32 * swStrip m.wWord) 32)
      ++ (match m.comp with
          | some x => [(x.1, 4224)]
          | none => [])
  | .load _ _ o => [(o, 2048)]
  | .addMem _ _ o => [(o, 2048)]
  | _ => []

def TOp.writes : TOp → List Ext
  | .store _ _ o => [(o, 2048)]
  | _ => []

/-- No queued tensor instruction stands in the way of an instruction that reads `rs` and writes `ws` (R167). -/
def Core.extFree (k : Core) (rs ws : List Ext) : Bool :=
  k.tq.all (fun o =>
    ws.all (fun w => o.reads.all (fun r => !extOverlap w r) && o.writes.all (fun r => !extOverlap w r))
      && rs.all (fun w => o.writes.all (fun r => !extOverlap w r)))

/-! ## Operand arithmetic -/

/-- s[a] + sext(imm16), as a 64-bit word. -/
def effAddr (k : Core) (a : Fin 32) (imm : BitVec 16) : Word := k.sreg a + imm.signExtend 64

/-- The 32-bit words of the formats R and I (04, Encoding). -/
def encR (op d a b fn : Nat) : Nat := op * 2 ^ 26 + d * 2 ^ 21 + a * 2 ^ 16 + b * 2 ^ 11 + fn

end Sys2Proof.Machine
end

