-- ==== Sys2Proof/Machine/TaskDesc.lean ====
section
/-! DEFINITION. Task descriptors and core groups (10 R340). -/

namespace Sys2Proof.Machine

/-! ## Descriptors (10 R340) -/

/-- A word of task k's descriptor; words beyond its length read 0 (00 R13, 10 R341). -/
def State.tdWord (s : State) (k w : Nat) : Word :=
  if w < bitsOf (s.rd (tsqTd k 0)) 15 8 then s.rd (tsqTd k w) else 0

def State.td (s : State) (k w hi lo : Nat) : Nat := bitsOf (s.tdWord k w) hi lo

def State.tdTenant (s : State) (k : Nat) : Nat := s.td k 0 29 26
def State.tdLabel (s : State) (k : Nat) : Nat := s.td k 0 34 32
def State.tdPolicy (s : State) (k : Nat) : Nat := s.td k 0 36 35
def State.tdCkpt (s : State) (k : Nat) : Bool := decide (s.td k 0 37 37 = 1)
def State.tdPeriod (s : State) (k : Nat) : Nat := s.td k 0 47 40
def State.tdOffs (s : State) (k : Nat) : Nat := s.td k 0 55 48
def State.tdBudget (s : State) (k : Nat) : Nat := s.td k 1 31 0
def State.tdEntry (s : State) (k : Nat) : Nat := s.td k 1 46 32
def State.tdArg (s : State) (k : Nat) : Word := s.tdWord k 2
def State.tdImg (s : State) (k : Nat) : Nat := s.td k 3 47 0
def State.tdImg64 (s : State) (k : Nat) : Nat := s.td k 3 57 48
def State.tdSave (s : State) (k : Nat) : Nat := s.td k 4 47 0
def State.tdCfirst (s : State) (k : Nat) : Nat := s.td k 9 13 0
def State.tdCcount (s : State) (k : Nat) : Nat := s.td k 9 27 14
def State.tdPercore (s : State) (k : Nat) : Nat := s.td k 9 35 28
def State.tdCoff (s : State) (k : Nat) : Nat := s.td k 9 50 36
def State.tdTboff (s : State) (k : Nat) : Nat := s.td k 10 14 0
def State.tdSlot (s : State) (k : Nat) : Nat := s.td k 10 21 16
def State.tdHasSlot (s : State) (k : Nat) : Bool := decide (s.td k 10 22 22 = 1)
/-- The tasks whose SENDs task k accepts besides its own (R346). -/
def State.tdAccepts (s : State) (k : Nat) : List Nat :=
  (List.range 4).filterMap (fun i =>
    if s.td k 12 (16 * i + 10) (16 * i + 10) = 1 then some (s.td k 12 (16 * i + 9) (16 * i)) else none)
def State.tdSmib (s : State) (k : Nat) : Nat := s.td k 11 31 0

/-- A rectangle of a core group. -/
structure Rect where
  t0 : Nat
  t1 : Nat
  x0 : Nat
  y0 : Nat
  w : Nat
  h : Nat
  deriving DecidableEq, Repr

/-- The valid rectangles of task k's group. -/
def State.tdRects (s : State) (k : Nat) : List Rect :=
  (List.range 4).filterMap (fun i =>
    let d (hi lo : Nat) : Nat := s.td k (5 + i) hi lo
    if d 40 40 = 1 then some ⟨d 5 0, d 11 6, d 18 12, d 25 19, d 32 26, d 39 33⟩ else none)

def Rect.has (r : Rect) (c : Nat) : Bool :=
  decide (r.t0 ≤ coreTile c ∧ coreTile c ≤ r.t1 ∧ r.x0 ≤ coreX c ∧ coreX c < r.x0 + r.w ∧ r.y0 ≤ coreY c
    ∧ coreY c < r.y0 + r.h)

/-- The cores of a rectangle in ascending logical address. -/
def Rect.cores (r : Rect) : List Nat :=
  (List.range (r.t1 + 1 - r.t0)).flatMap (fun t =>
    (List.range r.h).flatMap (fun y => (List.range r.w).map (fun x => coreAddr (r.t0 + t) (r.x0 + x) (r.y0 + y))))

/-- Merges two rising lists; an element of both stands once. -/
def mergeRising : Nat → List Nat → List Nat → List Nat
  | 0, _, _ => []
  | _ + 1, [], ys => ys
  | _ + 1, xs, [] => xs
  | n + 1, x :: xs, y :: ys =>
    if x < y then x :: mergeRising n xs (y :: ys)
    else if y < x then y :: mergeRising n (x :: xs) ys
    else x :: mergeRising n xs ys

/-- The core group of task k: the union of its rectangles, by rank (R340). -/
def State.group (s : State) (k : Nat) : List Nat :=
  (s.tdRects k).foldl (fun l r => mergeRising (l.length + r.cores.length + 1) l r.cores) []

def State.inGroup (s : State) (k c : Nat) : Bool := (s.tdRects k).any (fun r => r.has c)


/-- The tiles of task k's group. -/
def State.tdTiles (s : State) (k : Nat) : List Nat :=
  (List.range 48).filter (fun t => (s.tdRects k).any (fun r => decide (r.t0 ≤ t ∧ t ≤ r.t1)))

/-- Cores of task k's group in tile t. -/
def State.tdTileCores (s : State) (k t : Nat) : Nat :=
  let rs := (s.tdRects k).filter (fun r => decide (r.t0 ≤ t ∧ t ≤ r.t1))
  match rs with
  | [r] => r.w * r.h
  | _ => (List.range 80).foldl (fun n y => n + ((List.range 80).filter (fun x =>
      rs.any (fun r => r.has (coreAddr t x y)))).length) 0

/-- The largest number of the group's cores in one tile (R344: n). -/
def State.tdNmax (s : State) (k : Nat) : Nat := ((s.tdTiles k).map (s.tdTileCores k)).foldl max 0

/-- The group's size. -/
def State.tdSize (s : State) (k : Nat) : Nat := ((s.tdTiles k).map (s.tdTileCores k)).foldl (· + ·) 0

/-- The compute clock domains of the group, rising: its start waves (R345). -/
def State.tdDoms (s : State) (k : Nat) : List Nat :=
  (List.range 25).filter (fun m => (s.tdTiles k).any (fun t => tileDom t == m))

/-- Two rectangles share a core. -/
def Rect.meets (a b : Rect) : Bool :=
  decide (a.t0 ≤ b.t1 ∧ b.t0 ≤ a.t1 ∧ a.x0 < b.x0 + b.w ∧ b.x0 < a.x0 + a.w ∧ a.y0 < b.y0 + b.h ∧ b.y0 < a.y0 + a.h)

/-- Two tasks' groups share a core; groups of loaded tasks that do are identical (R341 code 0x3). -/
def State.groupsMeet (s : State) (j k : Nat) : Bool :=
  (s.tdRects j).any (fun a => (s.tdRects k).any (fun b => a.meets b))

end Sys2Proof.Machine
end

