-- ==== Sys2Proof/Machine/Message.lean ====
section
/-! DEFINITION. Messages and receive counters: SEND, RECV, ATOM, their arrival and their errors, the counter
instructions (02 R54 to R65, R643; 04 R134 to R145; 10 R346; 14 R491). -/

namespace Sys2Proof.Machine

/-! ## The message word and its checks -/

def mwLen (w : Word) : Nat := 8 * (bitsOf w 47 43 + 1)
def mwCtr (w : Word) : Nat := bitsOf w 42 39
def mwRoff (w : Word) : Nat := bitsOf w 38 24
def mwDest (w : Word) : Nat := bitsOf w 23 0

/-- Kind, and the required-zero bits, of a message destination (02 R59). -/
def destKind (d : Nat) : Nat := d / 2 ^ 22
def destNode (d : Nat) : Nat := d % 2 ^ 16
def destSite (d : Nat) : Nat := d / 2 ^ 19 % 8
def destBadBits (d : Nat) : Bool :=
  (destKind d == 0 && decide (d / 2 ^ 20 % 4 ≠ 0)) || (destKind d == 1 && decide (d / 2 ^ 16 % 8 ≠ 0))

/-- The message destination of a node of an open site. -/
def nodeDest (site node : Nat) : Nat := 2 ^ 22 + site * 2 ^ 19 + node % 2 ^ 16

/-- The synchronous checks of a SEND or RECV in priority order (R125, R136, R137): cause and information. Of
two failures of one priority the message word is reported before s[b], and s[b] before roff: DESIGN CHOICE (log 95). -/
def msgCheck (w b : Word) : Option (Nat × Nat) :=
  if bitsOf w 63 48 ≠ 0 ∨ destBadBits (mwDest w) then some (0x02, w.toNat)
  else if bitsOf b 63 15 ≠ 0 then some (0x02, b.toNat)
  else if b.toNat % 8 ≠ 0 then some (0x03, b.toNat)
  else if mwRoff w % 8 ≠ 0 then some (0x03, mwRoff w)
  else if 0x8000 < b.toNat + mwLen w then some (0x04, b.toNat)
  else none

/-- The checks of an ATOM (R138). -/
def atomCheck (w : Word) : Option (Nat × Nat) :=
  if bitsOf w 63 48 ≠ 0 ∨ destBadBits (mwDest w) ∨ mwLen w ≠ 8 ∨ mwCtr w ≠ 0 ∨ destKind (mwDest w) ≠ 0 then
    some (0x02, w.toNat)
  else if mwRoff w % 8 ≠ 0 then some (0x03, mwRoff w)
  else none

/-- A message-permit entry of tenant u lets it reach node v of site k, which grants u (14 R491). -/
def State.nodePermitted (s : State) (u k v : Nat) : Bool :=
  s.flag (fGrantEn k u) && (List.range 32).any (fun i =>
    s.flag (fPermValid u i) && decide (s.get (fPermSite u i) = k ∧ s.get (fPermLo u i) ≤ v ∧ v ≤ s.get (fPermHi u i)))

/-- The error that the sender's own tile finds (R60, R643): codes 0x2, 0x5 and 0x7. -/
def State.senderError (s : State) (c : Nat) (w : Word) : Option Nat :=
  let d := mwDest w
  if 2 ≤ destKind d ∨ (destKind d = 0 ∧ !isCore d) then some 0x2
  else if 0x8000 < mwRoff w + mwLen w then some 0x5
  else
    let ok := match s.coreTenant c with
      | none => false
      | some u => if destKind d = 0 then s.coreTenant d == some u else s.nodePermitted u (destSite d) (destNode d)
    if ok then none else some 0x7

/-- Adds to the count of outstanding requests, which CORE_MSGST.send_out shows (R56, R140). -/
def State.outstanding (s : State) (c : Nat) : Nat := s.cget c cSendOut

/-- Injects a request of core `c`: it takes an outstanding entry, and where the sender's tile finds an error, the error
is on its way back instead (R643). -/
def State.request (s : State) (c : Nat) (w : Word) (m : Msg) : State :=
  let id := s.nextId
  let m' : Msg := match s.senderError c w with
    | some e => { m with kind := .merr e, req := id }
    | none => { m with req := id }
  let s := s.cset c cSendOut (s.outstanding c + 1)
  { s with net := s.net ++ [(id, m')], nextId := id + 1 }

/-- Number of the physical core at a column and row of a tile; the physical column of a logical one, in bands of 20 and a
spare; the spare of a band (02 R42, 17 R573). -/
def physCore (t y col : Nat) : Nat := 8192 * t + 84 * y + col
def physCol (x : Nat) : Nat := 21 * (x / 20) + x % 20
def spareCol (b : Nat) : Nat := 21 * b + 20

/-- The physical column that serves a logical core now. -/
def State.servedBy (s : State) (c : Nat) : Nat :=
  let x := coreX c
  if s.flag (fRemapUsed (coreTile c) (coreY c) (x / 20)) ∧ s.get (fRemapJ (coreTile c) (coreY c) (x / 20)) = x % 20 then
    spareCol (x / 20)
  else physCol x

/-- The physical core that serves a logical one now (02 R52). -/
def State.physOf (s : State) (c : Nat) : Nat := physCore (coreTile c) (coreY c) (s.servedBy c)

/-- The gateway of a core's block (02 R66). -/
def gateway (c : Nat) : Nat := 4 * (coreY c / 20) + coreX c / 20

/-- The numbers passed from `a` to `b`, without `a`. -/
def walk (a b : Nat) : List Nat :=
  if a ≤ b then (List.range (b - a)).map (fun i => a + 1 + i) else (List.range (a - b)).map (fun i => a - 1 - i)

/-- The routers of tile `t` from row `y`, column `x` to row `v`, column `u`: first along X and then along Y (02 R52). -/
def leg (t y x v u : Nat) : List Nat :=
  (walk x u).map (physCore t y) ++ (walk y v).map (fun r => physCore t r u)

/-- Row and column of the router at which a block's gateway is attached. DESIGN CHOICE (log 94): of the four routers in the
middle of the block the one of row 10 and column 10. -/
def gateAt (c : Nat) : Nat × Nat := (20 * (coreY c / 20) + 10, 21 * (coreX c / 20) + 10)

/-- The way of a packet from one message destination to another: inside one tile straight there, else by the gateways of the
blocks at its two ends (02 R52, R66). Nodes have no mesh. -/
def State.routeOf (s : State) (a b : Nat) : List Nat :=
  let inTile (c : Nat) : Bool := destKind c == 0 && isCore c
  if inTile a && inTile b && coreTile a == coreTile b then leg (coreTile a) (coreY a) (s.servedBy a) (coreY b) (s.servedBy b)
  else
    (if inTile a then leg (coreTile a) (coreY a) (s.servedBy a) (gateAt a).1 (gateAt a).2 else [])
      ++ (if inTile b then leg (coreTile b) (gateAt b).1 (gateAt b).2 (coreY b) (s.servedBy b) else [])

/-- The message of core `c` that a message word names: its destination is converted through the remap registers as it is
injected, and off its tile it goes by the two blocks' gateways (02 R52, R66). -/
def State.message (s : State) (c : Nat) (kind : MsgKind) (w : Word) : Msg :=
  let d := mwDest w
  let near := decide (destKind d = 0 ∧ isCore d ∧ coreTile d = coreTile c)
  { phys := if near then some (s.physOf d) else none
    gateOut := if near then none else some (gateway c)
    gateIn := if near ∨ destKind d ≠ 0 then none else some (gateway d)
    route := s.routeOf c d
    kind := kind, src := c, task := (s.core c).task, dst := mwDest w, roff := mwRoff w, len := mwLen w, ctr := mwCtr w,
    lofs := 0, rd := 0, cmp := 0, data := [], req := 0 }

def execSend (c : Nat) (a b : Fin 32) (s : State) : Out :=
  .next (s.issue c [a, b] [] (fun k =>
    let w := k.sreg a
    let o := (k.sreg b).toNat
    match msgCheck w (k.sreg b) with
    | some e => s.raiseSync c e.1 e.2
    | none =>
      if !(k.extFree [(o, mwLen w)] []) || decide (32 ≤ s.outstanding c) then s
      else match s.spadPoison c o (mwLen w) with
        | some p => s.raiseSync c 0x05 p
        | none => (s.request c w { s.message c .send w with data := s.spadBytes c o (mwLen w) }).retire c))

def execRecv (c : Nat) (a b : Fin 32) (s : State) : Out :=
  .next (s.issue c [a, b] [] (fun k =>
    let w := k.sreg a
    match msgCheck w (k.sreg b) with
    | some e => s.raiseSync c e.1 e.2
    | none =>
      if 32 ≤ s.outstanding c || !(k.extFree [] [((k.sreg b).toNat, mwLen w)]) then s
      else (s.request c w { s.message c .recvReq w with lofs := (k.sreg b).toNat }).retire c))

/-- An ATOM: `kind` names the operation; the result register awaits the old word. -/
def State.atom (s : State) (c : Nat) (kind : MsgKind) (d a b : Fin 32) : State :=
  s.issue c [d, a, b] [] (fun k =>
    let w := k.sreg a
    match atomCheck w with
    | some e => s.raiseSync c e.1 e.2
    | none =>
      if 32 ≤ s.outstanding c then s
      else
        let m := { s.message c kind w with rd := d.val, cmp := k.sreg d, data := bytesLE 8 (k.sreg b).toNat }
        let id := s.nextId
        ((s.request c w m).modCore c (fun k => { k with atoms := k.atoms ++ [(id, d.val)] })).retire c)

def execAtomAdd (c : Nat) (d a b : Fin 32) (s : State) : Out := .next (s.atom c .atomAdd d a b)
def execAtomSwap (c : Nat) (d a b : Fin 32) (s : State) : Out := .next (s.atom c .atomSwap d a b)
def execAtomCas (c : Nat) (d a b : Fin 32) (s : State) : Out := .next (s.atom c .atomCas d a b)
def execAtomOr (c : Nat) (d a b : Fin 32) (s : State) : Out := .next (s.atom c .atomOr d a b)

def execFenceS (c : Nat) (s : State) : Out :=
  .next (s.issue c [] [] (fun _ => if s.outstanding c = 0 then s.retire c else s))

/-! ## Receive counters (02 R63 to R65) -/

/-- An increment of counter `k`: past the maximum it stays there with the overflow flag set, and a core that waits on
it takes the counter-overflow exception (R65, 04 R144). DESIGN CHOICE (log 95): where the wait stands in the handler, the
exception stays pending and the wait, offered again, raises cause 0x07 itself, a double exception (R159). -/
def State.countUp (s : State) (c : Nat) (k : Fin 16) (n : Nat) : State :=
  let v := ((s.core c).ctr k).toNat + n
  if v < 2 ^ 32 then s.modCore c (fun x => x.setCtr k (BitVec.ofNat 32 v))
  else
    let t := (s.modCore c (fun x => x.setCtr k (BitVec.allOnes 32))).cset c (cOvf k) 1
    if (s.core c).wait = some k.val then t.addAsync c 0x07 (BitVec.ofNat 64 k.val) else t

def ctrFin (n : Nat) : Fin 16 := ⟨n % 16, Nat.mod_lt _ (by decide)⟩

/-- Stalls until the counter has reached `n`, or raises counter-overflow (R142, R144). -/
def State.waitFor (s : State) (c : Nat) (k : Fin 16) (n : Nat) : State :=
  if s.cget c (cOvf k) = 1 then s.raiseSync c 0x07 k.val
  else if n ≤ ((s.core c).ctr k).toNat then s.retire c
  else s.modCore c (fun x => { x with wait := some k.val })

def execWaitcnt (c : Nat) (k : Fin 16) (a : Fin 32) (s : State) : Out :=
  .next (s.issue c [a] [] (fun x =>
    if bitsOf (x.sreg a) 63 32 ≠ 0 then s.raiseSync c 0x02 (x.sreg a).toNat
    else s.waitFor c k (x.sreg a).toNat))

def execWaitcnti (c : Nat) (k : Fin 16) (n : BitVec 16) (s : State) : Out :=
  .next (s.issue c [] [] (fun _ => s.waitFor c k (8 * n.toNat)))

def execCntrd (c : Nat) (d : Fin 32) (k : Fin 16) (s : State) : Out :=
  .next (s.scalar c d [] (fun x => (x.ctr k).setWidth 64))

def execCntwr (c : Nat) (k : Fin 16) (a : Fin 32) (s : State) : Out :=
  .next (s.issue c [a] [] (fun x =>
    if bitsOf (x.sreg a) 63 32 ≠ 0 then s.raiseSync c 0x02 (x.sreg a).toNat
    else ((s.modCore c (fun y => y.setCtr k ((x.sreg a).setWidth 32))).cset c (cOvf k) 0).retire c))

def execCntsub (c : Nat) (k : Fin 16) (a : Fin 32) (s : State) : Out :=
  .next (s.issue c [a] [] (fun x =>
    if bitsOf (x.sreg a) 63 32 ≠ 0 then s.raiseSync c 0x02 (x.sreg a).toNat
    else if s.cget c (cOvf k) = 1 then s.retire c
    else if (x.ctr k).toNat < (x.sreg a).toNat then s.raiseSync c 0x08 k.val
    else (s.modCore c (fun y => y.setCtr k (x.ctr k - (x.sreg a).setWidth 32))).retire c))

/-! ## Delivery -/

def State.msg (s : State) (id : Nat) : Option Msg := smLookup s.net id
def State.dropMsg (s : State) (id : Nat) : State := { s with net := smErase s.net id }
def State.putMsg (s : State) (id : Nat) (m : Msg) : State := { s with net := smInsert s.net id m }

def MsgKind.isRequest : MsgKind → Bool
  | .send | .recvReq | .atomAdd | .atomSwap | .atomCas | .atomOr => true
  | _ => false

/-- The core runs the known-answer test: packets and engine accesses for it wait (17 R572). -/
def State.katRuns (s : State) (c : Nat) : Bool :=
  s.cro.kat != [] && s.cro.kat.contains (physCore (coreTile c) (coreY c) (s.servedBy c))

/-- An earlier request of the same sender to the same destination whose byte range overlaps has not arrived yet
(R58, R141), or the destination runs the known-answer test. -/
def State.blocked (s : State) (id : Nat) (m : Msg) : Bool :=
  s.katRuns m.dst || s.net.any (fun x => decide (x.1 < id) && x.2.kind.isRequest && decide (x.2.src = m.src ∧ x.2.dst = m.dst)
    && extOverlap (x.2.roff, x.2.len) (m.roff, m.len))

/-- Task `k` accepts messages of task `j`: its own, and those that its descriptor lists (10 R340 W12, R346). -/
def State.accepts (s : State) (k j : Nat) : Bool := k == j || (s.tdAccepts k).contains j

/-- The core runs task `k` in the sense of 10 R346: the task is Running, Carried or Done, or parks by a drain stop that is
still in progress, and the core is not in the middle of its binding. -/
def State.runsTask (s : State) (c k : Nat) : Bool :=
  let st := s.get (fTstState k)
  (st == 3 || st == 4 || st == 6 || (st == 5 && (smGetD s.tasks Task.fresh k).draining))
    && ((s.core c).mode != .idle || (s.core c).before != .idle)

/-- Whether the destination core's running task accepts the message (10 R346). -/
def State.taskAccepts (s : State) (m : Msg) : Bool :=
  match (s.core m.dst).task, m.task with
  | some t, some j => s.accepts t j && s.runsTask m.dst t
  | _, _ => false

/-- The error that a request to a core meets on its way in (R643): 0x4 at the site port of a partition under reset, 0x1
and 0x3 at the destination's tile, 0x7 at the core, 0x8 for a payload lost in transit. A message under way to a physical
core that a remap has replaced counts as one to a core under repair (log 80). -/
def State.arrivalError (s : State) (m : Msg) (lost : Bool) : Option Nat :=
  if (match s.coreTenant m.dst with
      | some u => s.fencedTen.contains u
      | none => false) then some 0x4
  else if s.absent m.dst then some 0x1
  else if (s.core m.dst).fenced ∨ m.phys.any (fun p => p != s.physOf m.dst) then some 0x3
  else if !s.taskAccepts m then some 0x7
  else if lost then some 0x8
  else none

/-- Turns a request into its message-error on the way back; a request absorbed by a partition reset is counted. -/
def State.answerError (s : State) (id : Nat) (m : Msg) (e : Nat) : State :=
  let s := if e = 0x4 then s.absorb else s
  s.putMsg id { m with kind := .merr e, data := [], route := s.routeOf m.dst m.src }

def execSendDelivered (id : Nat) (lost : Bool) (s : State) : Out :=
  .next (match s.msg id with
    | none => s
    | some m =>
      if m.kind ≠ .send ∨ destKind m.dst ≠ 0 ∨ s.blocked id m then s
      else match s.arrivalError m lost with
        | some e => s.answerError id m e
        | none => ((s.setSpad m.dst m.roff m.data).putMsg id { m with kind := .ack, data := [], route := s.routeOf m.dst m.src }).countUp m.dst
            (ctrFin m.ctr) m.len)

/-- The poison event of a scratchpad word (02 R50, R51); the spec names no record for it. -/
def State.poisonEvent (s : State) (addr : Nat) : State := s.emit "scratchpad-poison" [addr] []

def execRecvServe (id : Nat) (lost : Bool) (s : State) : Out :=
  .next (match s.msg id with
    | none => s
    | some m =>
      if m.kind ≠ .recvReq ∨ destKind m.dst ≠ 0 ∨ s.blocked id m then s
      else match s.arrivalError m lost with
        | some e => s.answerError id m e
        | none =>
          match s.spadPoison m.dst m.roff m.len with
          | some w => (s.answerError id m 0x8).poisonEvent (spadAddr m.dst w)
          | none => s.putMsg id { m with kind := .recvData, data := s.spadBytes m.dst m.roff m.len, route := s.routeOf m.dst m.src })

/-- The sender of a message whose entry a partition reset has dropped (11 R392): no destination names it. -/
def goneSrc (c : Nat) : Nat := 2 ^ 23 + c

/-- A late answer is discarded and counted (11 R392). -/
def State.staleAnswer (s : State) (id : Nat) (m : Msg) : State :=
  (s.dropMsg id).addSat (fRstStale (tileSite (coreTile (m.src - 2 ^ 23)))) 1

/-- The sender's outstanding entry is freed (R56). -/
def State.freeEntry (s : State) (c : Nat) : State := s.cset c cSendOut (s.outstanding c - 1)

/-- Records a message-error in CORE_MSGST (02 R62). -/
def State.recordMsgErr (s : State) (c code dest : Nat) : State :=
  let t := s.caddSat c cMsgErrCnt 1
  if s.cget c cMsgSticky = 1 then t
  else ((t.cset c cMsgErrCode code).cset c cMsgErrDest dest).cset c cMsgSticky 1

/-- A message-error reaches core `c` (R61, R62, R140): recorded, the entry freed, the exception pending. -/
def State.msgErrorAt (s : State) (c code dest : Nat) : State :=
  ((s.freeEntry c).recordMsgErr c code dest).addAsync c 0x06 (packW [(dest, 0), (code, 44)])

/-- RECV_DATA_ARRIVAL. A payload that is marked uncorrectable is lost: the requester writes nothing and meets message-error
code 0x8 instead (11 R386). -/
def execRecvDataArrival (x : Landing) (s : State) : Out :=
  .next (match s.msg x.id with
    | none => s
    | some m =>
      if m.kind ≠ .recvData then s
      else if 2 ^ 23 ≤ m.src then s.staleAnswer x.id m
      else if !isCore m.src then s
      else if x.lost then (s.dropMsg x.id).msgErrorAt m.src 0x8 m.dst
      else (((s.setSpad m.src m.lofs m.data).dropMsg x.id).freeEntry m.src).countUp m.src (ctrFin m.ctr) m.len)

/-- The new word of an ATOM at its destination (R135). -/
def atomNew (kind : MsgKind) (old operand cmp : Word) : Word :=
  match kind with
  | .atomAdd => old + operand
  | .atomSwap => operand
  | .atomCas => if old = cmp then operand else old
  | .atomOr => old ||| operand
  | _ => old

/-- The number that little-endian bytes form. -/
def natOfBytes : List Byte → Nat
  | [] => 0
  | b :: l => b.toNat + 256 * natOfBytes l

def MsgKind.isAtom : MsgKind → Bool
  | .atomAdd | .atomSwap | .atomCas | .atomOr => true
  | _ => false

def execAtomApply (id : Nat) (lost : Bool) (s : State) : Out :=
  .next (match s.msg id with
    | none => s
    | some m =>
      if !m.kind.isAtom || s.blocked id m then s
      else match s.arrivalError m lost with
        | some e => s.answerError id m e
        | none =>
          match s.spadPoison m.dst m.roff 8 with
          | some w => (s.answerError id m 0x8).poisonEvent (spadAddr m.dst w)
          | none =>
            let old := BitVec.ofNat 64 (s.spadNat m.dst m.roff 8)
            let new := atomNew m.kind old (BitVec.ofNat 64 (natOfBytes m.data)) m.cmp
            (s.setSpad m.dst m.roff (bytesLE 8 new.toNat)).putMsg id
              { m with kind := .atomRes, data := bytesLE 8 old.toNat, route := s.routeOf m.dst m.src })

/-- The ATOM of number `id` no longer owns its result register. -/
def State.dropAtom (s : State) (c id : Nat) : State :=
  s.modCore c (fun k => { k with atoms := k.atoms.filter (fun x => x.1 != id) })

def regFin (n : Nat) : Fin 32 := ⟨n % 32, Nat.mod_lt _ (by decide)⟩

/-- ATOM_RESULT_ARRIVAL; of a lost payload the result register stays. -/
def execAtomResultArrival (x : Landing) (s : State) : Out :=
  .next (match s.msg x.id with
    | none => s
    | some m =>
      if m.kind ≠ .atomRes then s
      else if 2 ^ 23 ≤ m.src then s.staleAnswer x.id m
      else if x.lost then ((s.dropMsg x.id).dropAtom m.src x.id).msgErrorAt m.src 0x8 m.dst
      else (((s.dropMsg x.id).freeEntry m.src).dropAtom m.src x.id).modCore m.src
        (fun k => k.setS (regFin m.rd) (BitVec.ofNat 64 (natOfBytes m.data))))

def execSendAckArrival (id : Nat) (s : State) : Out :=
  .next (match s.msg id with
    | none => s
    | some m =>
      if m.kind ≠ .ack then s
      else if 2 ^ 23 ≤ m.src then s.staleAnswer id m
      else if !isCore m.src then s
      else (s.dropMsg id).freeEntry m.src)

def execMessageErrorArrival (id : Nat) (s : State) : Out :=
  .next (match s.msg id with
    | none => s
    | some m =>
      match m.kind with
      | .merr e =>
        if 2 ^ 23 ≤ m.src then s.staleAnswer id m
        else if !isCore m.src then s
        else ((s.dropMsg id).dropAtom m.src id).msgErrorAt m.src e m.dst
      | _ => s)

end Sys2Proof.Machine
end

