-- ==== Sys2Proof/Machine/Xlate.lean ====
section
/-! DEFINITION. Device addresses and range translation: the spaces, the storage behind a stack address, the range
entries, the whole-extent check (00 R9; 08 R265, R266; 09 R305 to R320). -/

namespace Sys2Proof.Machine

/-! ## The device address map (00 R9) -/

/-- Populated bytes of a stack slot (08 R265). -/
def State.stackBytes (s : State) : Nat := if s.get fDevStackCap = 1 then 0x1800000000 else 0x3000000000

/-- Granules of a stack. -/
def State.granules (s : State) : Nat := s.stackBytes / 2 ^ 20

/-- What a device address names. -/
inductive Place where
  | stack (t off : Nat)
  | core (c off : Nat)
  | reg (off : Nat)
  | window (k off : Nat)
  | ctx (off : Nat)
  | nothing
  deriving DecidableEq, Repr

/-- The place of a device address; `nothing` answers with an address error. -/
def State.place (s : State) (a : Nat) : Place :=
  if a < 48 * 2 ^ 38 then (if a % 2 ^ 38 < s.stackBytes then .stack (a / 2 ^ 38) (a % 2 ^ 38) else .nothing)
  else if 0x100000000000 ≤ a ∧ a < 0x100000000000 + 48 * 2 ^ 29 then
    let c := (a - 0x100000000000) / 2 ^ 15
    if isCore c then .core c (a % 2 ^ 15) else .nothing
  else if 0x200000000000 ≤ a ∧ a < 0x200100000000 then
    (if (findReg (a - 0x200000000000)).isSome then .reg (a - 0x200000000000) else .nothing)
  else if 0x300000000000 ≤ a ∧ a < 0x380000000000 then .window ((a - 0x300000000000) / 2 ^ 40) (a % 2 ^ 40)
  else if 0x400000000000 ≤ a ∧ a < 0x400000A00000 then .ctx (a - 0x400000000000)
  else .nothing

/-- The granule that stands in for granule `g` of stack `t` (08 R266). An entry takes effect when its poison fill has
ended (08 R300). -/
def State.granuleOf (s : State) (t g : Nat) : Nat :=
  match (List.range 256).find? (fun k =>
      s.flag (fRetValid t k) && !(s.flag (fRetFill t k)) && decide (s.get (fRetRetired t k) = g)) with
  | some k => s.get (fRetRepl t k)
  | none => g

/-- The storage address of offset `a` of stack `t`: the retirement table is applied first (08 R266). -/
def State.stackKey (s : State) (t a : Nat) : Nat := t * 2 ^ 38 + s.granuleOf t (a / 2 ^ 20) * 2 ^ 20 + a % 2 ^ 20

/-- The storage address of a place that the package holds. -/
def State.placeKey (s : State) : Place → Option Nat
  | .stack t a => some (s.stackKey t a)
  | .core c o => some (spadAddr c o)
  | .ctx o => some (0x400000000000 + o)
  | _ => none

/-! ## Open sites -/

/-- The site number of open site `k` (00 R7). -/
def openSite (k : Nat) : Nat := 16 * (k / 2) + 12 + k % 2

/-- The site carries a chiplet (09 R308). -/
def State.openCarries (s : State) (k : Nat) : Bool := decide (k < 8 ∧ s.get (fSiteType (openSite k)) = 1)

/-- The site is isolated or absent (09 R311). -/
def State.openGone (s : State) (k : Nat) : Bool :=
  let st := s.get (fSiteState (openSite k))
  st == 0 || st == 4 || st == 5

def State.opn (s : State) (k : Nat) : OpenSite := smGetD s.opens OpenSite.init k
def State.modOpen (s : State) (k : Nat) (f : OpenSite → OpenSite) : State :=
  { s with opens := smSetD s.opens OpenSite.init k (f (s.opn k)) }

/-- Bytes of the window that the guest of open site `k` declares: wsz of its descriptor, in MiB, where the window is a
negotiated feature (12 R437, R439). -/
def State.windowBytes (s : State) (k : Nat) : Nat :=
  if (s.opn k).feat / 4 % 2 = 1 then bitsOf (s.rd (osDesc k 3)) 20 0 * 2 ^ 20 else 0

/-- Hub messages that answer a request (12 R428). DESIGN CHOICE (log 79): the class of the others that have no request is 0. -/
def hubResponse (type : Nat) : Bool := [0x03, 0x04, 0x05, 0x07, 0x09].contains type

/-- The 16 B header of a hub message with a payload of `p` words (12 R427). -/
def bmlHeader (type node tag addr n status p : Nat) : List Word :=
  [packW [(1, 0), (p + 2, 8), (type, 16), (if hubResponse type then 1 else 0, 24), (node, 32), (tag, 48)],
   packW [(addr % 2 ^ 48, 0), (n, 48), (status, 60)]]

/-- The hub sends a message: its header, then its payload. -/
def State.toGuest (s : State) (k type node tag addr n status : Nat) (data : List Byte) : State :=
  s.emit "bml" [k, type, node, tag, addr, n, status]
    ((bmlHeader type node tag addr n status (data.length / 8)).flatMap (fun w => bytesLE 8 w.toNat) ++ data)

/-- An access of `n` bytes at offset `off` of window k as ORD or OWR messages of at most 1,024 bytes, in address order (12 R437).
A cut lies on a multiple of 1,024, so that a message holds whole atom units, of 8, 64 or 256 bytes. Each message takes a tag
and a credit. An access that is no multiple of 8 bytes has no BML form; it is recorded as it stands (log 97). -/
def State.windowSend (s : State) (k off n : Nat) (write : Bool) (bs : List Byte) : State :=
  if off % 8 ≠ 0 ∨ n % 8 ≠ 0 then s.emit (if write then "window-write" else "window-read") [k, off, n] bs
  else (cutParts 1024 off n).foldl (fun s p =>
    (s.toGuest k (if write then 0x0D else 0x0B) 0 (s.opn k).nextTag p.1 (p.2 / 8 - 1) 0
      (if write then (bs.drop (p.1 - off)).take p.2 else [])).modOpen k (fun o => { o with
        hubCred := o.hubCred - 1, nextTag := (o.nextTag + 1) % 2 ^ 16 })) s

/-- The hub holds no credit for a request to the guest, so that an access to the window waits (12 R429). -/
def State.windowWaits (s : State) (k : Nat) : Bool := decide (0 < s.windowBytes k) && (s.opn k).hubCred == 0

/-! ## Range entries (R307) -/

/-- A valid range entry: DVA bounds, target, rights, the commons mark. -/
structure TrnEntry where
  lo : Nat
  hi : Nat
  tgt : Nat
  r : Bool
  w : Bool
  a : Bool
  commons : Bool
  deriving DecidableEq, Repr

def State.trnEntry (s : State) (c e : Nat) : Option TrnEntry :=
  if s.flag (fTrnValid c e) then
    let lo := 4096 * s.get (fTrnDva c e)
    some ⟨lo, lo + 4096 * s.get (fTrnPages c e), 4096 * s.get (fTrnTgt c e), s.flag (fTrnR c e), s.flag (fTrnW c e),
      s.flag (fTrnA c e), s.flag (fTrnCommons c e)⟩
  else none

/-- The entry of a context that covers a DVA; one at most does (R308). -/
def State.trnFind (s : State) (c v : Nat) : Option TrnEntry :=
  (List.range 128).findSome? (fun e =>
    match s.trnEntry c e with
    | some x => if x.lo ≤ v ∧ v < x.hi then some x else none
    | none => none)

/-- The entry of a context that covers a DVA cannot be read: a double-bit error in one of its words (17 R563). -/
def State.trnBad (s : State) (c v : Nat) : Bool :=
  s.badWords != [] && (List.range 128).any (fun e => match s.trnEntry c e with
    | some x => decide (x.lo ≤ v ∧ v < x.hi) && (List.range 3).any (fun i => s.sramBad (regAddr (trnE c e i)))
    | none => false)

/-- The translated device address of a DVA. -/
def State.translate (s : State) (c v : Nat) : Option Nat := (s.trnFind c v).map (fun x => x.tgt + (v - x.lo))

/-! ## The check of an access (R309 to R311, R316, R319) -/

/-- The rights an access needs (R309). -/
inductive Need where
  | read | write | atomic
  deriving DecidableEq, Repr

/-- Field acc of the fault record (R321). -/
def Need.acc : Need → Nat
  | .read => 1
  | .write => 2
  | .atomic => 4

/-- A stack answers no access any more: it has failed or its tile is out of service (08 R294, 01 R28). -/
def State.stackOut (s : State) (t : Nat) : Bool := s.get (fStkState t) == 4 || s.get (fStkState t) == 5

/-- Offset `o` of stack `t` lies in a granule that stands in for a retired one: no access reaches it there (08 R298). -/
def State.standIn (s : State) (t o : Nat) : Bool :=
  (List.range 256).any (fun k => s.flag (fRetValid t k) && decide (s.get (fRetRepl t k) = o / 2 ^ 20))

/-- The storage of offset `o` of stack `t` answers under its own address (00 R9). -/
def State.stackServes (s : State) (t o : Nat) : Bool := !(s.stackOut t) && !(s.standIn t o)

/-- The target of an access already admitted has gone: a failed or absent stack, an isolated or absent open site (R311), a
partition under reset (16 R555). -/
def State.gone (s : State) (a : Nat) : Bool :=
  match s.place a with
  | .stack t _ => s.stackOut t || (match s.tileOwner t with
      | some u => s.fencedTen.contains u
      | none => false)
  | .window k _ => s.openGone k
  | _ => false

/-- The target cannot be used: it has gone, or a stand-in granule is named directly (R311). -/
def State.unavailable (s : State) (a : Nat) : Bool :=
  s.gone a || (match s.place a with
    | .stack t o => s.standIn t o
    | _ => false)

/-- Whether a target lies in P-space. -/
def isPspace (a : Nat) : Bool := decide (0x100000000000 ≤ a ∧ a < 0x100000000000 + 48 * 2 ^ 29)

/-- Context `c` is an open site's, and the tenant that owns the target's tile does not grant the site (12 R449). -/
def State.ungranted (s : State) (c a : Nat) : Bool :=
  decide (16 ≤ c) &&
    (match (match s.place a with
        | .stack t _ => s.tileOwner t
        | .core k _ => s.coreTenant k
        | _ => none) with
      | some u => !(s.flag (fGrantEn (c - 16) u))
      | none => false)

/-- The cause for which the page at DVA `v` refuses an access, with the device address reached; `core` marks a core DMA
command (R310). -/
def State.pageCause (s : State) (c : Nat) (need : Need) (core : Bool) (v : Nat) : Option (Nat × Nat) :=
  match s.trnFind c v with
  | none => some (0x01, 0)
  | some x =>
    let a := x.tgt + (v - x.lo)
    if s.trnBad c v then some (0x06, a)
    else if s.ungranted c a then some (0x03, a)
    else if need = .read ∧ !x.r then some (0x02, a)
    else if need = .write ∧ !x.w then some (0x03, a)
    else if need = .atomic ∧ !(x.r && x.w && x.a) then some (0x04, a)
    else if core && isPspace a then some (0x05, a)
    else if s.unavailable a then some (0x06, a)
    else none

/-- The pages of a byte run: start of the run's part in each page, and its length. -/
def pageParts : Nat → Nat → Nat → List (Nat × Nat)
  | 0, _, _ => []
  | fuel + 1, v, n =>
    if n = 0 then []
    else
      let m := min n (4096 - v % 4096)
      (v, m) :: pageParts fuel (v + m) (n - m)

/-- A failing run: first byte, length, cause, device address reached, the side's DVA base, the right needed. -/
structure FailRun where
  v : Nat
  n : Nat
  cause : Nat
  reached : Nat
  base : Nat
  need : Need
  deriving DecidableEq, Repr

/-- The failing runs of a side of an access. -/
def State.failRuns (s : State) (c : Nat) (need : Need) (core : Bool) (base : Nat) (runs : List (Nat × Nat)) :
    List FailRun :=
  (runs.flatMap (fun r => pageParts (r.2 / 4096 + 2) r.1 r.2)).filterMap (fun p =>
    (s.pageCause c need core p.1).map (fun x => ⟨p.1, p.2, x.1, x.2, base, need⟩))

/-- The run with the lowest DVA (R319). -/
def lowestRun : List FailRun → Option FailRun
  | [] => none
  | x :: l => match lowestRun l with
    | none => some x
    | some y => some (if y.v < x.v then y else x)

/-- Bytes that fail, the lowest included (R319: more). -/
def failBytes (l : List FailRun) : Nat := (l.map FailRun.n).foldl (· + ·) 0

end Sys2Proof.Machine
end

