-- ==== Sys2Proof/Machine/Labels.lean ====
section
/-! DEFINITION. Routes of the hub network, capacities of its elements, and the guarantees of service labels (11 R373 to
R376, R410 to R414; 12 R426). -/

namespace Sys2Proof.Machine

/-! ## Routes (R373 to R375) -/

/-- The site at global coordinates. -/
def siteAt (x y : Nat) : Nat := ((List.range 64).find? (fun n => siteXY n == (x, y))).getD 0

def hops (a b : Nat) : Nat :=
  let p := siteXY a
  let q := siteXY b
  (p.1 - q.1) + (q.1 - p.1) + (p.2 - q.2) + (q.2 - p.2)

/-- The next output port from `a` toward `b`, X first: N 0, E 1, S 2, W 3; with the next site. -/
def nextHop (a b : Nat) : Option (Nat × Nat) :=
  let p := siteXY a
  let q := siteXY b
  if p.1 < q.1 then some (1, siteAt (p.1 + 1) p.2)
  else if q.1 < p.1 then some (3, siteAt (p.1 - 1) p.2)
  else if p.2 < q.2 then some (2, siteAt p.1 (p.2 + 1))
  else if q.2 < p.2 then some (0, siteAt p.1 (p.2 - 1))
  else none

/-- The links of an X-then-Y route: router and output port. -/
def xyLinks : Nat → Nat → Nat → List (Nat × Nat)
  | 0, _, _ => []
  | n + 1, a, b => match nextHop a b with
    | none => []
    | some (d, c) => (a, d) :: xyLinks n c b

def quad (n : Nat) : Nat := n / 16
/-- The site of a quadrant's express station (R374). -/
def station (q : Nat) : Nat := 16 * q + 2
/-- The waveguide from quadrant `a` to another quadrant `b` (R374). -/
def waveguide (a b : Nat) : Nat := 3 * a + (b + 3 - a) % 4

/-- The waveguide is in service and not held for retraining. -/
def State.guideUp (s : State) (w : Nat) : Bool := s.get (fXwgState w) == 1 || s.get (fXwgState w) == 2

/-- Whether a packet outside the control channel takes the express route (R375). -/
def State.express (s : State) (a b : Nat) : Bool :=
  quad a != quad b && s.flag fXen && s.guideUp (waveguide (quad a) (quad b))
    && decide (hops a (station (quad a)) + hops (station (quad b)) b + s.get fXthr ≤ hops a b)

/-! ## Elements (R410, R411) -/

/-- A code of SLG_ST.elem. -/
def hubElem (kind idx port : Nat) : Nat := kind * 2 ^ 28 + idx * 2 ^ 22 + port * 2 ^ 19

/-- The links and the waveguide of a route. -/
def State.routeElems (s : State) (a b : Nat) : List Nat :=
  let l (x y : Nat) : List Nat := (xyLinks 16 x y).map (fun h => hubElem 1 h.1 h.2)
  if s.express a b then
    l a (station (quad a)) ++ [hubElem 2 (waveguide (quad a) (quad b)) 0] ++ l (station (quad b)) b
  else l a b

/-- What a check of guarantees counts with: period, guard band, margin, the tasks that the program runs. -/
structure CapEnv where
  T : Nat
  G : Nat
  margin : Nat
  run : List Nat
  deriving DecidableEq, Repr

/-- Numerator and denominator of a width code's fraction; 3: none. -/
def widthNum (w : Nat) : Nat := if w = 0 then 4 else if w = 1 then 2 else if w = 2 then 1 else 0

/-- The site of peer port q (01). -/
def peerSite (q : Nat) : Nat := 16 * q + 15

/-- Open site of a site of the local index 12 or 13 (01). -/
def siteOpen (n : Nat) : Nat := 2 * (n / 16) + (n % 16 - 12)

/-- Tile of a compute site. -/
def siteTile (n : Nat) : Nat := 12 * (n / 16) + n % 16

/-- Capacity of an element in 0.1 GB/s, rounded down (R411). -/
def State.elemCap (s : State) (e : CapEnv) (code : Nat) : Nat :=
  let kind := code / 2 ^ 28
  let i := code / 2 ^ 22 % 64
  let p := code / 2 ^ 19 % 8
  let mg := (100 - e.margin) * (e.T - e.G)
  let d := 100 * e.T
  if kind = 1 then 4096 * widthNum (s.get (fWid i p)) * mg / (4 * d)
  else if kind = 2 then
    70 * ((List.range 32).filter (fun b => s.get (fXwgLmap i) / 2 ^ b % 2 == 1)).length * mg / d
  else if kind = 3 then
    (let ty := i % 16
     if ty ≤ 11 then 4096 * widthNum (s.get (fSiteWidth i)) * mg / (4 * d)
     else if ty ≤ 13 then 8192 * widthNum (s.get (fSiteWidth i)) * mg / (4 * d)
     else 4096 * mg / d)
  else if kind = 4 then
    let smib := ((e.run.filter (fun k => (s.tdTiles k).contains i)).map (fun k => s.tdSmib k)).foldl (· + ·) 0
    (23100 * s.get (fStkDerate i) * (e.T - e.G) * 100 - 16 * 1048576 * smib) / (1600 * e.T)
  else if kind = 5 then
    288 * s.get (fOsRate (siteOpen i)) * widthNum (s.get (fSiteWidth i)) * mg / (4 * d)
  else
    let n := s.peers.lanes.getD (i / 16) 0
    if n < 4 then 0 else 1800 * n * (e.T - e.G) / (8 * e.T)

/-! ## Guarantees (R410 to R413) -/

/-- Tiles of a tenant. -/
def State.tenTiles (s : State) (u : Nat) : List Nat :=
  (List.range 48).filter (fun t => s.get (fTenTiles u) / 2 ^ t % 2 == 1)

/-- The resource element, in one direction, and the site of a resource code. Port 0 is into the hub, toward the tenant;
port 1 out of it (R410). Every element counts per direction (R411). -/
def resElem (res : Nat) (toRes : Bool) : Nat × Nat :=
  let p := if toRes then 1 else 0
  if res < 0x30 then (hubElem 4 res p, tileSite res)
  else if res < 0x38 then (hubElem 5 (openSite (res - 0x30)) p, openSite (res - 0x30))
  else (hubElem 6 (peerSite (res - 0x38)) p, peerSite (res - 0x38))

/-- The elements that the flow of one tile charges (R412). -/
def State.flowElems (s : State) (res tile : Nat) (toRes : Bool) : List Nat :=
  let r := resElem res toRes
  if res < 0x30 ∧ res = tile then [r.1]
  else
    let a := if toRes then tileSite tile else r.2
    let b := if toRes then r.2 else tileSite tile
    [r.1, hubElem 3 a 0, hubElem 3 b 1] ++ s.routeElems a b

/-- A guarantee's fields. -/
structure Guar where
  g : Nat
  toRes : Bool
  label : Nat
  tenant : Nat
  res : Nat
  rate : Nat
  deriving DecidableEq, Repr

def guarOf (g : Nat) (w : Word) : Guar :=
  ⟨g, bitsOf w 62 62 == 1, bitsOf w 61 59, bitsOf w 58 55, bitsOf w 54 48, bitsOf w 47 32⟩

/-- The valid entries. -/
def State.guars (s : State) : List Guar :=
  ((List.range 128).filter (fun g => s.flag (fSlgValid g))).map (fun g => guarOf g (s.rd (slg g)))

/-- An entry names a resource that exists, and commons that its tenant maps (R410). -/
def State.guarValid (s : State) (x : Guar) : Bool :=
  decide (x.res ≤ 0x3B)
    && (decide (0x30 ≤ x.res)
      || ((List.range 64).any (fun r => s.flag (fRgnValid r) && s.flag (fRgnSealed r) && decide (s.get (fRgnStack r) = x.res))
        && (List.range 128).any (fun e => match s.trnEntry x.tenant e with
          | some y => y.commons && decide (y.tgt / 2 ^ 38 = x.res)
          | none => false)))

/-- Every charge of some entries: element, rate and number of tiles it is divided by. -/
def State.charges (s : State) (l : List Guar) : List (Nat × Guar × Nat) :=
  l.flatMap (fun x =>
    let ts := s.tenTiles x.tenant
    ts.flatMap (fun t => (s.flowElems x.res t x.toRes).map (fun c => (c, x, ts.length))))

/-- The sum of an element's charges, as numerator over a common denominator. -/
def chargeSum (l : List (Nat × Guar × Nat)) : Nat × Nat :=
  let d := l.foldl (fun d x => Nat.lcm d (max 1 x.2.2)) 1
  ((l.map (fun x => x.2.1.rate * (d / max 1 x.2.2))).foldl (· + ·) 0, d)

/-- The lowest-coded element whose charges exceed its capacity (R413). -/
def State.guarFail (s : State) (e : CapEnv) (l : List Guar) : Option Nat :=
  let ch := s.charges l
  let codes := (ch.map Prod.fst).eraseDups
  let bad := codes.filter (fun c =>
    let x := chargeSum (ch.filter (fun y => y.1 == c))
    decide (s.elemCap e c * x.2 < x.1))
  bad.foldl (fun m c => some (match m with | none => c | some v => min v c)) none

/-- Tasks that a bank's program RUNs (words before the first END). -/
def State.bankRuns (s : State) (b : Nat) : List Nat :=
  let base := tsqProg b 0
  let ws := (s.regs.filter (fun x => decide (base ≤ x.1 ∧ x.1 < base + 0x80000))).map Prod.snd
  ((ws.takeWhile (fun w => bitsOf w 63 56 != 0x0A)).filter (fun w => bitsOf w 63 56 == 0x03)).map (fun w => bitsOf w 9 0)
    |>.eraseDups

/-- The environment in force. -/
def State.capEnv (s : State) : CapEnv :=
  { T := s.get fTsqT, G := s.get fTsqGuard, margin := s.get fTsqMargin,
    run := if s.seq.bankOk then s.bankRuns (s.get fTsqBank) else [] }

/-! ## Labels and buckets at an injector (R404, R405) -/

/-- A label's parameters in force. -/
def State.labelWord (s : State) (l : Nat) : Word := (smLookup s.labels l).getD (regReset (slrCfg l))

/-- The resource that a request to a site and a device address goes to, as SLGg.res codes it. -/
def State.pktRes (s : State) (site addr : Nat) : Option Nat :=
  let i := site % 16
  if i = 15 then some (0x38 + site / 16)
  else if 12 ≤ i ∧ i ≤ 13 then some (0x30 + 2 * (site / 16) + (i - 12))
  else match s.place addr with
    | .stack t _ => if tileSite t = site then some t else none
    | _ => none

/-- The resource is shared: a stack is so where it holds the addressed commons (R410). -/
def State.sharedRes (s : State) (res addr : Nat) : Bool :=
  if 0x30 ≤ res then true
  else (List.range 64).any (fun r => s.flag (fRgnValid r) && s.flag (fRgnSealed r) && decide (s.get (fRgnStack r) = res
    ∧ s.get (fRgnFirst r) ≤ addr % 2 ^ 38 / 2 ^ 20 ∧ addr % 2 ^ 38 / 2 ^ 20 < s.get (fRgnFirst r) + s.get (fRgnNg r)))

/-- The bucket of a request: its key, its rate in bytes per 10 ns, and the tiles that the rate is divided among (R405). -/
def State.bucket (s : State) (site tenant label : Nat) (fw toRes : Bool) (res : Nat) : Nat × Nat × Nat :=
  match (if fw then none else s.guars.find? (fun x =>
      decide (x.tenant = tenant ∧ x.label = label ∧ x.res = res) && x.toRes == toRes)) with
  | some x => (256 * site + x.g, s.get (fSlgEff x.g), max 1 (s.tenTiles x.tenant).length)
  | none => (256 * site + 128 + label, bitsOf (s.labelWord label) 31 16, 1)

/-- Every bucket gains what one step of 10 ns brings. -/
def State.refill (s : State) : State :=
  s.modHub (fun h => { h with lacks := h.lacks.filterMap (fun x =>
    let i := x.1 % 256
    let r := if i < 128 then s.get (fSlgEff i) else bitsOf (s.labelWord (i - 128)) 31 16
    if x.2 ≤ r then none else some (x.1, x.2 - r)) })

/-- The burst of a bucket in bytes (R405). -/
def bucketBurst : Nat := 65536

/-- A request of `cost` bytes takes its tokens, or has to wait for them; traffic to a resource that is not shared has no
bucket (R405). -/
def State.takeTokens (s : State) (site tenant label : Nat) (fw toRes : Bool) (res addr cost : Nat) : Option State :=
  if !(s.sharedRes res addr) then some s
  else
    let b := s.bucket site tenant label fw toRes res
    let lack : Nat := smGetD s.hub.lacks 0 b.1 + cost * b.2.2
    if bucketBurst * b.2.2 < lack then none
    else some (s.modHub (fun h => { h with lacks := smSetD h.lacks 0 b.1 lack }))

/-! ## The write of an entry (R410, R413, R415) -/

/-- The environment that an admitted swap, period or margin brings at the next boundary, where one is pending. -/
def State.resultEnv (s : State) : CapEnv :=
  let p := s.seq.pendPeriod.getD (s.get fTsqT, s.get fTsqGuard)
  let b := if s.seq.swapOk then 1 - s.get fTsqBank else s.get fTsqBank
  { T := p.1, G := p.2, margin := (s.seq.pendCfg.getD (s.get fTsqMargin, 0)).1
    run := if s.seq.swapOk || s.seq.bankOk then s.bankRuns b else [] }

/-- Entry g takes a written word, or the write is refused. A write that `waited` for an admission is checked against the
admission's result alone (R415); another has to fit the capacities in force and those that a pending result brings (log 81). -/
def State.guarSet (s : State) (g : Nat) (w : Word) (waited : Bool) : State :=
  let x := guarOf g w
  let refuse (code elem : Nat) : State := ((s.set fSlgCode code).set fSlgElem elem).set fSlgErr 1
  let accept (eff : Nat) : State :=
    (((s.wr (slg g) (putBits (putBits w 31 16 eff) 15 0 0)).set fSlgCode 0).set fSlgElem 0)
  let l := (s.guars.filter (fun y => y.g != g)) ++ [x]
  if bitsOf w 63 63 = 0 then accept 0
  else if !s.guarValid x then refuse 2 0
  else match (if waited then none else s.guarFail s.capEnv l), s.guarFail s.resultEnv l with
    | some c, some d => refuse 1 (min c d)
    | some c, none => refuse 1 c
    | none, some c => refuse 1 c
    | none, none => accept x.rate

/-- The writes that waited for an admission are carried out, oldest first (R415). -/
def State.guarResume (s : State) : State :=
  if s.flag fAdmBusy then s
  else (s.hub.guarWait.foldl (fun s x => s.guarSet x.1 x.2 true) (s.modHub (fun h => { h with guarWait := [] }))).set fSlgBusy 0

/-- What one gateway of a tile carries in one direction, in 0.1 GB/s: a share of the site's width (02 R66). -/
def State.gatewayRate (s : State) (t : Nat) : Nat := 256 * widthNum (s.get (fSiteWidth (tileSite t))) / 4

/-! ## Scaling (R414) -/

/-- Router and port that an event names for an element: a link's own, the station of a waveguide's quadrant, else the site
port (R402). -/
def elemPlace (c : Nat) : Nat × Nat :=
  let kind := c / 2 ^ 28
  let i := c / 2 ^ 22 % 64
  if kind = 1 then (i, c / 2 ^ 19 % 8)
  else if kind = 2 then (station (i / 3), 5)
  else if kind = 4 then (tileSite i, 4)
  else (i, 4)

/-- Event 0x42 of an entry: to its tenant and to firmware. -/
def State.rateEvent (s : State) (x : Guar) (flag eff : Nat) : State :=
  s.raiseBoth (some x.tenant) 0x42 [(flag, 29), (x.label, 41), (x.g, 48)] (packW [(x.rate, 16), (eff, 0)])

/-- The rate in force that R414 gives an entry under the present capacities. -/
def State.scaledRate (s : State) (e : CapEnv) (ch : List (Nat × Guar × Nat)) (x : Guar) : Nat :=
  if x.label ≤ 1 then x.rate
  else
    let mine := ((ch.filter (fun y => y.2.1.g == x.g)).map Prod.fst).eraseDups
    mine.foldl (fun r c =>
      let on := ch.filter (fun y => y.1 == c)
      let cap := s.elemCap e c
      let all := chargeSum on
      if all.1 ≤ cap * all.2 then r
      else
        let p := chargeSum (on.filter (fun y => decide (y.2.1.label ≤ 1)))
        let q := chargeSum (on.filter (fun y => decide (1 < y.2.1.label)))
        -- rate × (C' − P) / S, rounded down
        min r (x.rate * ((cap * p.2 - p.1) * q.2) / (p.2 * q.1))) x.rate

/-- Every element is recomputed after a fall of capacity. -/
def State.rescale (s : State) : State :=
  let l := s.guars
  if l = [] then s
  else
    let e := s.capEnv
    let ch := s.charges l
    let s' := l.foldl (fun st x =>
      let r := s.scaledRate e ch x
      if r = s.get (fSlgEff x.g) then st else (st.set (fSlgEff x.g) r).rateEvent x 0 r) s
    let past := ((ch.map Prod.fst).eraseDups).filter (fun c =>
      let p := chargeSum (ch.filter (fun y => y.1 == c && decide (y.2.1.label ≤ 1)))
      decide (s.elemCap e c * p.2 < p.1))
    past.foldl (fun st c => st.raiseX 16 0x42 [(2, 29), ((elemPlace c).1, 32), ((elemPlace c).2, 38)] 0) s'

/-- At a tick boundary the full rates are tried again; an entry that has its full rate back is reported (R414). -/
def State.restoreRates (s : State) : State :=
  let l := s.guars
  if l.all (fun x => s.get (fSlgEff x.g) == x.rate) then s
  else
    let e := s.capEnv
    let ch := s.charges l
    l.foldl (fun st x =>
      if s.get (fSlgEff x.g) ≠ x.rate ∧ s.scaledRate e ch x = x.rate then
        (st.set (fSlgEff x.g) x.rate).rateEvent x 1 x.rate else st) s

/-- A unit's capacity fell: guarantees are scaled at once, and admission is to be rechecked (R414; 10 R364). -/
def State.capacityFell (s : State) (u : CapUnit) : State :=
  let s := s.rescale
  { s with fell := s.fell ++ [u] }

end Sys2Proof.Machine
end

