-- ==== Sys2Proof/Machine/Rs.lean ====
section
/-! DEFINITION. The code of a burst: arithmetic of GF(2^8), check symbols, syndromes, and the decoder (08 R269 to R273).
Polynomials are lists of coefficients from degree 0 up. -/

namespace Sys2Proof.Machine

/-! ## GF(2^8) with x^8 + x^4 + x^3 + x^2 + 1 (R270) -/

/-- Times α = 0x02. -/
def gfTwice (a : Nat) : Nat := if 256 ≤ 2 * a then 2 * a ^^^ 0x11D else 2 * a

def gfMul (a b : Nat) : Nat :=
  ((List.range 8).foldl (fun (x : Nat × Nat) i => (if b / 2 ^ i % 2 = 1 then x.1 ^^^ x.2 else x.1, gfTwice x.2)) (0, a)).1

/-- α^n; α has order 255. -/
def gfAlpha (n : Nat) : Nat := (List.range (n % 255)).foldl (fun a _ => gfTwice a) 1

/-- The inverse, a^254. -/
def gfInv (a : Nat) : Nat :=
  ((List.range 7).foldl (fun (x : Nat × Nat) _ => (gfMul x.1 (gfMul x.2 x.2), gfMul x.2 x.2)) (1, a)).1

/-! ## Polynomials over the field -/

def gfTrim (p : List Nat) : List Nat := (p.reverse.dropWhile (· == 0)).reverse

def gfAdd : List Nat → List Nat → List Nat
  | [], q => q
  | p, [] => p
  | a :: p, b :: q => (a ^^^ b) :: gfAdd p q

def gfScale (c : Nat) (p : List Nat) : List Nat := p.map (gfMul c)

def gfTimes (p : List Nat) : List Nat → List Nat
  | [] => []
  | b :: q => gfAdd (gfScale b p) (0 :: gfTimes p q)

def gfEval (p : List Nat) (x : Nat) : Nat := p.foldr (fun c v => c ^^^ gfMul v x) 0

/-- Quotient and remainder; the divisor is trimmed and not empty. -/
def gfDivMod : Nat → List Nat → List Nat → List Nat × List Nat
  | 0, a, _ => ([], a)
  | n + 1, a, b =>
    if a.length < b.length ∨ a = [] then ([], a)
    else
      let c := List.replicate (a.length - b.length) 0 ++ [gfMul (a.getLastD 0) (gfInv (b.getLastD 0))]
      let r := gfDivMod n (gfTrim (gfAdd a (gfTimes b c))) b
      (gfAdd c r.1, r.2)

/-! ## The code (R269, R270) -/

/-- The generator, the product of x + α^i for i = 0 to 31. -/
def rsGen : List Nat := (List.range 32).foldl (fun p i => gfTimes p [gfAlpha i, 1]) [1]

/-- The check symbols of 256 data symbols: the remainder of the data polynomial times x^32. Check symbol k is the
coefficient of x^(31−k). -/
def rsCheck (data : List Nat) : List Nat :=
  let g := (rsGen.take 32).reverse
  data.foldl (fun r d =>
    let f := d ^^^ r.headD 0
    List.zipWith (fun a c => a ^^^ gfMul f c) (r.tail ++ [0]) g) (List.replicate 32 0)

/-- The 32 syndromes of a deviation: symbol j is the coefficient of x^(287−j). -/
def rsSyndromes (d : Deviation) : List Nat :=
  (List.range 32).map (fun i => d.foldl (fun s x => s ^^^ gfMul (x.2 % 256) (gfAlpha (i * (287 - x.1)))) 0)

/-- The pin that carries a symbol (R269). -/
def symPin (j : Nat) : Nat := if j < 256 then j % 16 else 16 + (j - 256) / 16

/-- The 16 symbols of a pin. -/
def pinSyms (pin : Nat) : List Nat := (List.range 288).filter (fun j => symPin j == pin)

/-- The codeword that leads from the codeword of data `m` to that of `n`. -/
def rsDiff (m n : List Nat) : Deviation :=
  let x := List.zipWith (fun a b => a ^^^ b) m n
  ((x ++ rsCheck x).zipIdx.filter (fun y => y.1 != 0)).map (fun y => (y.2, y.1))

/-! ## The decoder (R271, R273) -/

/-- The error locator and evaluator by Euclid's algorithm: it stops at a remainder of fewer than `lim` coefficients. -/
def rsEuclid : Nat → Nat → List Nat → List Nat → List Nat → List Nat → List Nat
  | 0, _, _, _, _, v => v
  | n + 1, lim, r0, r1, v0, v1 =>
    if r1.length ≤ lim then v1
    else
      let q := gfDivMod 33 r0 r1
      rsEuclid n lim r1 q.2 v1 (gfTrim (gfAdd v0 (gfTimes q.1 v1)))

/-- The formal derivative in characteristic 2. -/
def gfDeriv (p : List Nat) : List Nat := (p.tail.zipIdx).map (fun x => if x.2 % 2 = 0 then x.1 else 0)

/-- The symbol that stands at exponent `p` below 255. Exponents p and p + 255 are one place of the field, and a word of 288
symbols has both for p up to 32: which of the two the decoder corrects is open. -/
def rsSymbol (key p : Nat) : Nat := if p < 33 ∧ Config.aliasPick key p = true then 32 - p else 287 - p

/-- The error pattern within reach, with `f` erased symbols and e errors where 2e + f ≤ 32, that has these syndromes. -/
def rsFind (syn : List Nat) (erased : List Nat) : Option Deviation :=
  let f := erased.length
  let key := syn.foldl (fun a x => 256 * a + x) 0
  let gam := erased.foldl (fun p j => gfTimes p [1, gfAlpha (287 - j)]) [1]
  let t := gfTrim ((gfTimes syn gam).take 32)
  let lam := rsEuclid 33 (16 + f / 2) (List.replicate 32 0 ++ [1]) t [] [1]
  let psi := gfTrim (gfTimes lam gam)
  let om := (gfTimes syn psi).take 32
  let der := gfDeriv psi
  let marked := erased.map (fun j => (287 - j) % 255)
  let roots := (List.range 255).filter (fun p => gfEval lam (gfAlpha (255 - p)) == 0)
  let all := marked ++ roots
  let pats := all.zipIdx.map (fun x =>
    let y := gfAlpha (255 - x.1 % 255)
    let v := gfMul (gfAlpha x.1) (gfMul (gfEval om y) (gfInv (gfEval der y)))
    (if x.2 < f then erased.getD x.2 0 else rsSymbol key x.1, v))
  let d := ((List.range 288).filterMap (fun j => pats.find? (fun x => x.1 == j))).filter (fun x => x.2 != 0)
  if 2 * (lam.length - 1) + f ≤ 32 ∧ roots.length + 1 = lam.length ∧ roots.all (fun p => !(marked.contains p))
    ∧ rsSyndromes d = syn then some d else none

/-- What the decoder takes the error of a read burst to be: none where no codeword lies within reach. An error within the
reach that R271 promises is the error itself. -/
def rsDecode (d : Deviation) (pin : Nat) : Option Deviation :=
  if d = [] then some []
  else
    let syn := rsSyndromes d
    if syn.all (· == 0) then some []
    else
      let erased := if pin = 0x1F then [] else pinSyms pin
      let e := (d.filter (fun x => symPin x.1 != pin)).length
      if 2 * e + erased.length ≤ 32 then some d else rsFind syn erased

end Sys2Proof.Machine
end

