-- ==== Sys2Proof/Machine/StackOps.lean ====
section
/-! DEFINITION. What the stack controller does with a burst, and what Larkspur does with a stack: the map from an offset
to channel and layer, reads with their outcomes and reports, writes, erasure markings, repairs (08 R263 to R297). -/

namespace Sys2Proof.Machine

/-- Two's complement numbers of 16 and of 8 bits. -/
def signed16 (n : Nat) : Int := if n < 2 ^ 15 then (n : Int) else (n : Int) - 2 ^ 16
def signed8 (n : Nat) : Int := if n < 2 ^ 7 then (n : Int) else (n : Int) - 2 ^ 8

def State.stack (s : State) (t : Nat) : Stack := smGetD s.bks Stack.fresh t
def State.modStack (s : State) (t : Nat) (f : Stack → Stack) : State :=
  { s with bks := smSetD s.bks Stack.fresh t (f (s.stack t)) }

/-! ## From a storage address to channel and layer (R267, R268) -/

/-- The burst index within the channel of a stack offset after retirement. -/
def burstL (a : Nat) : Nat := a / 256 / 128 % 2 ^ 23
def foldL (l : Nat) : Nat := (l % 128) ^^^ (l / 2 ^ 7 % 128) ^^^ (l / 2 ^ 14 % 128) ^^^ (l / 2 ^ 21 % 4)
/-- Logical channel. -/
def burstCh (a : Nat) : Nat := (a / 256 % 128) ^^^ foldL (burstL a)
/-- Logical data layer. -/
def burstLayer (a : Nat) : Nat := a / 2 ^ 22 % 16
/-- The offset of the burst with index `l` in logical channel `c`. -/
def burstAt (c l : Nat) : Nat := (l * 128 + (c ^^^ foldL l)) * 256

/-- The physical channel that reads of a storage address reach: during a copy, the source (R268, R289). -/
def State.physCh (s : State) (key : Nat) : Nat :=
  let t := key / 2 ^ 38
  let c := burstCh (key % 2 ^ 38)
  match (s.stack t).repair with
  | some r => if !r.layer && decide (r.unit = c) then r.old else s.get (fStkIlv t c)
  | none => s.get (fStkIlv t c)

/-- The physical layer (R268). -/
def State.physLayer (s : State) (key : Nat) : Nat :=
  let l := burstLayer (key % 2 ^ 38)
  if s.get (fStkSpareFor (key / 2 ^ 38)) = l then 16 else l

/-- The device address of a burst: a stand-in granule is named by the granule it replaces (R266). -/
def State.burstAddr (s : State) (key : Nat) : Nat :=
  let t := key / 2 ^ 38
  let g := key % 2 ^ 38 / 2 ^ 20
  match (List.range 256).find? (fun k => s.flag (fRetValid t k) && decide (s.get (fRetRepl t k) = g)) with
  | some k => t * 2 ^ 38 + s.get (fRetRetired t k) * 2 ^ 20 + key % 2 ^ 20 / 256 * 256
  | none => key / 256 * 256

/-! ## Symbols and deviations (R269 to R273) -/

/-- The sum of two deviations, by rising position. -/
def devAdd (a b : Deviation) : Deviation :=
  (List.range 288).filterMap (fun j =>
    let v (l : Deviation) : Nat := (l.filter (fun x => x.1 == j)).foldl (fun s x => s ^^^ (x.2 % 256)) 0
    let d := v a ^^^ v b
    if d = 0 then none else some (j, d))

/-- The poison pattern, as a deviation from the codeword of 256 zeros (R272). -/
def poisonDev : Deviation := (List.range 32).map (fun k => (256 + k, 0xA5))

def State.dev (s : State) (key : Nat) : Deviation := smGetD s.badBursts [] (key / 256)
def State.setDev (s : State) (key : Nat) (d : Deviation) : State :=
  { s with badBursts := smSetD s.badBursts [] (key / 256) d }

/-- The 256 data symbols of a burst's codeword, and the 288 symbols that the controller reads (R269, R270). -/
def State.burstData (s : State) (key : Nat) : List Nat := (s.bytes (key / 256 * 256) 256).map (fun b => b.toNat)

def devAt (d : Deviation) (j : Nat) : Nat := ((d.find? (fun x => x.1 == j)).map Prod.snd).getD 0

def State.symbols (s : State) (key : Nat) : List Nat :=
  let m := s.burstData key
  (m ++ rsCheck m).zipIdx.map (fun x => x.1 ^^^ devAt (s.dev key) x.2)

/-- The burst belongs to the unit under repair. -/
def inUnit (r : Repair) (key : Nat) : Bool :=
  if r.layer then burstLayer (key % 2 ^ 38) == r.unit else burstCh (key % 2 ^ 38) == r.unit

/-- The poison pattern stands in a burst. -/
def State.setPoison (s : State) (key : Nat) : State :=
  (s.setBytes (key / 256 * 256) (List.replicate 256 0)).setDev key poisonDev

/-- The controller writes the poison pattern; in a unit under repair it goes to source and target (R289, R290, R303). -/
def State.putPoison (s : State) (key : Nat) : State :=
  let s := s.setPoison key
  let t := key / 2 ^ 38
  s.modStack t (fun k => { k with
    fixes := k.fixes.filter (fun x => x != key / 256)
    repair := k.repair.map (fun r => if inUnit r key then
      { r with poisoned := (key / 256) :: r.poisoned.filter (fun x => x != key / 256) } else r) })

/-- The 288 symbols are the poison pattern, or the burst lies in a unit whose lost contents are being filled with it (R272,
R293). A codeword is never the pattern. -/
def State.isPoison (s : State) (key : Nat) : Bool :=
  (s.dev key != [] && (s.symbols key == List.replicate 256 0 ++ List.replicate 32 0xA5))
    || (match (s.stack (key / 2 ^ 38)).repair with
        | some r => r.dead && inUnit r key && !(r.wrote.contains (key / 256))
        | none => false)

/-- What decoding finds. -/
inductive BurstCond where
  | clean
  /-- The pattern that the decoder takes for the error. -/
  | corrected (e : Deviation)
  | uncorrectable (ppat : Bool)
  deriving DecidableEq, Repr

/-- The condition of a stored burst on physical channel `p` (R271). -/
def State.burstCond (s : State) (key p : Nat) : BurstCond :=
  if s.isPoison key then .uncorrectable true
  else match rsDecode (s.dev key) (s.get (fChErase (key / 2 ^ 38) p)) with
    | none => .uncorrectable false
    | some [] => .clean
    | some e => .corrected e

/-- The data that a read returns when the decoder takes `e` for the error. -/
def State.decoded (s : State) (key : Nat) (e : Deviation) : List Byte :=
  let d := s.dev key
  let m := s.bytes (key / 256 * 256) 256
  if d = e then m
  else m.zipIdx.map (fun x => x.1 ^^^ BitVec.ofNat 8 (devAt d x.2 ^^^ devAt e x.2))

/-! ## Capacity and failure of a stack (R294, R295) -/

/-- STK_STATUS.derate for the stack's state (R295). -/
def State.setDerate (s : State) (t : Nat) : State :=
  let st := s.get (fStkState t)
  let filling := (List.range 256).any (fun k => s.flag (fRetFill t k))
  let d := if st = 1 then (if filling then 12 else 16) else if st = 2 ∨ st = 3 then 12 else 0
  let fall := decide (d < s.get (fStkDerate t))
  let s := s.set (fStkDerate t) d
  if fall then s.capacityFell (.stack t) else s

/-- What ran or waited on a stack that goes out of service ends. -/
def State.stackEnds (s : State) (t : Nat) : State :=
  let s := s.modStack t (fun k => { k with repair := none, queue := [], fixes := [], held := [] })
  ((s.set (fStkRkind t) 0).set (fStkUnit t) 0xFF).set (fStkTotal t) 0

/-- The stack goes out of service (R294). -/
def State.stackFails (s : State) (t : Nat) : State :=
  (((s.stackEnds t).set (fStkState t) 4).setDerate t).raiseStk 16 0x28 t 0xFF 0x1F 0 0x1F 0 false

/-! ## Repairs (R287 to R293) -/

/-- Bursts of a channel, and of a layer on one channel. -/
def State.chBursts (s : State) : Nat := s.stackBytes / 256 / 128

/-- The lowest-numbered free spare channel (R289). -/
def State.freeSpare (s : State) (t : Nat) : Option Nat := (List.range 136).find? (fun p => s.get (fChState t p) = 0)

/-- A free spare channel fails before it is used: no repair may choose it. -/
def State.spareChannelBad (s : State) (t p : Nat) : State :=
  ((s.set (fChState t p) 4).set (fStkSpareFree t) (s.get (fStkSpareFree t) - 1)).logLater 0x03 0x02 (t + p * 64) 0

/-- Starts a repair whose stack runs none: the spare becomes target, the old unit source (R289 steps 1 and 2, R290); with
no spare the stack fails (R294); with a dead source the contents are lost (R293). -/
def State.startRepair (s : State) (t : Nat) (q : RepairReq) : State :=
  let begin (s : State) (old spare total pch layer : Nat) : State :=
    let s := s.modStack t (fun k => { k with repair := some ⟨q.layer, q.unit, old, spare, q.dead, [], []⟩ })
    let s := ((s.set (fStkRkind t) (if q.layer then 2 else 1)).set (fStkUnit t) q.unit).set (fStkState t)
      (if q.dead then 3 else 2)
    let s := ((s.set (fStkTotal t) total).set (fStkCopied t) 0).setDerate t
    if q.dead then s.raiseStk 16 0x27 t pch 0x1F 0 layer 0 false else s
  if q.layer then
    if s.get (fStkSpareFor t) ≠ 0x1F ∨ (s.stack t).spareBad then s.stackFails t
    else begin s q.unit 16 (s.chBursts / 16 * 128) 0xFF q.unit
  else
    match s.freeSpare t with
    | none => s.stackFails t
    | some p =>
      let old := s.get (fStkIlv t q.unit)
      let s := ((s.set (fChState t p) 2).set (fChLch t p) q.unit).set (fChState t old) 3
      let s := (s.set (fStkIlv t q.unit) p).set (fStkSpareFree t) (s.get (fStkSpareFree t) - 1)
      begin s old p s.chBursts old 0x1F

/-- A repair trigger: it waits while the stack runs a repair (R288); a failed or absent stack takes none. -/
def State.triggerRepair (s : State) (t : Nat) (q : RepairReq) : State :=
  if 4 ≤ s.get (fStkState t) then s
  else match (s.stack t).repair with
    | some _ => s.modStack t (fun k => if k.queue.contains q then k else { k with queue := k.queue ++ [q] })
    | none => s.startRepair t q

/-- A trigger names a physical channel (R287). One that serves a logical channel is repaired; a copy source is being
repaired already, a retired one is out of use, and a free spare is passed over from now on. -/
def State.channelFails (s : State) (t p : Nat) (dead : Bool) : State :=
  let st := s.get (fChState t p)
  if st = 0 then s.spareChannelBad t p
  else if st = 1 ∨ st = 2 then s.triggerRepair t ⟨false, s.get (fChLch t p), dead⟩
  else s

/-- The layer whose repair is under way. -/
def State.layerRepairing (s : State) (t : Nat) : Option Nat :=
  match (s.stack t).repair with
  | some r => if r.layer then some r.unit else none
  | none => none

/-- A trigger names a physical layer (R287). A data layer that is in use is repaired; the source of a layer repair under way
is out of use once that ends, so that its trigger asks for nothing more. Of the spare layer: the data layer that it holds, or
is taking over, is repaired, which waits for the repair under way (R288); a free spare is passed over from now on (R294). -/
def State.layerFails (s : State) (t l : Nat) (dead : Bool) : State :=
  if l < 16 then
    (if s.get (fStkSpareFor t) = l ∨ s.layerRepairing t = some l then s else s.triggerRepair t ⟨true, l, dead⟩)
  else match s.layerRepairing t with
    | some u => s.triggerRepair t ⟨true, u, dead⟩
    | none =>
      if s.get (fStkSpareFor t) = 0x1F then
        (s.modStack t (fun k => { k with spareBad := true })).logLater 0x03 0x03 (t + 16 * 64) 0
      else s.triggerRepair t ⟨true, s.get (fStkSpareFor t), dead⟩

/-- A pin meets a condition of R274: it is marked erased, or, beside a marked pin, its channel is repaired (R275). -/
def State.pinFails (s : State) (t p pin : Nat) : State :=
  let cur := s.get (fChErase t p)
  if cur = pin then s
  else if cur = 0x1F then
    ((s.set (fChErase t p) pin).raiseStk 16 0x23 t p pin 0 0x1F 0 false).logLater 0x05 0x02 (t + p * 64) pin
  else s.channelFails t p false

/-- 24 h and 1 s in steps of 10 ns (R287). -/
def dayLong : Nat := 8640000000000
def secondLong : Nat := 100000000

/-- Entries that are not older than `d`. -/
def State.young (s : State) (d : Nat) (l : List (Nat × Nat × Nat × Nat)) : List (Nat × Nat × Nat × Nat) :=
  l.filter (fun x => decide (s.now ≤ x.1 + d))

/-- Eight channels or more have shown bursts of physical layer `l` in error within 1 s: a layer repair (R287). -/
def State.layerSpread (s : State) (t l : Nat) : State :=
  let k := s.stack t
  let on := (s.young secondLong (k.ues ++ k.ces)).filter (fun x => x.2.2.1 == l)
  if 8 ≤ ((on.map (fun x => x.2.1)).eraseDups).length then s.layerFails t l false else s

/-- A corrected burst on channel `p`, whose error is `e`: counted, its pins enter the record of the last 16 (R274), and the
burst awaits its write-back, unless only the erased pin was wrong (R276). -/
def State.noteCorrected (s : State) (t p key : Nat) (e : Deviation) : State :=
  let pins := (e.map (fun x => symPin x.1)).eraseDups
  let s := s.addSat (fChCe t p) 1
  let hist := (pins :: smGetD (s.stack t).pins [] p).take 16
  let back := pins != [s.get (fChErase t p)]
  let l := s.physLayer key
  let s := s.modStack t (fun k => { k with
    pins := smSetD k.pins [] p hist
    ces := s.young secondLong k.ces ++ [(s.now, p, l, key / 256)]
    fixes := if back && !(k.fixes.contains (key / 256)) then k.fixes ++ [key / 256] else k.fixes })
  (pins.foldl (fun s x => if 12 ≤ (hist.filter (fun l => l.contains x)).length then s.pinFails t p x else s) s).layerSpread t l

/-- An uncorrectable burst: counted and reported with event 0x20; the tenants' copies follow (R296). Four within 24 h in one
layer, and four in one channel that are not all in one layer, each call for a repair (R287). DEDUCED (log 86): the poison
pattern counts for none, since the controller itself has written it. -/
def State.reportUe (s : State) (key p src : Nat) (ppat : Bool) : State :=
  let t := key / 2 ^ 38
  let a := s.burstAddr key
  let l := s.physLayer key
  let s := (s.addSat (fChUe t p) 1).raiseStk 16 0x20 t p 0x1F a l src ppat
  let s := { s with ueWait := s.ueWait ++ [⟨t, p, a, l, src, ppat, s.tick32⟩] }
  if ppat then s
  else
    let us := (s.young dayLong (s.stack t).ues).filter (fun x => x.2.2.2 != key / 256) ++ [(s.now, p, l, key / 256)]
    let s := (s.modStack t (fun k => { k with ues := us })).layerSpread t l
    let s := if 4 ≤ (us.filter (fun x => x.2.2.1 == l)).length then s.layerFails t l false else s
    let on := us.filter (fun x => x.2.1 == p)
    if 4 ≤ on.length ∧ on.any (fun x => x.2.2.1 != l) then s.channelFails t p false else s

/-- Reads the burst of a storage address: its 256 bytes, or none when it is uncorrectable (R271). The stored symbols stay
as they are. -/
def State.readBurst (s : State) (key src : Nat) : State × Option (List Byte) :=
  let t := key / 2 ^ 38
  let p := s.physCh key
  match s.burstCond key p with
  | .clean => (s, some (s.decoded key []))
  | .corrected e => (s.noteCorrected t p key e, some (s.decoded key e))
  | .uncorrectable pp => (s.reportUe key p src pp, none)

/-- A whole-burst write replaces the burst and clears its condition (R297). -/
def State.putBurst (s : State) (key : Nat) (bs : List Byte) : State :=
  let s := (s.setBytes (key / 256 * 256) bs).setDev key []
  let t := key / 2 ^ 38
  s.modStack t (fun k => { k with
    fixes := k.fixes.filter (fun x => x != key / 256)
    repair := k.repair.map (fun r => if inUnit r key then
      { r with
        poisoned := r.poisoned.filter (fun x => x != key / 256)
        wrote := if r.dead then (key / 256) :: r.wrote.filter (fun x => x != key / 256) else r.wrote } else r) })

/-- A write inside one burst: a part of it is a read-modify-write, which writes nothing when the burst proves
uncorrectable (R231, R297). The second component says whether the bytes were written. -/
def State.putPart (s : State) (key : Nat) (bs : List Byte) : State × Bool :=
  if bs.length = 256 ∧ key % 256 = 0 then (s.putBurst key bs, true)
  else
    let r := s.readBurst key 0x6
    match r.2 with
    | none => (r.1, false)
    | some old => (r.1.putBurst key (old.take (key % 256) ++ bs ++ old.drop (key % 256 + bs.length)), true)

/-- A poison fill for the retirement of the granule of a storage address is under way (R301). -/
def State.fillWaits (s : State) (key : Nat) : Bool :=
  let t := key / 2 ^ 38
  (List.range 256).any (fun k => s.flag (fRetFill t k) && decide (s.get (fRetRetired t k) = key % 2 ^ 38 / 2 ^ 20))

/-- The stack admits no new access now: a thermal hold, the burst's channel in a retraining hold, a granule on its way out
(R281, R285, R301). -/
def State.stackWaits (s : State) (key : Nat) : Bool :=
  let t := key / 2 ^ 38
  s.flag (fStkHold t) || (s.stack t).held.contains (s.physCh key) || s.fillWaits key

/-- A write waits for the copy target of its channel too (R289, R303). -/
def State.writeWaits (s : State) (key : Nat) : Bool :=
  s.stackWaits key || (match (s.stack (key / 2 ^ 38)).repair with
    | some r => !r.layer && inUnit r key && (s.stack (key / 2 ^ 38)).held.contains r.spare
    | none => false)

/-- The bursts of a run of `n` bytes from offset `a` of stack `t` do not all admit an access now. -/
def State.runWaits (s : State) (t a n : Nat) (write : Bool) : Bool :=
  (List.range ((a % 256 + n + 255) / 256)).any (fun i =>
    let key := s.stackKey t (a / 256 * 256 + 256 * i)
    if write then s.writeWaits key else s.stackWaits key)

/-- A run of `n` bytes from offset `a` of stack `t` answers under its own address: populated, the stack in service, no
stand-in granule in it (00 R9; R265, R294, R298; 01 R28). -/
def State.runServes (s : State) (t a n : Nat) : Bool :=
  decide (t < 48 ∧ a + n ≤ s.stackBytes) && (List.range (n / 2 ^ 20 + 2)).all (fun i =>
    s.stackServes t (min (a + i * 2 ^ 20) (a + (n - 1))))

/-! ## Engine accesses to stack memory -/

/-- The parts of a byte run in each burst. -/
def burstParts : Nat → Nat → Nat → List (Nat × Nat)
  | 0, _, _ => []
  | fuel + 1, v, n =>
    if n = 0 then []
    else
      let m := min n (256 - v % 256)
      (v, m) :: burstParts fuel (v + m) (n - m)

/-- Reads `n` bytes of stack `t` from an offset, burst by burst; the first uncorrectable burst ends the read (R296). -/
def State.readParts (s : State) (t src : Nat) : List (Nat × Nat) → State × Option (List Byte)
  | [] => (s, some [])
  | (a, n) :: l =>
    let key := s.stackKey t a
    let r := s.readBurst key src
    match r.2 with
    | none => (r.1, none)
    | some bs =>
      let rest := State.readParts r.1 t src l
      (rest.1, rest.2.map (fun x => (bs.drop (a % 256)).take n ++ x))

def State.readStack (s : State) (t a n src : Nat) : State × Option (List Byte) :=
  s.readParts t src (burstParts (n / 256 + 2) a n)

/-- Writes bytes burst by burst; false when a read-modify-write met an uncorrectable burst, which keeps its bytes while every
other part is written (R297; 12 R434). -/
def State.writeParts (s : State) (t : Nat) : List (Nat × Nat) → List Byte → State × Bool
  | [], _ => (s, true)
  | (a, n) :: l, bs =>
    let r := s.putPart (s.stackKey t a) (bs.take n)
    let rest := State.writeParts r.1 t l (bs.drop n)
    (rest.1, r.2 && rest.2)

def State.writeStack (s : State) (t a : Nat) (bs : List Byte) : State × Bool :=
  s.writeParts t (burstParts (bs.length / 256 + 2) a bs.length) bs

end Sys2Proof.Machine
end

