-- ==== Sys2Proof/Machine/TaskOps.lean ====
section
/-! DEFINITION. Tasks as every family sees them: descriptors, core groups, faults and their records, stops, aborts (09
R321 to R331; 10 R340 to R348, R365 to R370). -/

namespace Sys2Proof.Machine

/-! ## Task state (R343) -/

def tsUnloaded : Nat := 0
def tsIdle : Nat := 1
def tsBound : Nat := 2
def tsRunning : Nat := 3
def tsDone : Nat := 4
def tsParked : Nat := 5
def tsCarried : Nat := 6
def tsAborted : Nat := 7
def tsCommitted : Nat := 8

def State.tstate (s : State) (k : Nat) : Nat := s.get (fTstState k)
def State.setTstate (s : State) (k v : Nat) : State := s.set (fTstState k) v
def State.loaded (s : State) (k : Nat) : Bool := decide (s.tstate k ≠ 0)

def State.task (s : State) (k : Nat) : Task := smGetD s.tasks Task.fresh k
def State.modTask (s : State) (k : Nat) (f : Task → Task) : State :=
  { s with tasks := smSetD s.tasks Task.fresh k (f (s.task k)) }

/-- The tick whose number word 5 of a record and word 1 of an event carry; the whole number orders ticks. -/
def State.tick (s : State) : Nat := s.get fTsqTick

/-! ## Faults (09 R319 to R327) -/

/-- The next fault number of a queue (R322). -/
def State.faultNo (s : State) (u : Nat) : Nat := smGetD s.faultSeq 1 u

/-- What a fault record says beside its number (R321). -/
structure FaultInfo where
  cause : Nat
  src : Nat
  ctx : Nat
  parked : Bool
  more : Bool
  task : Nat
  faddr : Nat
  acc : Nat
  aux : Nat
  who : Nat
  d0 : Word
  d1 : Word
  deriving DecidableEq, Repr

/-- The record's eight words for queue `u` and number `seq`. -/
def State.faultWords (s : State) (u seq : Nat) (f : FaultInfo) : FaultRec :=
  [packW [(1, 0), (8, 8), (f.cause, 16), (f.src, 24), (if u < 16 then u else 0, 32), (f.ctx, 40),
      (if f.parked then 1 else 0, 56), (if f.more then 1 else 0, 58)],
    packW [(seq, 0), (f.task, 32)], packW [(f.faddr % 2 ^ 48, 0), (f.acc, 48)], packW [(f.aux % 2 ^ 48, 0)],
    packW [(f.who, 0)], packW [(s.tick32, 0)], f.d0, f.d1]

/-- A fault is detected: it takes its number at once; the hub writes the record (R322, R324). The record of a task's fault
is kept by its task when the queue is full, whether or not the fault parks it (R325). -/
def State.fault (s : State) (u : Nat) (kept : Bool) (f : FaultInfo) (own : Option Nat := none) : State :=
  let n := s.faultNo u
  let w : FaultWait := ⟨u, if f.parked then some f.task else own, s.faultWords u n f, kept⟩
  { s with faultSeq := smSetD s.faultSeq 1 u ((n + 1) % 2 ^ 32), faultWait := s.faultWait ++ [w] }

/-- A fault that parks task k: unresolved until firmware resolves its number (R328 to R330). -/
def State.taskFault (s : State) (u k : Nat) (f : FaultInfo) : State :=
  let n := s.faultNo u
  (s.fault u true f (some k)).modTask k (fun t => { t with open_ := t.open_ ++ [(n, f.cause, f.aux)], resumes := false })

/-- Records between cons and prod of a fault queue (R323). -/
def State.faultUsed (s : State) (u : Nat) : Nat := (s.get (fFltProd u) + 2 ^ 32 - s.get (fFltCons u)) % 2 ^ 32

/-- Field full, and the end of a filling (R325). -/
def State.faultFull (s : State) (u : Nat) : State :=
  let full := decide (s.faultUsed u = 256)
  let s := s.setB (fFltFull u) full
  if full then s else { s with fullTold := s.fullTold.filter (fun x => x != u) }

/-- Writes a record at prod and advances prod (R324). -/
def State.putRecord (s : State) (u : Nat) (ws : FaultRec) : State :=
  let p := s.get (fFltProd u)
  let s := (ws.zipIdx).foldl (fun s x => s.wr (fltRec u (p % 256) x.2) x.1) s
  (s.set (fFltProd u) (p + 1)).faultFull u

/-- A record whose queue is full: counted; a task's record is kept as pending with the event once per filling, a host
or BML record is lost (R325, R327). -/
def State.keepRecord (s : State) (u : Nat) (w : FaultWait) : State :=
  let s := s.addSat (fFltOvf u) 1
  if !w.kept then s.addSat (fFltNkLost u) 1
  else
    let s := match w.task with
      | some k => ((s.modTask k (fun t => { t with pend := t.pend ++ [w.words] })).set (fTstFpend k) 1).set (fFltPend u)
          (s.get (fFltPend u) + 1)
      | none => s
    if s.fullTold.contains u then s
    else
      ({ s with fullTold := s.fullTold ++ [u] }).raiseBoth (if u < 16 then some u else none) 0x04 []
        (packW [(u, 0), (s.get (fFltPend u), 16)])

/-- A parked task has a pending record for a queue with room: firmware's sweep is due (R326, 10 R369). -/
def State.sweepDue (s : State) : Bool :=
  s.tasks.any (fun x => !x.2.pend.isEmpty && decide (x.1 < 1024 ∧ s.faultUsed (s.tdTenant x.1) < 256))

/-! ## Stops (10 R347, 05 R170, 09 R328) -/

/-- The cores that hold task k's state. -/
def State.holders (s : State) (k : Nat) : List Nat := (s.group k).filter (fun c => (s.core c).task == some k)

/-- Work of a core that is still on its way: queued tensor instructions, outstanding messages, DMA commands. -/
def State.coreBusy (s : State) (c : Nat) : Bool :=
  !((s.core c).tq.isEmpty) || s.net.any (fun x => x.2.src == c)
    || s.dma.any (fun d => d.2.core == c && decide (d.2.st ≠ DmaState.refused))

/-- Issue halts: a running, waiting or ended core is stopped and keeps the mode in which it may go on. -/
def Core.halt (k : Core) : Core :=
  match k.mode with
  | .running | .atBarrier | .ended => { k with before := k.mode, mode := .stopped, wait := none }
  | .idle => if k.before = .idle then k else { k with mode := .stopped }
  | _ => k

def State.haltGroup (s : State) (k : Nat) : State := (s.holders k).foldl (fun s c => s.modCore c Core.halt) s

/-- A discard stop: the executing instruction completes, queued ones are discarded, the tick's work is lost. Exceptions that
are pending stay pending in the stopped cores' state (04 R132). -/
def State.discardStop (s : State) (k : Nat) : State :=
  let hs := s.holders k
  let s := hs.foldl (fun s c => (s.discardQueued c 1).modCore c Core.halt) s
  let s := { s with dma := s.dma.filter (fun d => !(hs.contains d.2.core && decide (d.2.st = DmaState.refused))) }
  s.modTask k (fun t => { t with
    discarded := true, aborted := true, extended := false, carried := none, draining := false, mustPark := false, resumes := false,
    refused := [] })

/-- Task k is Aborted for the tick: counted, event 0x31 with a reason (R366 to R368, R348). -/
def State.abortTask (s : State) (k reason : Nat) : State :=
  let s := (s.discardStop k).setTstate k tsAborted
  (s.addSat fOvrAbort 1).raiseSeq (s.tdTenant k) 0x31 k (s.tdPolicy k) reason 0 0

/-- A task has faults that firmware has not resolved. -/
def State.hasOpen (s : State) (k : Nat) : Bool := !((s.task k).open_.isEmpty)

/-- The guard band has not begun. -/
def State.beforeGuard (s : State) : Bool := decide (s.get fTsqPhase < 4)

/-- A Parked task does not resume in its faulting tick: its work is discarded, and it becomes Idle when the last fault
is resolved (10 R645, 09 R330). -/
def State.discardParked (s : State) (k : Nat) : State :=
  (s.discardStop k)

/-- A Parked task whose last fault is resolved: it resumes in its faulting tick, or becomes Idle (09 R330, 10 R645). -/
def State.faultsDone (s : State) (k : Nat) : State :=
  if s.hasOpen k ∨ s.tstate k ≠ tsParked then s
  else
    let t := s.task k
    if t.faultTick = s.tick ∧ s.beforeGuard ∧ !t.dropped ∧ !t.discarded then
      s.modTask k (fun t => { t with resumes := true })
    else ((s.discardParked k).modTask k (fun t => { t with dropped := false })).setTstate k tsIdle

/-! ## Parts of a task's state (10 R342, R344, R353) -/

/-- The scratchpad bytes of a core that are not zero, by offset. -/
def State.spadCells (s : State) (c : Nat) : List (Nat × Byte) :=
  let b := spadAddr c 0
  (s.mem.filter (fun x => decide (b ≤ x.1 ∧ x.1 < b + 2 ^ 15))).map (fun x => (x.1 - b, x.2))

/-- Writes the whole scratchpad of a core: the listed bytes, zero elsewhere; every word is good again. -/
def State.loadSpad (s : State) (c : Nat) (cells : List (Nat × Byte)) : State :=
  let b := spadAddr c 0
  let out (a : Nat) : Bool := decide (a < b ∨ b + 2 ^ 15 ≤ a)
  let m := s.mem.filter (fun x => out x.1)
  { s with
    mem := cells.foldl (fun m x => smSetD m 0 (b + x.1) x.2) m
    badWords := s.badWords.filter (fun x => out x.1) }

/-- A core takes the state that a slot keeps; what belongs to the core itself and not to the task stays. DESIGN CHOICE
(log 77): CORE_CVTST is of the task's state, as the rest of a core's registers. -/
def Core.restore (live saved : Core) : Core :=
  { saved with
    fenced := live.fenced, scrub := live.scrub, cyc0 := live.cyc0
    evs := live.evs, sats := live.sats, tq := [] }

/-- What a core holds, as a slot keeps it. -/
def State.corePart (s : State) (c : Nat) : SlotPart := ⟨s.core c, s.spadCells c⟩

/-- The task-load state of a core: registers and accumulators 0, the generator as reset leaves it (04 R156); CORE_CVTST 0
(log 77). -/
def freshCore (c cyc : Nat) : Core := { coreReset cyc with sr := [(0x013, srReset c)] }

/-- Every core of the group is quiet: no stop of an earlier holder is still in progress on it (10 R344). -/
def State.groupQuiet (s : State) (k : Nat) : Bool := (s.group k).all (fun c => !(s.coreBusy c))

end Sys2Proof.Machine
end

