-- ==== Sys2Proof/Machine/Admission.lean ====
section
/-! DEFINITION. The tick program's words, and the checks that a bank passes before it may run (10 R358 to R363, R644). -/

namespace Sys2Proof.Machine

/-! ## Words (R358) -/

def twOp (w : Word) : Nat := bitsOf w 63 56
def twFirst (w : Word) : Nat := bitsOf w 9 0
def twLast (w : Word) : Nat := bitsOf w 25 16
def twCovers (w : Word) (k : Nat) : Bool := decide (twFirst w ≤ k ∧ k ≤ twLast w)

def opPHASE : Nat := 0x01
def opINGEST : Nat := 0x02
def opRUN : Nat := 0x03
def opWAITT : Nat := 0x04
def opCOMMIT : Nat := 0x05
def opAT : Nat := 0x06
def opSKIP : Nat := 0x07
def opEVENT : Nat := 0x08
def opMIRROR : Nat := 0x09
def opEND : Nat := 0x0A

/-- The bits of a word's operands. -/
def twMask (op : Nat) : Nat :=
  if op = opPHASE then 0x7 else if op = opINGEST then 0xF else if op = opRUN then 0x3FF
  else if op = opWAITT ∨ op = opCOMMIT then 0x03FF03FF else if op = opAT then 0xFFFFF
  else if op = opSKIP then 0x3FFFFFFFFFF else if op = opEVENT then 0xFFFF000F else 0

/-- A word that passes by itself: assigned opcode, required zeros, operand ranges (R359). -/
def twOk (w : Word) : Bool :=
  let op := twOp w
  decide (1 ≤ op ∧ op ≤ 0x0A) && (bitsOf w 55 0 &&& (2 ^ 56 - 1 - twMask op)) == 0
    && (op != opPHASE || decide (bitsOf w 2 0 ≤ 3))
    && (op != opSKIP || (decide (1 ≤ bitsOf w 15 0 ∧ bitsOf w 15 0 ≤ 4096 ∧ bitsOf w 31 16 < bitsOf w 15 0)
        && bitsOf w 41 32 != 0))

/-- The listed words of a bank: index and word, rising; a word not listed is 0, which is no instruction, and so is one that
cannot be read (07 R256). -/
def State.bankWords (s : State) (b : Nat) : List (Nat × Word) :=
  let base := tsqProg b 0
  (s.regs.filter (fun x => decide (base ≤ x.1 ∧ x.1 < base + 0x80000))).map (fun x =>
    ((x.1 - base) / 8, if s.sramBad (regAddr x.1) then 0 else x.2))

/-- The result of the checks: TSQ_ADM's fields (code 0: admitted). -/
structure Adm where
  code : Nat
  pc : Nat
  stack : Nat
  task : Nat
  wEnd : Nat
  deriving DecidableEq, Repr

def Adm.none : Adm := ⟨0, 0, 0, 0, 0⟩

/-! ## Check 1: each word on its own, SKIPs and END (R644) -/

/-- The first index that no listed word stands at, from `i`. -/
def firstGap : Nat → List (Nat × Word) → Nat
  | i, [] => i
  | i, x :: l => if x.1 = i then firstGap (i + 1) l else i

/-- The lowest failing index of check 1. -/
def State.wordsFail (s : State) (b : Nat) : Option Nat :=
  let ws := s.bankWords b
  let stop := (ws.find? (fun x => twOp x.2 == opEND && twOk x.2)).map Prod.fst
  let body := match stop with
    | some e => ws.filter (fun x => decide (x.1 ≤ e))
    | Option.none => ws
  let gap := firstGap 0 body
  let bad := (body.filter (fun x => !twOk x.2)).map Prod.fst
  match stop with
  | some e =>
    listMin (bad ++ (if gap < e then [gap] else [])
      ++ (body.filter (fun x => twOp x.2 == opSKIP && decide (e ≤ x.1 + bitsOf x.2 41 32))).map Prod.fst)
  | Option.none => listMin (bad ++ [min gap 65535])

/-- The program: words 0 to END of a bank that passes check 1. -/
def State.program (s : State) (b : Nat) : List (Nat × Word) :=
  let ws := s.bankWords b
  match (ws.find? (fun x => twOp x.2 == opEND)).map Prod.fst with
  | some e => ws.filter (fun x => decide (x.1 ≤ e))
  | Option.none => []

/-- Tasks that a program RUNs. -/
def progTasks (p : List (Nat × Word)) : List Nat :=
  ((p.filter (fun x => twOp x.2 == opRUN)).map (fun x => twFirst x.2)).eraseDups

/-- The instructions that the tick residue `r` executes, END included. -/
def progPath (r : Nat) : Nat → List (Nat × Word) → List (Nat × Word)
  | _, [] => []
  | 0, x :: l =>
    x :: (if twOp x.2 = opEND then []
      else progPath r (if twOp x.2 = opSKIP ∧ r % bitsOf x.2 15 0 ≠ bitsOf x.2 31 16 then bitsOf x.2 41 32 else 0) l)
  | n + 1, _ :: l => progPath r n l

/-! ## Check 2: L (R362) -/

/-- The least common multiple of SKIP moduli and task periods. -/
def State.progL (s : State) (p : List (Nat × Word)) : Nat :=
  let ms := (p.filter (fun x => twOp x.2 == opSKIP)).map (fun x => bitsOf x.2 15 0)
  let ps := ((progTasks p).filter (fun k => s.loaded k)).map (fun k => s.tdPeriod k)
  (ms ++ ps).foldl Nat.lcm 1

/-! ## Check 3: the path of each residue (R359) -/

/-- The failures of one path: index, code, task. -/
def State.pathFails (s : State) (path : List (Nat × Word)) : List (Nat × Nat × Nat) :=
  let rec go (phase : Nat) (seen : List Nat) : List (Nat × Word) → List (Nat × Nat × Nat)
    | [] => []
    | (i, w) :: l =>
      let op := twOp w
      if op = opPHASE then
        (if bitsOf w 2 0 < phase then [(i, 0x01, 0)] else []) ++ go (max phase (bitsOf w 2 0)) seen l
      else if op = opCOMMIT then (if phase ≠ 3 then [(i, 0x01, 0)] else []) ++ go phase seen l
      else if op = opRUN then
        let k := twFirst w
        if !(s.loaded k) then (i, 0x05, k) :: go phase seen l
        else if seen.contains k then (i, 0x01, k) :: go phase seen l
        else
          let other := seen.any (fun j => s.groupsMeet j k && s.tdTenant j != s.tdTenant k)
          let after := (l.dropWhile (fun x => !(twOp x.2 == opWAITT && twCovers x.2 k))).drop 1
          let covered := after.any (fun x => twOp x.2 == opCOMMIT && twCovers x.2 k)
          (if other ∨ !covered then [(i, 0x01, k)] else []) ++ go phase (seen ++ [k]) l
      else go phase seen l
  go 0 [] path

/-- The failure with the lowest index. -/
def lowestFail : List (Nat × Nat × Nat) → Option (Nat × Nat × Nat)
  | [] => Option.none
  | x :: l => match lowestFail l with
    | Option.none => some x
    | some y => some (if y.1 < x.1 then y else x)

/-- Checks 1 to 3 of a bank (R644). -/
def State.structureCheck (s : State) (b : Nat) : Adm :=
  match s.wordsFail b with
  | some i => { Adm.none with code := 0x01, pc := i }
  | Option.none =>
    let p := s.program b
    let L := s.progL p
    if 4096 < L then { Adm.none with code := 0x04 }
    else match (List.range L).findSome? (fun r => lowestFail (s.pathFails (progPath r 0 p))) with
      | some (i, code, k) => { Adm.none with code := code, pc := i, task := k }
      | Option.none => Adm.none

/-! ## Checks 4 to 6: time, stacks, guarantees (R362, R363) -/

/-- What an admission counts with; `now` counts a throttled domain at its present clock (R364). -/
structure AdmEnv where
  T : Nat
  G : Nat
  margin : Nat
  step : Nat
  now : Bool
  deriving DecidableEq, Repr

/-- The present arithmetic clock of a domain in units of 0.125 MHz: none while it is stopped, 20 MHz in bypass (18 R599,
R613). -/
def State.clockNow (s : State) (m : Nat) : Nat :=
  if !(s.flag (fClkRun m)) then 0 else if s.flag (fClkSrc m) then 160 else 100 * s.get (fClkNcur m)

/-- fadm of a task's slowest domain, in units of 0.125 MHz (12.5 MHz × n × (100 − margin) / 100); a domain without a clock
counts as 0.125 MHz, so that every walk ends. -/
def State.fadm (s : State) (e : AdmEnv) (k : Nat) : Nat :=
  let f := (s.tdDoms k).map (fun m =>
    let a := s.get (fClkNset m) * (100 - e.margin)
    if e.now then min a (s.clockNow m) else a)
  max 1 ((listMin f).getD 1)

/-- A walk's times count in units of 1/K ps, so that every completion is a whole number. -/
def State.admK (s : State) (e : AdmEnv) (ks : List Nat) : Nat := (ks.map (s.fadm e)).foldl Nat.lcm 1

/-- The longer stop time of R344 and R354, in ps. -/
def stopPs (n : Nat) : Nat := max 2000000 (21500 * n)

/-- The time of a binding in ps (R344). -/
def State.bindPs (s : State) (k : Nat) (switch : Bool) : Nat :=
  100000 + 32000 * s.tdCcount k + (if s.tdHasSlot k then 200000 else 0) + (if switch then 2 * stopPs (s.tdNmax k) else 0)

/-- What one task adds to a COMMIT, in ps (R354). -/
def State.commitPs (s : State) (k : Nat) : Nat :=
  1000000 + 32000 * s.tdCcount k + (if s.tdHasSlot k then 200000 else 0)
    + (if s.tdCkpt k then stopPs (s.tdNmax k) else 0)

/-- A walk in progress: the two clocks, the completions of bound tasks, the holders of groups. -/
structure Walk where
  clock : Nat
  eng : Nat
  done : List (Nat × Nat)
  held : List Nat
  deriving DecidableEq, Repr

def State.due (s : State) (k r : Nat) : Bool := decide (r % s.tdPeriod k = s.tdOffs k)

/-- One instruction of a walk of residue `r`. -/
def State.walkStep (s : State) (e : AdmEnv) (K r : Nat) (x : Walk) (w : Word) : Walk :=
  let us := 1000000 * K
  let op := twOp w
  if op = opINGEST then { x with clock := x.clock + us }
  else if op = opRUN then
    let k := twFirst w
    let clock := x.clock + 50000 * K
    if !(s.due k r) then { x with clock := clock }
    else
      let others := x.held.filter (fun j => s.groupsMeet j k)
      let free := (x.done.filter (fun d => s.groupsMeet d.1 k)).foldl (fun m d => max m d.2) 0
      let start := max clock (max x.eng free)
      let eng := start + K * s.bindPs k (others.any (fun j => j != k))
      let comp := eng + us * e.step * ((s.tdDoms k).length - 1) + s.tdBudget k * 8000000 * K / s.fadm e k
      { clock := clock, eng := eng, done := x.done ++ [(k, comp)],
        held := (x.held.filter (fun j => !(s.groupsMeet j k))) ++ [k] }
  else if op = opWAITT then
    { x with clock := (x.done.filter (fun d => twCovers w d.1)).foldl (fun m d => max m d.2) x.clock }
  else if op = opCOMMIT then
    let cost := ((x.done.filter (fun d => twCovers w d.1)).map (fun d => s.commitPs d.1)).foldl (· + ·) 50000
    let t := max x.clock x.eng + K * cost
    { x with clock := t, eng := t }
  else if op = opAT then { x with clock := max x.clock (us * bitsOf w 19 0) }
  else { x with clock := x.clock + 50000 * K }

/-- The walk of one residue from the given holders. -/
def State.walk (s : State) (e : AdmEnv) (K r : Nat) (held : List Nat) (p : List (Nat × Word)) : Walk :=
  (progPath r 0 p).foldl (fun x w => s.walkStep e K r x w.2) ⟨0, 0, [], held⟩

/-- Every walk in ascending residue. -/
def State.walks (s : State) (e : AdmEnv) (K : Nat) (p : List (Nat × Word)) (L : Nat) : List Walk :=
  -- the holders before residue 0 are those that a round of all residues leaves
  let held := (List.range L).foldl (fun h r => (s.walk e K r h p).held) []
  ((List.range L).foldl (fun (a : List Nat × List Walk) r =>
    let x := s.walk e K r a.1 p
    (x.held, a.2 ++ [x])) (held, [])).2

/-- The stack limit of R363 in MiB. -/
def State.stackLimit (s : State) (e : AdmEnv) (t : Nat) : Nat :=
  s.get (fStkDerate t) * 2310000 * (e.T - e.G) / (16 * 1048576)

/-- The lowest stack that one walk overloads. -/
def State.stackFail (s : State) (e : AdmEnv) (x : Walk) : Option Nat :=
  let ks := x.done.map Prod.fst
  (List.range 48).find? (fun t =>
    let on := ks.filter (fun k => (s.tdTiles k).contains t)
    decide (on ≠ [] ∧ s.stackLimit e t < (on.map (fun k => s.tdSmib k)).foldl (· + ·) 0))

/-- Checks 4 to 6 of a bank that passes checks 1 to 3. -/
def State.capacityCheck (s : State) (b : Nat) (e : AdmEnv) : Adm :=
  let p := s.program b
  let ks := progTasks p
  let K := s.admK e ks
  let ws := s.walks e K p (s.progL p)
  let top := (ws.map Walk.clock).foldl max 0
  let us := 1000000 * K
  let a : Adm := { Adm.none with wEnd := (top + us - 1) / us }
  if (e.T - e.G) * us < top then { a with code := 0x02 }
  else match ws.findSome? (s.stackFail e) with
    | some t => { a with code := 0x03, stack := t }
    | Option.none =>
      match s.guarFail { T := e.T, G := e.G, margin := e.margin, run := ks } s.guars with
      | some _ => { a with code := 0x06 }
      | Option.none => a

/-- The whole admission of a bank. -/
def State.judgeBank (s : State) (b : Nat) (e : AdmEnv) : Adm :=
  let a := s.structureCheck b
  if a.code ≠ 0 then a else s.capacityCheck b e

/-- Shows a result in TSQ_ADM. -/
def State.showAdm (s : State) (a : Adm) : State :=
  (((((s.set fAdmEnd a.wEnd).set fAdmPc a.pc).set fAdmStack a.stack).set fAdmTask a.task).set fAdmCode a.code).setB
    fAdmBusy false

end Sys2Proof.Machine
end

