-- ==== Sys2Proof/Machine/Access.lean ====
section
/-! DEFINITION. Reading and writing a register under the access codes of its map (00 R10, R11), and the reads and
consumer writes of the event queues (11 R400, R401). -/

namespace Sys2Proof.Machine

/-- The bits of a map's fields with an access code. -/
def RegDef.mask (d : RegDef) (p : Acc → Bool) : Nat :=
  (d.flds.filter (fun f => p f.acc)).foldl (fun m f => m + (2 ^ (f.hi + 1) - 2 ^ f.lo)) 0

/-- The bits of a word under a mask. -/
def maskW (w : Word) (m : Nat) : Word := w &&& BitVec.ofNat 64 m

/-- The mask of the register at an offset. -/
def regMask (off : Nat) (p : Acc → Bool) : Nat :=
  match findReg off with
  | some d => d.mask p
  | none => 0

def regRW (off : Nat) : Nat := regMask off (fun a => a == .rw)
def regW1C (off : Nat) : Nat := regMask off (fun a => a == .w1c)
def regRS (off : Nat) : Nat := regMask off (fun a => a == .rs)
def regWO (off : Nat) : Nat := regMask off (fun a => a == .wo)
/-- Reserved bits: those of no field. -/
def regRes (off : Nat) : Nat := 2 ^ 64 - 1 - regMask off (fun _ => true)

/-- A read: WO fields read 0, RS fields clear (R10, R11). -/
def State.readReg (s : State) (off : Nat) : State × Word :=
  let w := s.rd off
  let rs := regRS off
  ((if maskW w rs = 0 then s else s.wr off (w &&& ~~~ (BitVec.ofNat 64 rs))), w &&& ~~~ (BitVec.ofNat 64 (regWO off)))

/-- A write of the bits `m` of a register: RW fields take the bits, W1C fields clear where a 1 is written; other fields
keep. -/
def State.writeFields (s : State) (off m : Nat) (w : Word) : State :=
  let old := s.rd off
  let rw := BitVec.ofNat 64 (regRW off) &&& BitVec.ofNat 64 m
  let c := BitVec.ofNat 64 (regW1C off) &&& BitVec.ofNat 64 m &&& w
  s.wr off (((old &&& ~~~ rw) ||| (w &&& rw)) &&& ~~~ c)

/-- The written word places a value other than 0 in a reserved field (R10). -/
def setsReserved (off : Nat) (w : Word) : Bool := maskW w (regRes off) != 0

/-- The reserved-write event of a write by `who` (16: firmware), where one is due. -/
def State.checkReserved (s : State) (who off : Nat) (w : Word) : State :=
  if setsReserved off w then s.reservedWrite who (regAddr off) else s

/-! ## Event queues (11 R400, R401) -/

/-- Entry boundaries of a ring from position `p`, with the words left until prod. -/
def State.onBoundary (s : State) (u : Nat) (prio : Bool) : Nat → Nat → Nat → Nat → Bool
  | 0, _, _, _ => false
  | fuel + 1, p, left, dist =>
    if dist = 0 then true
    else
      let n := bitsOf (s.rd (evqWord u (ringIndex u prio p))) 7 0 + 1
      if dist < n ∨ left < n then false else State.onBoundary s u prio fuel (p + n) (left - n) (dist - n)

/-- A consumer writes a ring's cons. -/
def State.evqCons (s : State) (u : Nat) (prio : Bool) (v : Nat) : State :=
  let c := s.get (fCons u prio)
  let used := s.ringUsed u prio
  let d := (v + 2 ^ 32 - c) % 2 ^ 32
  if d ≤ used ∧ s.onBoundary u prio (d + 1) c used d then (s.set (fCons u prio) v).ringFlags u
  else s.set (fEvqPterr u) 1

/-- Whether queue word `i` lies from cons up to prod of its ring. -/
def State.evqLive (s : State) (u i : Nat) : Bool :=
  let prio := decide (i < ringSize u true)
  let n := ringSize u prio
  let j := if prio then i else i - ringSize u true
  let c := s.get (fCons u prio)
  -- positions up to the pointers' wrap, then those past it
  let before := 2 ^ 32 - c
  decide ((j + n - c % n) % n < min before (s.ringUsed u prio) ∨ before + j < s.ringUsed u prio)

/-- A read of queue word `i`: outside cons to prod the underrun word, counted. -/
def State.evqRead (s : State) (u i : Nat) : State × Word :=
  if s.evqLive u i then (s, s.rd (evqWord u i)) else (s.addSat (fEvqUnd u) 1, 0)

end Sys2Proof.Machine
end

