-- ==== Sys2Proof/Machine/EngineOps.lean ====
section
/-! DEFINITION. Accesses of host tiles and open-site chiplets through a translation context: the whole-extent check, the
bytes moved, atomic steps (07 R231; 09 R309 to R316; 12 R434; 13 R461). -/

namespace Sys2Proof.Machine

/-- What ends a translated access: cause, failing address, device address reached, whether more bytes fail. -/
structure ExtFail where
  cause : Nat
  v : Nat
  reached : Nat
  more : Bool
  deriving DecidableEq, Repr

/-- The check of the whole extent (R316, R319). -/
def State.extCheck (s : State) (c : Nat) (need : Need) (v n : Nat) : Option ExtFail :=
  let fails := s.failRuns c need false v [(v, n)]
  (lowestRun fails).map (fun r => ⟨r.cause, r.v, r.reached, decide (1 < failBytes fails)⟩)

/-- The access waits: a core that the run reaches carries out the known-answer test (17 R572), a stack does not admit the
access now (08 R281, R285, R291, R301), or the hub holds no credit of the guest whose window it reaches (12 R429). -/
def State.engineHeld (s : State) (c v n : Nat) (write : Bool) : Bool :=
  (pageParts (n / 4096 + 2) v n).any (fun p => match s.translate c p.1 with
    | none => false
    | some a => match s.place a with
      | .core k _ => s.katRuns k
      | .stack t o => s.runWaits t o p.2 write
      | .window k _ => s.windowWaits k
      | _ => false)

/-- The tenant that owns what stands at a device address. -/
def State.ownerAt (s : State) (a : Nat) : Option Nat :=
  match s.place a with
  | .stack t _ => s.tileOwner t
  | .core x _ => s.coreTenant x
  | _ => none

/-- An engine's access that reaches a scratchpad enters its tile through the gateway of the core's block (02 R68). -/
def State.enterTile (s : State) (a : Nat) : State :=
  match s.place a with
  | .core k _ => s.emit "gateway-access" [coreTile k, gateway k, a] []
  | _ => s

/-- Who asks for an access through the hub: the site port, the context of its translation, and by the tenant that owns the
target the service label and the tenant whose guarantees count (11 R404, R405; 12 R435; 13 R454). -/
structure Asker where
  site : Nat
  ctx : Nat
  label : Option Nat → Nat
  tenant : Option Nat → Nat

/-- The resource of the hub that a device address lies behind, as SLGg.res codes it. -/
def State.hubRes (s : State) (a : Nat) : Option Nat :=
  match s.place a with
  | .stack t _ => some t
  | .window k _ => some (0x30 + k)
  | _ => none

/-- The tokens of an access: each part takes its own at the asker's site port; none where one has to wait (11 R405). -/
def State.hubTake (s : State) (w : Asker) (write : Bool) (v n : Nat) : Option State :=
  (pageParts (n / 4096 + 2) v n).foldl (fun r p => r.bind (fun s =>
    match s.translate w.ctx p.1 with
    | none => some s
    | some a => match s.hubRes a with
      | none => some s
      | some res => s.takeTokens w.site (w.tenant (s.ownerAt a)) (w.label (s.ownerAt a)) false write res a p.2)) (some s)

/-- The access waits: for what it reaches, or for its tokens. -/
def State.askHeld (s : State) (w : Asker) (write : Bool) (v n : Nat) : Bool :=
  s.engineHeld w.ctx v n write || (s.hubTake w write v n).isNone

/-- The hub requests of an access that passed its check: its tokens are taken, and each part carries the access's service
label and the tenant that the part's target belongs to, for a node its granting tenant (11 R404; 12 R435; 13 R454). -/
def State.hubRequests (s : State) (w : Asker) (write : Bool) (v n : Nat) : State :=
  (pageParts (n / 4096 + 2) v n).foldl (fun s p =>
    let a := (s.translate w.ctx p.1).getD 0
    (s.emit "hub-request" ([w.ctx, w.label (s.ownerAt a), a, p.2] ++ (s.ownerAt a).toList) []).enterTile a)
    ((s.hubTake w write v n).getD s)

/-- The first address of a run of stack memory or of a scratchpad that holds no data (02 R50; 08 R296). -/
def State.badAt (s : State) (a n : Nat) : Nat :=
  match s.place a with
  | .stack t o =>
    ((burstParts (n / 256 + 2) o n).find? (fun p =>
      let key := s.stackKey t p.1
      match s.burstCond key (s.physCh key) with
      | .uncorrectable _ => true
      | _ => false)).elim a (fun p => t * 2 ^ 38 + p.1 / 256 * 256)
  | .core k o => (s.spadPoison k o n).elim a (fun w => spadAddr k w)
  | _ => a

/-- A read that meets data in error names the burst or the word, by DVA and by device address (02 R50; 08 R296; 09 R321). -/
def State.readFail (s : State) (v a n : Nat) : ExtFail :=
  let b := s.badAt a n
  ⟨0x07, v + b - a, b, false⟩

/-- Reads a translated run that passed its check; `odata` is what an O-space window answers. A window answers only below the
size that its guest declares: beyond it stands an address error, cause 0 (12 R437). -/
def State.extRead (s : State) (c v n : Nat) (odata : List Byte) : State × Except ExtFail (List Byte) :=
  (pageParts (n / 4096 + 2) v n).foldl (fun (x : State × Except ExtFail (List Byte)) p =>
    match x.2 with
    | .error _ => x
    | .ok acc =>
      let s := x.1
      let a := (s.translate c p.1).getD 0
      match s.place a with
      | .stack t o =>
        let r := s.readStack t o p.2 0x2
        match r.2 with
        | some b => (r.1, .ok (acc ++ b))
        | none => (r.1, .error (s.readFail p.1 a p.2))
      | .core k o =>
        -- a page may reach into the next core's scratchpad: pages and scratchpads are both aligned
        if (s.spadPoison k o p.2).isSome then (s, .error (s.readFail p.1 a p.2))
        else (s, .ok (acc ++ s.spadBytes k o p.2))
      | .window k o =>
        if s.windowBytes k < o + p.2 then (s, .error ⟨0, p.1, a, false⟩)
        else (s.windowSend k o p.2 false [], .ok (acc ++ (List.range p.2).map (fun i => odata.getD (acc.length + i) 0)))
      | _ => (s, .error ⟨0, p.1, a, false⟩)) (s, .ok [])

/-- Writes a translated run that passed its check: every part is written that can be; a partial burst that cannot be read
keeps its bytes (08 R297), and the first part that failed names the error (12 R434). -/
def State.extWrite (s : State) (c v : Nat) (bs : List Byte) : State × Option ExtFail :=
  (pageParts (bs.length / 4096 + 2) v bs.length).foldl (fun (x : State × Option ExtFail) p =>
    let s := x.1
    let b := (bs.drop (p.1 - v)).take p.2
    let a := (s.translate c p.1).getD 0
    match s.place a with
    | .stack t o =>
      let r := s.writeStack t o b
      (r.1, if r.2 then x.2 else x.2 <|> some (r.1.readFail p.1 a p.2))
    | .core k o => (s.setSpad k o b, x.2)
    | .window k o =>
      if s.windowBytes k < o + p.2 then (s, x.2 <|> some ⟨0, p.1, a, false⟩)
      else (s.windowSend k o p.2 true b, x.2)
    | _ => (s, x.2 <|> some ⟨0, p.1, a, false⟩)) (s, none)

/-- The number that bytes form. -/
def natLE (bs : List Byte) : Nat := bs.foldr (fun b a => b.toNat + 256 * a) 0

/-- What an atomic step writes: 1 add, 2 swap, 3 compare-and-swap, 4 or; `n` bytes wide. -/
def engineAtomic (kind n old x cmp : Nat) : Nat :=
  (if kind = 1 then old + x else if kind = 2 then x else if kind = 3 then (if old = cmp then x else old) else old ||| x)
    % 256 ^ n

/-- One indivisible step on `n` bytes; the old value. -/
def State.extAtomic (s : State) (c v n kind x cmp : Nat) (odata : List Byte) : State × Except ExtFail Nat :=
  let r := s.extRead c v n odata
  match r.2 with
  | .error e => (r.1, .error e)
  | .ok bs =>
    let old := natLE bs
    let w := r.1.extWrite c v (bytesLE n (engineAtomic kind n old x cmp))
    match w.2 with
    | some e => (w.1, .error e)
    | none => (w.1, .ok old)

end Sys2Proof.Machine
end

