-- ==== Sys2Proof/Machine/HostOps.lean ====
section
/-! DEFINITION. What a host tile does: its functions and their tenants, interrupts, queues and completions, sealed
windows, the port states (13 R453 to R487; 14 R505 to R507). -/

namespace Sys2Proof.Machine

def State.host (s : State) (q : Nat) : HostTile := smGetD s.hosts HostTile.fresh q
def State.modHost (s : State) (q : Nat) (f : HostTile → HostTile) : State :=
  { s with hosts := smSetD s.hosts HostTile.fresh q (f (s.host q)) }

/-- The tenant bound to a function (R454). -/
def State.boundTo (s : State) (q f : Nat) : Option Nat :=
  if s.flag (fBindEn q f) then some (s.get (fBindTenant q f)) else none

/-- The function that a tenant is bound to: host tile and function. -/
def State.bindingOf (s : State) (u : Nat) : Option (Nat × Nat) :=
  ((List.range 4).flatMap (fun q => (List.range 17).map (fun f => (q, f)))).find? (fun x => s.boundTo x.1 x.2 == some u)

/-- Queue pairs of a function, and entries of its MSI-X table (R457, R463). -/
def fnQueues (f : Nat) : Nat := if f = 0 then 256 else 16
def fnVectors (f : Nat) : Nat := if f = 0 then 2048 else 64

/-! ## What the host has set in configuration space (R453, R456, R457) -/

/-- The writable bits of a double word of configuration space before the host writes it: PF0's BAR2 has 16 GiB. -/
def cfgInit (key : Nat) : Nat := if key = 0x388 then 14 * 2 ^ 8 else 0

def State.cfgWord (s : State) (q f o : Nat) : Nat := smGetD (s.host q).cfg (cfgInit (4096 * f + o)) (4096 * f + o)

/-- SR-IOV's VF Enable, and the functions that the host tile presents: PF0 and NumVFs virtual functions (R453). -/
def State.vfEnable (s : State) (q : Nat) : Bool := s.cfgWord q 0 0x318 % 2 == 1
def State.fnThere (s : State) (q f : Nat) : Bool :=
  f == 0 || (s.vfEnable q && decide (f ≤ min 16 (s.cfgWord q 0 0x320 % 2 ^ 16)))

/-- MSI-X Enable and Function Mask; ATS Enable (R457, R474, R476). -/
def State.msixOn (s : State) (q f : Nat) : Bool := s.cfgWord q f 0x50 / 2 ^ 31 % 2 == 1
def State.msixAllMasked (s : State) (q f : Nat) : Bool := s.cfgWord q f 0x50 / 2 ^ 30 % 2 == 1
def State.atsOn (s : State) (q f : Nat) : Bool := s.cfgWord q f 0x304 / 2 ^ 31 % 2 == 1

/-- The memory window of a function: BAR2 of PF0 as the Resizable BAR capability has it, 4 GiB for a VF (R456, R460). -/
def State.windowSize (s : State) (q f : Nat) : Nat :=
  if f = 0 then 2 ^ (20 + s.cfgWord q 0 0x388 / 2 ^ 8 % 64) else 2 ^ 32

/-! ## Interrupts (R474, R475) -/

/-- The port is up. -/
def State.portUp (s : State) (q : Nat) : Bool := decide (s.get (fPortState q) = 1)

/-- The host tile's own requests reach the host: the port is up, or quiesced while its link stays. -/
def State.portSends (s : State) (q : Nat) : Bool :=
  s.portUp q || (decide (s.get (fPortState q) = 2) && (s.host q).linkUp)

/-- Something toward the host, or an answer to it, is discarded and counted (R478, R480, R482). -/
def State.lose (s : State) (q n : Nat) : State :=
  (s.addSat (fPortLost q) n).modHost q (fun h => { h with lostSum := h.lostSum + n })
def State.absorbAt (s : State) (q n : Nat) : State :=
  (s.addSat (fPortAbsorbed q) n).modHost q (fun h => { h with absorbedSum := h.absorbedSum + n })

/-- Sends something toward the host, or counts it as lost while the port does not send (R480). -/
def State.toHost (s : State) (q : Nat) (kind : String) (args : List Nat) (data : List Byte) : State :=
  if s.portSends q then s.emit kind args data else s.lose q 1

/-- Answers an inbound request: while the link is up in any state of the port; else the request is absorbed (R480, R485). -/
def State.answerHost (s : State) (q : Nat) (kind : String) (args : List Nat) (data : List Byte) : State :=
  if s.portUp q || (s.host q).linkUp then s.emit kind args data else s.absorbAt q 1

/-- A vector's message, or its pending bit while the vector or the function is masked; without MSI-X Enable there is none. -/
def State.msix (s : State) (q f v : Nat) : State :=
  if !(s.msixOn q f) then s
  else if s.flag (fMsixMask q f v) || s.msixAllMasked q f then s.set (fMsixPba q f v) 1
  else s.toHost q "msix" [q, f, v, (s.rd (msixLo q f v)).toNat, bitsOf (s.rd (msixHi q f v)) 31 0] []

/-- The status vector of a function (R475). -/
def State.statusVector (s : State) (q f : Nat) : State :=
  if s.flag (fIvecEnStat q f) then s.msix q f (s.get (fIvecVStat q f)) else s

/-- The port's state changed: every function's status vector fires. -/
def State.portChanged (s : State) (q : Nat) : State := (List.range 17).foldl (fun s f => s.statusVector q f) s

def srcEvp : Nat := 0
def srcEvn : Nat := 1
def srcFlt : Nat := 2
def srcCq (i : Nat) : Nat := 4 + i

def armKey (f src : Nat) : Nat := 2048 * f + src

def State.arm (s : State) (q f src : Nat) : State :=
  s.modHost q (fun h => if h.armed.contains (armKey f src) then h else { h with armed := h.armed ++ [armKey f src] })

def State.disarm (s : State) (q f src : Nat) : State :=
  s.modHost q (fun h => { h with armed := h.armed.filter (fun x => x != armKey f src) })

def State.isArmed (s : State) (q f src : Nat) : Bool := (s.host q).armed.contains (armKey f src)

/-- The consumer pointer of a tenant's queue advanced: its function's source is armed again (R474). -/
def State.armFor (s : State) (u src : Nat) : State :=
  if 16 ≤ u then s
  else match s.bindingOf u with
    | some (q, f) => s.arm q f src
    | none => s

/-! ## Queue pairs (R464, R469 to R471) -/

def State.pair (s : State) (q f i : Nat) : QPair := smGetD (s.host q).pairs QPair.init (256 * f + i)
def State.modPair (s : State) (q f i : Nat) (g : QPair → QPair) : State :=
  s.modHost q (fun h => { h with pairs := smInsert h.pairs (256 * f + i) (g (s.pair q f i)) })

def State.sqDepth (s : State) (q f i : Nat) : Nat := 2 ^ s.get (fSqK q f i)
def State.cqDepth (s : State) (q f i : Nat) : Nat := 2 ^ s.get (fCqK q f i)

/-- The CQ has room (R471). -/
def State.cqRoom (s : State) (q f i : Nat) : Bool :=
  let p := s.pair q f i
  decide ((p.cqTail + 1) % s.cqDepth q f i ≠ p.cqHead)

/-- Entries that the host has not read. -/
def State.cqUnread (s : State) (q f i : Nat) : Nat :=
  let p := s.pair q f i
  (p.cqTail + s.cqDepth q f i - p.cqHead) % s.cqDepth q f i

/-! ## The host's memory (R451, R476) -/

/-- The 4 KiB pages of a run of host memory. -/
def pagesOf (a n : Nat) : List Nat := (List.range ((a + n + 4095) / 4096 - a / 4096)).map (fun i => a / 4096 + i)

/-- Cached translations after a use of host pages (09 R332): at most 1,024, tagged by function. A page without a usable
translation is kept as such, and accessed untranslated until an invalidation covers it. A translation whose request the host
answers with an error is dropped. -/
def HostTile.cache (h : HostTile) (f : Nat) (used : List Nat) (g : Translations) : HostTile :=
  let new := (used.map (fun p => (f, p))).filter (fun x => !(h.atc.contains x) && !(h.noTr.contains x))
  let atc := (h.atc ++ new.filter (fun x => g.got.contains x.2)).filter (fun x =>
    !(x.1 == f && used.contains x.2 && g.refused.contains x.2))
  { h with atc := atc.drop (atc.length - 1024), noTr := h.noTr ++ new.filter (fun x => !(g.got.contains x.2)) }

/-- A function with ATS enabled asks for the translations of the pages that an access uses; one without asks for none. -/
def State.hostPages (s : State) (q f a n : Nat) (got : Option Translations) : State :=
  if s.atsOn q f then s.modHost q (fun h => h.cache f (pagesOf a n) (got.getD ⟨[], []⟩)) else s

/-- The address type of a request: 2 translated, 0 untranslated (R476). -/
def State.atOf (s : State) (q f a : Nat) : Nat := if s.atsOn q f ∧ (s.host q).atc.contains (f, a / 4096) then 2 else 0

/-- The reads of a run of host memory: pieces of at most 512 bytes, under tags below 512, so that at most 512 are outstanding
(R451). A request that the host refuses as translated is repeated once untranslated (R476). Arguments: tile, function, tag,
address, bytes, address type. -/
def State.hostReads (s : State) (q f a n : Nat) (got : Option Translations) : State :=
  (cutParts 512 a n).zipIdx.foldl (fun s x =>
    let r (at_ : Nat) (s : State) : State := s.toHost q "host-read" [q, f, x.2 % 512, x.1.1, x.1.2, at_] []
    if s.atsOn q f ∧ (got.getD ⟨[], []⟩).refused.contains (x.1.1 / 4096) then r 0 (r 2 s) else r (s.atOf q f x.1.1) s) s

/-- The writes of a run of host memory, in pieces of at most 512 bytes (R451). Arguments: tile, function, address, address type. -/
def State.hostWrites (s : State) (q f a : Nat) (bs : List Byte) : State :=
  (cutParts 512 a bs.length).foldl (fun s p =>
    s.toHost q "host-write" [q, f, p.1, s.atOf q f p.1] ((bs.drop (p.1 - a)).take p.2)) s

/-- The completions of an inbound read: at most 512 bytes each, split on boundaries of 64 bytes (R451). -/
def State.readAnswer (s : State) (q f off : Nat) (bs : List Byte) : State :=
  (cutParts 512 off bs.length).foldl (fun s p =>
    s.answerHost q "host-read-data" [q, f, p.1] ((bs.drop (p.1 - off)).take p.2)) s

/-- Writes one entry of a CQ with room (R470). -/
def State.pushCq (s : State) (q f i : Nat) (cut : Bool) (cid status cause : Nat) (result : Word) : State :=
  let p := s.pair q f i
  let d := s.cqDepth q f i
  let w0 := packW [(1, 0), (2, 8), (i, 16), (if p.phase then 1 else 0, 24), (if cut then 1 else 0, 25), (cid, 32),
    (status, 48), (cause, 56)]
  let a := 4096 * s.get (fCqBase q f i) + 16 * p.cqTail
  let s := s.emit "cq-entry" [q, f, i, a, s.atOf q f a] (bytesLE 8 w0.toNat ++ bytesLE 8 result.toNat)
  s.modPair q f i (fun p => { p with
    cqTail := (p.cqTail + 1) % d, phase := if p.cqTail + 1 = d then !p.phase else p.phase })

/-- Disables every queue of a function and sets heads and tails to 0. The commands that it holds are discarded; those that
have started complete on the device side, and what they would send to the host is discarded (R454, R477, R483). -/
def State.resetQueues (s : State) (q f : Nat) : State :=
  let s := (List.range (fnQueues f)).foldl (fun s i =>
    ((s.set (fSqEn q f i) 0).set (fCqEn q f i) 0).set (fSqHead q f i) 0) s
  s.modHost q (fun h => { h with
    pairs := h.pairs.filter (fun x => x.1 / 256 != f)
    cutDue := h.cutDue.filter (fun x => x.1 != f)
    cmds := (h.cmds.filter (fun c => !(c.f == f && c.hold))).map (fun c => if c.f = f then { c with mute := true } else c) })

/-- A function's MSI-X table, its pending bits and HEP_IVEC as after reset; no source is armed (R477). -/
def State.clearVectors (s : State) (q f : Nat) : State :=
  let lo := hepKey q f 0x20000
  ({ s with regs := s.regs.filter (fun x => !(decide (lo ≤ x.1 ∧ x.1 < lo + 0x8100)) && x.1 != hepIvec q f) }).modHost q (fun h =>
    { h with armed := h.armed.filter (fun k => k / 2048 != f) })

/-! ## Faults of a host access (R461; 09 R321, R327) -/

def State.hostFault (s : State) (q f u : Nat) (need : Need) (e : ExtFail) : State :=
  if e.cause = 0 then s
  else
    s.fault u false
      { cause := e.cause, src := 0x2, ctx := u, parked := false, more := e.more, task := 0, faddr := e.v, acc := need.acc,
        aux := if e.cause = 0x06 ∨ e.cause = 0x07 then e.reached else 0, who := f + q * 2 ^ 5, d0 := 0, d1 := 0 }

/-! ## Sealed windows (14 R504 to R507) -/

/-- The sealed window of tenant u that holds a DVA. -/
def State.sealWindow (s : State) (u v : Nat) : Option Nat :=
  (List.range 8).find? (fun i => s.flag (fSealValid u i)
    && decide (4096 * s.get (fSealDva u i) ≤ v ∧ v < 4096 * (s.get (fSealDva u i) + s.get (fSealPages u i))))

/-- The lowest byte of a run that lies in a locked window. -/
def State.lockedAt (s : State) (u v n : Nat) : Option Nat :=
  ((pageParts (n / 4096 + 2) v n).find? (fun p => match s.sealWindow u p.1 with
    | some i => s.flag (fSealLocked u i)
    | none => false)).map Prod.fst

/-- Applies the windows' cipher to the bytes at a DVA, in either direction (R505, R506). -/
def State.sealBytes (s : State) (u v : Nat) (bs : List Byte) : List Byte :=
  bs.zipIdx.map (fun x =>
    let a := v + x.2
    match s.sealWindow u a with
    | none => x.1
    | some i => match smLookup s.sealKeys (8 * u + i) with
      | none => x.1
      | some (key, iv) =>
        let cb := iv % 2 ^ 52 * 2 ^ 76 + s.get (fSealGen u i) * 2 ^ 44 + a / 16 % 2 ^ 44
        x.1 ^^^ BitVec.ofNat 8 (Config.sm4Block key cb / 2 ^ (8 * (15 - a % 16))))

/-- What stops a host access before its first byte: a locked window, the whole-extent check, an absent core (09 R320 cause
0x08). -/
def State.hostCheck (s : State) (u : Nat) (need : Need) (v n : Nat) : Option ExtFail :=
  match s.lockedAt u v n with
  | some a => some ⟨0x06, a, (s.translate u a).getD 0, false⟩
  | none =>
    if need = .atomic ∧ (s.sealWindow u v).isSome then some ⟨0x06, v, (s.translate u v).getD 0, false⟩
    else match s.extCheck u need v n with
      | some e => some e
      | none =>
        ((pageParts (n / 4096 + 2) v n).find? (fun p =>
          match s.place ((s.translate u p.1).getD 0) with
          | .core c _ => s.noCore c
          | _ => false)).map (fun p => ⟨0x08, p.1, 0, false⟩)

/-! ## Sessions (14 R500, R507, R508) -/

/-- A window is locked: its key is erased, and event 0x71 tells why. -/
def State.lockWindow (s : State) (u i reason : Nat) : State :=
  if u < 16 ∧ s.flag (fSealValid u i) ∧ !(s.flag (fSealLocked u i)) then
    let s := (s.set (fSealLocked u i) 1).raiseTenancy u 0x71 (packW [(i, 0), (reason, 8)])
    { s with sealKeys := smErase s.sealKeys (8 * u + i) }
  else s

/-- Ends a session: every window that it opened is locked; reason 1 ended, 2 port left up, 3 reset. -/
def State.endSession (s : State) (sid reason : Nat) : State :=
  let mine := (s.sec.opener.filter (fun x => x.2 == sid)).map Prod.fst
  let s := mine.foldl (fun s k => s.lockWindow (k / 8) (k % 8) reason) s
  { s with sec := { s.sec with
    sessions := s.sec.sessions.filter (fun y => y.id != sid), opener := s.sec.opener.filter (fun x => x.2 != sid) } }

/-- Every session on DOE of host tile q, or on MCTP for q = 4, ends. -/
def State.endPortSessions (s : State) (q reason : Nat) : State :=
  (s.sec.sessions.filter (fun x => x.port == q)).foldl (fun s x => s.endSession x.id reason) s

/-! ## The recovery buffer (16 R546) -/

/-- HEP_RECOV shows which host tile holds the buffer. -/
def State.showRecov (s : State) : State :=
  (List.range 4).foldl (fun s q =>
    (s.setB (fRecOwn q) (decide (s.recHold = some q))).setB (fRecOther q) (s.recHold.isSome && decide (s.recHold ≠ some q))) s

/-- The buffer's contents become unspecified. -/
def State.blankBuf (s : State) : State :=
  { s with cro := { s.cro with recBuf := [], recSeed := s.freeCtr }, freeCtr := s.freeCtr + 2 ^ 23 }

/-- The holder releases the buffer. -/
def State.releaseBuf (s : State) : State := ({ s.blankBuf with recHold := none }).showRecov

/-- A byte of the buffer. -/
def State.bufByte (s : State) (o : Nat) : Byte := (smLookup s.cro.recBuf o).getD (Config.freeByte (s.cro.recSeed + o))

/-! ## The port (R479 to R485) -/

/-- Tenants bound to a function of host tile q. -/
def State.portTenants (s : State) (q : Nat) : List Nat := ((List.range 17).filterMap (fun f => s.boundTo q f)).eraseDups

/-- An event of the port, with the counts since it left up (R482). -/
def State.portEvent (s : State) (q type trig : Nat) : State :=
  let d := packW [(min (s.host q).lostSum 0xFFFF, 0), (min (s.host q).absorbedSum 0xFFFF, 16)]
  let x := [(trig, 29), (q, 32)]
  (s.portTenants q).foldl (fun s u => s.raiseX u type x d) (s.raiseX 16 type x d)

/-- The port enters frozen (R480): what was on its way, in both directions, is counted, and so are the finished commands
whose entries are discarded. -/
def State.freezePort (s : State) (q trig lost absorbed : Nat) : State :=
  let due := ((s.host q).cmds.filter (fun c => c.fin.isSome && !c.mute)).length + (s.host q).cutDue.length
  let s := s.modHost q (fun h => { h with
    quiescing := false, atc := [], noTr := [], cutDue := [], lostSum := 0, absorbedSum := 0
    cmds := h.cmds.map (fun c => { c with mute := true }) })
  let s := ((s.lose q (lost + due)).absorbAt q absorbed).set (fPortState q) 3
  let s := if s.recHold = some q then s.releaseBuf else s
  -- a Function Level Reset ends with the link (R487)
  let s := (List.range 17).foldl (fun s f => s.set (fFstFlr q f) 0) s
  ((s.portEvent q 0x60 trig).endPortSessions q 2).portChanged q

end Sys2Proof.Machine
end

