-- ==== Sys2Proof/Machine/DmaUnit.lean ====
section
/-! DEFINITION. DMA commands: the descriptor and its checks, the queue, the whole-extent check, the chunks, completion
(02 R69 to R74; 04 R146 to R152; 09 R310 to R320). -/

namespace Sys2Proof.Machine

def opFill : Nat := 1
def opDrain : Nat := 2
def opCopy : Nat := 3
def opZero : Nat := 4

/-- A P-space side of a descriptor: 64-byte aligned, in the issuing tile, at a core (R149). -/
def pSideOk (tile a : Nat) : Bool :=
  decide (a % 64 = 0 ∧ 0x100000000000 ≤ a ∧ (a - 0x100000000000) / 2 ^ 29 = tile ∧ a / 2 ^ 22 % 128 < 80
    ∧ a / 2 ^ 15 % 128 < 80)

/-- The command of a descriptor's 32 bytes, or none where a check of R149 fails; the missing fields of a short descriptor
read 0, and fail it (R149, 00 R13). -/
def parseDma (core : Nat) (task : Option Nat) (off : Nat) (raw : List Byte) : Option Dma :=
  let ver := (raw.getD 0 0).toNat
  let len := (raw.getD 1 0).toNat
  let b (i : Nat) : Nat := (raw.getD i 0).toNat
  let num (i n : Nat) : Nat := ((List.range n).map (fun j => b (i + j) * 2 ^ (8 * j))).foldl (· + ·) 0
  let op := b 2 % 16
  let rowb := num 4 4
  let rows := num 8 2
  let stride := num 12 4
  let src := num 16 8
  let dst := num 24 8
  let tile := coreTile core
  let dvas := (if op = opFill ∨ op = opCopy then [src] else []) ++ (if op = opFill then [] else [dst])
  if ver = 0 ∨ len < 4 ∨ op = 0 ∨ 4 < op ∨ b 2 / 16 ≠ 0 ∨ b 3 / 16 ≠ 0 ∨ num 10 2 ≠ 0 ∨ 2 ^ 48 ≤ src ∨ 2 ^ 48 ≤ dst
      ∨ (op = opZero ∧ src ≠ 0) ∨ rowb = 0 ∨ rowb % 256 ≠ 0 ∨ rows = 0 ∨ 2 ^ 24 < rowb * rows
      ∨ (1 < rows ∧ (stride % 256 ≠ 0 ∨ stride < rowb)) ∨ dvas.any (fun v => v % 256 != 0)
      ∨ (op = opFill ∧ !pSideOk tile dst) ∨ (op = opDrain ∧ !pSideOk tile src) then none
  else
    some { core := core, task := task, off := off, op := op, ctr := b 3 % 16, rowb := rowb, rows := rows, stride := stride,
           src := src, dst := dst, st := .queued, done := 0, retried := false, maps := [] }

def Dma.total (d : Dma) : Nat := d.rowb * d.rows

/-- The strided side: the source of FILL and COPY, the destination of DRAIN and ZERO (R147). -/
def Dma.strideSrc (d : Dma) : Bool := d.op == opFill || d.op == opCopy

/-- The address of byte `p` of a side. -/
def Dma.addrOf (d : Dma) (source : Bool) (p : Nat) : Nat :=
  let base := if source then d.src else d.dst
  if d.strideSrc = source ∧ 1 < d.rows then base + p / d.rowb * d.stride + p % d.rowb else base + p

/-- The byte runs of a side. -/
def Dma.runs (d : Dma) (source : Bool) : List (Nat × Nat) :=
  let base := if source then d.src else d.dst
  if d.strideSrc = source ∧ 1 < d.rows then (List.range d.rows).map (fun r => (base + r * d.stride, d.rowb))
  else [(base, d.total)]

/-- The P-space side, where there is one. -/
def Dma.pSide (d : Dma) : Option Nat :=
  if d.op = opFill then some d.dst else if d.op = opDrain then some d.src else none

/-- Needs of the DVA sides: side (true: source) and right (R309). -/
def Dma.dvaSides (d : Dma) : List (Bool × Need) :=
  if d.op = opFill then [(true, .read)] else if d.op = opDrain then [(false, .write)]
  else if d.op = opCopy then [(true, .read), (false, .write)] else [(false, .write)]

/-- Whether a side is a DVA side. -/
def Dma.isDva (d : Dma) (source : Bool) : Bool := d.dvaSides.any (fun x => x.1 == source)

/-- The device address of DVA `v` under the command's snapshot. -/
def Dma.mapped (d : Dma) (v : Nat) : Nat :=
  match d.maps.find? (fun m => decide (m.1 ≤ v ∧ v < m.2.1)) with
  | some m => m.2.2 + (v - m.1)
  | none => v

/-- The device address of byte `p` of a side under the command's snapshot. -/
def Dma.device (d : Dma) (source : Bool) (p : Nat) : Nat := d.mapped (d.addrOf source p)

/-- The runs of a side by device address: the pages of a DVA side under the snapshot; a P-space side as it stands. -/
def Dma.devRuns (d : Dma) (source : Bool) : List (Nat × Nat) :=
  if d.isDva source then
    (d.runs source).flatMap (fun r => (pageParts (r.2 / 4096 + 2) r.1 r.2).map (fun p => (d.mapped p.1, p.2)))
  else d.runs source

/-- Every byte that a command reads or writes, by device address. -/
def Dma.extent (d : Dma) : List (Nat × Nat) := (if d.op = opZero then [] else d.devRuns true) ++ d.devRuns false

/-- The command touches a byte of the `n` from device address `a` on. -/
def Dma.touches (d : Dma) (a n : Nat) : Bool := d.extent.any (fun r => extOverlap r (a, n))

/-- Commands of a core that still hold a place of its queue (R70). -/
def State.dmaOf (s : State) (c : Nat) : List (Nat × Dma) := s.dma.filter (fun d => d.2.core == c)

/-- An earlier instruction of core `c` has yet to write bytes of the command's P-space source: a queued TST, a RECV, or a
message on its way (07 R237). -/
def State.sourceOpen (s : State) (c : Nat) (d : Dma) : Bool :=
  d.op == opDrain &&
    (let lo := d.src % 2 ^ 15
     let k := (d.src - 0x100000000000) / 2 ^ 15
     let e : Ext := (lo, d.total)
     (k == c && !((s.core c).extFree [e] []))
       || s.net.any (fun x => x.2.src == c && (match x.2.kind with
          | .recvReq | .recvData => k == c && extOverlap e (x.2.lofs, x.2.len)
          | .send | .atomAdd | .atomSwap | .atomCas | .atomOr => x.2.dst == k && extOverlap e (x.2.roff, x.2.len)
          | _ => false)))

/-- DMA, the one instruction behind the four rows: the descriptor at s[a] is checked and queued (R148, R149). A row whose
operation is not the descriptor's has no cause and changes nothing. DESIGN CHOICE (log 91): a descriptor that lies in an
uncorrectable word is judged by the bytes stored there before the poison is looked for. -/
def State.dmaIssue (s : State) (c : Nat) (a : Fin 32) (op : Nat) : State :=
  s.issue c [a] [] (fun k =>
    let w := k.sreg a
    let o := w.toNat
    if bitsOf w 63 15 ≠ 0 then s.raiseSync c 0x02 o
    else if o % 32 ≠ 0 then s.raiseSync c 0x03 o
    else if !(k.extFree [(o, 32)] []) then s
    else match parseDma c k.task o (s.spadBytes c o 32) with
      | none => s.raiseSync c 0x09 o
      | some d =>
        if d.op ≠ op then s
        else match s.spadPoison c o 32 with
          | some p => s.raiseSync c 0x05 p
          | none =>
            if decide (4 ≤ (s.dmaOf c).length) || s.sourceOpen c d then s
            else ({ s with dma := s.dma ++ [(s.nextId, d)], nextId := s.nextId + 1 }).retire c)

def execDmaFill (c : Nat) (a : Fin 32) (s : State) : Out := .next (s.dmaIssue c a opFill)
def execDmaDrain (c : Nat) (a : Fin 32) (s : State) : Out := .next (s.dmaIssue c a opDrain)
def execDmaCopy (c : Nat) (a : Fin 32) (s : State) : Out := .next (s.dmaIssue c a opCopy)
def execDmaZero (c : Nat) (a : Fin 32) (s : State) : Out := .next (s.dmaIssue c a opZero)

/-- The group's cores that take part in its barriers and its end: those that exist (02 R75). -/
def State.present (s : State) (k : Nat) : List Nat := (s.group k).filter (fun c => !(s.absent c))

/-- Every command of the core has completed or been refused (R148, R155). -/
def State.dmaDone (s : State) (c : Nat) : Bool := (s.dmaOf c).all (fun d => decide (d.2.st = DmaState.refused))

def execFenceD (c : Nat) (s : State) : Out :=
  .next (s.issue c [] [] (fun _ => if s.dmaDone c then s.retire c else s))

/-! ## The whole-extent check (09 R316 to R319) -/

def State.dmaGet (s : State) (id : Nat) : Option Dma := smLookup s.dma id
def State.dmaPut (s : State) (id : Nat) (d : Dma) : State := { s with dma := smInsert s.dma id d }
def State.dmaDrop (s : State) (id : Nat) : State := { s with dma := smErase s.dma id }

/-- The translation context of a tile's stack controller (R305). -/
def State.tileCtx (s : State) (t : Nat) : Option Nat := s.tileOwner t

/-- The fault record of a refused command (R321). -/
def Dma.faultInfo (d : Dma) (ctx cause : Nat) (parked more : Bool) (faddr acc aux : Nat) : FaultInfo :=
  { cause := cause, src := 0x1, ctx := ctx, parked := parked, more := more, task := d.task.getD 0, faddr := faddr,
    acc := acc, aux := aux, who := d.core + d.off * 2 ^ 20, d0 := packW [(d.rowb, 0), (d.rows, 32), (d.op, 48)],
    d1 := packW [(d.stride, 0)] }

/-- Every core of task k's group has reported TEND and owes no command: the task is Done, unless a refused command parks it
(R155; 09 R330: a command reissued to a core that has ended is awaited). -/
def State.doneWhenEnded (s : State) (k : Nat) : State :=
  if (s.tstate k = tsRunning ∨ s.tstate k = tsCarried) ∧ !((s.task k).mustPark)
      ∧ (s.present k).all (fun d => decide ((s.core d).task = some k ∧ (s.core d).mode = .ended) && s.dmaDone d) then
    s.setTstate k tsDone
  else s

/-- The device address lies in a partition that a reset has fenced (11 R392). -/
def State.fencedAt (s : State) (a : Nat) : Bool :=
  match s.place a with
  | .stack t _ => (s.tileOwner t).any s.fencedTen.contains
  | .core c _ => (s.coreTenant c).any s.fencedTen.contains
  | _ => false

/-- A core of a partition under reset injects nothing new (11 R392). -/
def State.fencedCore (s : State) (c : Nat) : Bool := (s.coreTenant c).any s.fencedTen.contains

/-- A command is refused, or ends by a fault: nothing more moves, no counter advances, its record is due and its task
parks (R150, R151, R311). A task that is already stopped keeps the fault; one that is Aborted parks no more. -/
def State.dmaFault (s : State) (id : Nat) (d : Dma) (cause : Nat) (more : Bool) (faddr acc aux : Nat) : State :=
  let u := (s.tileOwner (coreTile d.core)).getD 0
  let ctx := if cause = 0x08 then 0x1F else u
  -- a command that meets the fence of a partition under reset is a request absorbed there (16 R554, R555)
  let s := if cause = 0x06 ∧ s.fencedAt aux then s.absorb else s
  match d.task with
  | none => (s.dmaDrop id).fault u true (d.faultInfo ctx cause false more faddr acc aux)
  | some k =>
    let st := s.tstate k
    if st = tsRunning ∨ st = tsCarried then
      ((s.dmaPut id { d with st := .refused, done := 0, maps := [] }).taskFault u k
        (d.faultInfo ctx cause true more faddr acc aux)).modTask k (fun t => { t with mustPark := true })
    else if st = tsParked then
      let s := s.taskFault u k (d.faultInfo ctx cause true more faddr acc aux)
      if (s.task k).discarded then s.dmaDrop id else s.dmaPut id { d with st := .refused, done := 0, maps := [] }
    else
      -- a task that a partition reset has discarded holds no pending record (R335)
      (s.dmaDrop id).fault u true (d.faultInfo ctx cause false more faddr acc aux)
        (if s.fencedTen.contains (s.tdTenant k) then none else some k)

/-- Every failing run of a command's DVA sides. -/
def State.dmaFails (s : State) (d : Dma) : List FailRun :=
  d.dvaSides.flatMap (fun x =>
    let base := if x.1 then d.src else d.dst
    match s.tileCtx (coreTile d.core) with
    | some u => s.failRuns u x.2 true base (d.runs x.1)
    | none => (d.runs x.1).map (fun r => ⟨r.1, r.2, 0x01, 0, base, x.2⟩))

/-- The entries that a command's extents meet: its snapshot (R314). -/
def State.dmaMaps (s : State) (d : Dma) : List (Nat × Nat × Nat) :=
  match s.tileCtx (coreTile d.core) with
  | none => []
  | some u => (List.range 128).filterMap (fun e =>
      match s.trnEntry u e with
      | some x =>
        if d.dvaSides.any (fun y => (d.runs y.1).any (fun r => decide (r.1 < x.hi ∧ x.lo < r.1 + r.2)))
        then some (x.lo, x.hi, x.tgt) else none
      | none => none)

/-- The P-space side's own failure: an absent core, or the end of the scratchpad (R74, R150). Sides are aligned to 64 bytes,
so that it never concerns a single byte (R319). -/
def State.pFail (s : State) (d : Dma) : Option (Nat × Nat) :=
  match d.pSide with
  | none => none
  | some a =>
    let c := (a - 0x100000000000) / 2 ^ 15
    if s.absent c then some (0x08, a)
    else if 2 ^ 15 < a % 2 ^ 15 + d.total then some (0x0A, a)
    else none

/-- An earlier command of the core has not been checked yet: checks go in issue order (R318). -/
def State.earlierUnchecked (s : State) (id c : Nat) : Bool :=
  s.dma.any (fun x => decide (x.1 < id) && x.2.core == c && decide (x.2.st = DmaState.queued))

/-- A stack that the snapshot reaches admits no new command now: a thermal hold (08 R281), or a granule whose retirement
is in progress (08 R301). -/
def State.dmaHeld (s : State) (maps : List (Nat × Nat × Nat)) (runs : List (Nat × Nat)) : Bool :=
  runs.any (fun r => (pageParts (r.2 / 4096 + 2) r.1 r.2).any (fun p =>
    match maps.find? (fun m => decide (m.1 ≤ p.1 ∧ p.1 < m.2.1)) with
    | none => false
    | some m =>
      match s.place (m.2.2 + (p.1 - m.1)) with
      | .stack t a => s.flag (fStkHold t) || (List.range 256).any (fun k => s.flag (fRetFill t k)
          && (decide (s.get (fRetRetired t k) = a / 2 ^ 20) || decide (s.get (fRetRepl t k) = a / 2 ^ 20)))
      | _ => false))

/-- DMA_EXTENT_CHECK: command `id` is admitted with its snapshot, or refused (R316, R319; 02 R45 for a fenced core); the safe
state admits none (16 R551). -/
def execDmaExtentCheck (id : Nat) (s : State) : Out :=
  .next (match s.dmaGet id with
    | none => s
    | some d =>
      if d.st ≠ .queued ∨ s.earlierUnchecked id d.core ∨ s.inSafe ∨ s.fencedCore d.core then s
      else
        match d.pSide with
        | some a =>
          let c := (a - 0x100000000000) / 2 ^ 15
          if (s.core c).fenced ∧ !(s.absent c) then
            ((s.dmaDrop id).recordMsgErr d.core 0x3 c).addAsync d.core 0x06 (packW [(c, 0), (0x3, 44)])
          else check id d
        | none => check id d)
where
  check (id : Nat) (d : Dma) : State :=
    let fails := s.dmaFails d
    match lowestRun fails with
    | some r =>
      let more := decide (1 < failBytes fails) || (s.pFail d).isSome
      s.dmaFault id d r.cause more r.v r.need.acc (if r.cause = 0x06 then r.reached else r.base)
    | none =>
      match s.pFail d with
      | some x => s.dmaFault id d x.1 true x.2 (if d.op = opFill then 2 else 1) 0
      | none =>
        let maps := s.dmaMaps d
        if s.dmaHeld maps (d.dvaSides.flatMap (fun y => d.runs y.1)) then s
        else s.dmaPut id { d with st := .admitted, maps := maps }

/-! ## Moving (02 R71; 04 R151) -/

/-- What ends a move partway: cause, address for faddr, access, device address reached. -/
abbrev MoveFail := Nat × Nat × Nat × Nat

/-- Reads the 256-byte unit at position `p` of the source; `odata` is what an open site answers for its window. -/
def State.dmaReadUnit (s : State) (d : Dma) (p : Nat) (odata : List Byte) : State × Except (MoveFail × List Byte) (List Byte) :=
  if d.op = opZero then (s, .ok (List.replicate 256 0))
  else if d.isDva true then
    let v := d.addrOf true p
    let a := d.device true p
    if s.gone a then (s, .error ((0x06, v, 1, a), []))
    else match s.place a with
      | .stack t o =>
        let r := s.readBurst (s.stackKey t o) 0x1
        match r.2 with
        | some bs => (r.1, .ok bs)
        | none => (r.1, .error ((0x07, v, 1, a), []))
      | .window k o =>
        if s.windowBytes k < o + 256 then (s, .error ((0x06, v, 1, a), []))
        else (s.windowSend k o 256 false [], .ok ((List.range 256).map (fun i => odata.getD i 0)))
      | _ => (s, .ok ((List.range 256).map (fun i => odata.getD i 0)))
  else
    let a := d.addrOf true p
    let c := (a - 0x100000000000) / 2 ^ 15
    let o := a % 2 ^ 15
    if s.absent c then (s, .error ((0x08, a, 1, 0), []))
    else match s.spadPoison c o 256 with
    | some w => (s.poisonEvent (spadAddr c w),
        .error ((0x07, spadAddr c w, 1, spadAddr c w), s.spadBytes c o ((w - o) / 64 * 64)))
    | none => (s, .ok (s.spadBytes c o 256))

/-- Writes bytes (at most 256) at position `p` of the destination. -/
def State.dmaWriteUnit (s : State) (d : Dma) (p : Nat) (bs : List Byte) : State × Option MoveFail :=
  if d.isDva false then
    let v := d.addrOf false p
    let a := d.device false p
    if s.gone a then (s, some (0x06, v, 2, a))
    else match s.place a with
      | .stack t o =>
        let r := s.putPart (s.stackKey t o) bs
        if r.2 then (r.1, none) else (r.1, some (0x07, v, 2, a))
      | .window k o =>
        if s.windowBytes k < o + bs.length then (s, some (0x06, v, 2, a))
        else (s.windowSend k o bs.length true bs, none)
      | _ => (s, none)
  else
    let a := d.addrOf false p
    let c := (a - 0x100000000000) / 2 ^ 15
    if s.absent c then (s, some (0x08, a, 2, 0)) else (s.setSpad c (a % 2 ^ 15) bs, none)

/-- Moves `n` units from position `p`; the failure that ends the move. -/
def State.dmaMove (s : State) (d : Dma) : Nat → Nat → List Byte → State × Option MoveFail
  | 0, _, _ => (s, none)
  | n + 1, p, odata =>
    match s.dmaReadUnit d p odata with
    | (s, .ok bs) =>
      match s.dmaWriteUnit d p bs with
      | (s, none) => State.dmaMove s d n (p + 256) (odata.drop 256)
      | r => r
    | (s, .error x) => ((if x.2.isEmpty then s else (s.dmaWriteUnit d p x.2).1), some x.1)

/-- Cores of a tile that have an admitted command with bytes left, by rising address. -/
def State.dmaCores (s : State) (t : Nat) : List Nat :=
  let l := (s.dma.filter (fun d => decide (d.2.st = DmaState.admitted) && coreTile d.2.core == t)).map (fun d => d.2.core)
  l.foldl (fun a c => (a.filter (· < c)) ++ [c] ++ a.filter (fun x => decide (c < x))) []

/-- The core that the round robin serves next (R71). -/
def State.nextDmaCore (s : State) (t : Nat) : Option Nat :=
  let l := s.dmaCores t
  match smLookup s.dmaLast t with
  | none => l.head?
  | some c => match l.find? (fun x => decide (c < x)) with
    | some x => some x
    | none => l.head?

/-- The command that a core's turn advances. R70 lets commands of disjoint addresses complete in any order; DESIGN CHOICE
(log 91): a turn advances the oldest admitted one. -/
def State.dmaFront (s : State) (c : Nat) : Option (Nat × Dma) :=
  s.dma.find? (fun d => d.2.core == c && decide (d.2.st = DmaState.admitted))

/-- The chunk touches a stack or window of another site, so that it travels on the hub (R73). -/
def State.dmaRemote (s : State) (d : Dma) (p n : Nat) : Bool :=
  [true, false].any (fun side => d.isDva side && (List.range n).any (fun i =>
    match s.place (d.device side (p + 256 * i)) with
    | .stack t _ => t != coreTile d.core
    | .window _ _ => true
    | _ => false))

/-- The chunk meets a channel that holds accesses (08 R281 lets commands in progress finish; 08 R285, R303), or a guest of
whose credits the hub holds none (12 R429). -/
def State.dmaWaits (s : State) (d : Dma) (p n : Nat) : Bool :=
  [true, false].any (fun side => d.isDva side && (List.range n).any (fun i =>
    match s.place (d.device side (p + 256 * i)) with
    | .stack t o =>
      let key := s.stackKey t o
      (s.stack t).held.contains (s.physCh key) || (!side && (match (s.stack t).repair with
        | some r => !r.layer && inUnit r key && (s.stack t).held.contains r.spare
        | none => false))
    | .window k _ => s.windowWaits k
    | _ => false))

/-- The local chunk that a tile's controller would move next can move (11 R409). -/
def State.localReady (s : State) (t : Nat) : Bool :=
  match (s.nextDmaCore t).bind s.dmaFront with
  | none => false
  | some x => !(s.dmaWaits x.2 x.2.done (min 16 ((x.2.total - x.2.done) / 256)))

/-- A remote request waits at the stack and can be served, and the controller has served a local chunk since the last one:
it is the remote request's turn (11 R409). -/
def State.remoteTurn (s : State) (t : Nat) : Bool :=
  s.hub.owed.any (fun o => o.res == some t) && !(s.hub.remoteLast.contains t) && !(s.flag (fStkHold t))
    && (s.stack t).held.isEmpty

/-- The units of a chunk that travel on the hub: source or destination, unit, the resource they go to, device address. -/
def State.remoteUnits (s : State) (d : Dma) (p n : Nat) : List (Bool × Nat × Nat × Nat) :=
  [true, false].flatMap (fun side => if !(d.isDva side) then [] else (List.range n).filterMap (fun i =>
    let a := d.device side (p + 256 * i)
    match s.place a with
    | .stack t _ => if t = coreTile d.core then none else some (side, i, t, a)
    | .window k _ => some (side, i, 0x30 + k, a)
    | _ => none))

/-- The service label that a command's packets carry (02 R73). -/
def State.dmaLabel (s : State) (d : Dma) : Nat := (d.task.map s.tdLabel).getD 0

/-- Every remote unit of a chunk takes its tokens under the task's label, or the chunk waits (02 R73; 11 R405). -/
def State.chunkTokens (s : State) (d : Dma) (units : List (Bool × Nat × Nat × Nat)) : Option State :=
  units.foldl (fun r x => r.bind (fun s => s.takeTokens (tileSite (coreTile d.core)) ((s.tileOwner (coreTile d.core)).getD 0)
    (s.dmaLabel d) false (!x.1) x.2.2.1 x.2.2.2 256)) (some s)

/-- The bulk requests of a chunk: two memory packets of at most 2,048 bytes for each remote side (02 R73; 11 R383). Arguments:
type, source site, resource, tenant, label, first device address, bytes. -/
def State.chunkPackets (s : State) (d : Dma) (units : List (Bool × Nat × Nat × Nat)) : State :=
  [(true, 0), (true, 1), (false, 0), (false, 1)].foldl (fun s h =>
    match units.filter (fun x => x.1 == h.1 && x.2.1 / 8 == h.2) with
    | [] => s
    | x :: l => s.emit "bulk-request" [if h.1 then 0x08 else 0x0A, tileSite (coreTile d.core), x.2.2.1,
        (s.tileOwner (coreTile d.core)).getD 0, s.dmaLabel d, x.2.2.2, 256 * (l.length + 1)] []) s

/-- DMA_CHUNK: the stack controller of tile `t` advances the next core's command by one 4 KiB chunk. `lost`: the hub
loses the chunk's payload, which is reissued once (11 R386). -/
def execDmaChunk (t : Nat) (lost : Bool) (odata : List Byte) (s : State) : Out :=
  .next (match (s.nextDmaCore t).bind s.dmaFront with
    | none => s
    | some (id, d) =>
      let n := min 16 ((d.total - d.done) / 256)
      if s.dmaWaits d d.done n ∨ s.remoteTurn t ∨ (s.fencedCore d.core && s.dmaRemote d d.done n) then s
      else match s.chunkTokens d (s.remoteUnits d d.done n) with
      | none => s
      | some sk =>
      if (s.stack t).slow && !((s.stack t).idled) then
        { s with dmaLast := smInsert s.dmaLast t d.core }.modStack t (fun k => { k with idled := true })
      else
        let s := (sk.chunkPackets d (s.remoteUnits d d.done n)).modStack t (fun k => { k with idled := false })
        let s := s.modHub (fun h => { h with remoteLast := h.remoteLast.filter (fun y => y != t) })
        let s := { s with dmaLast := smInsert s.dmaLast t d.core }
        if lost && s.dmaRemote d d.done n then
          if d.retried then
            let side := d.isDva true
            s.dmaFault id d 0x07 false (d.addrOf side d.done) (if side then 1 else 2) (d.device side d.done)
          else s.dmaPut id { d with retried := true }
        else
          match s.dmaMove d n d.done odata with
          | (s, none) =>
            let done := d.done + 256 * n
            s.dmaPut id { d with done := done, retried := false, st := if done = d.total then .moved else .admitted }
          | (s, some x) => s.dmaFault id d x.1 false x.2.1 x.2.2.1 x.2.2.2)

/-- Two commands touch a common byte of the device (R70). -/
def Dma.overlaps (d e : Dma) : Bool := d.extent.any (fun a => e.touches a.1 a.2)

/-- DMA_COMPLETE: the byte count is added to the counter on the issuing core (02 R72); commands of overlapping addresses
complete in issue order (02 R70). -/
def execDmaComplete (id : Nat) (s : State) : Out :=
  .next (match s.dmaGet id with
    | none => s
    | some d =>
      if d.st ≠ .moved ∨ (s.dmaOf d.core).any (fun e => decide (e.1 < id ∧ e.2.st ≠ DmaState.refused)
          && e.2.overlaps d) then s
      else
        let s := s.dmaDrop id
        let s := if d.task = (s.core d.core).task then s.countUp d.core (ctrFin d.ctr) d.total else s
        -- a command reissued to a core that has ended was all that its task waited for
        match d.task with
        | some k => if (s.core d.core).mode = .ended then s.doneWhenEnded k else s
        | none => s)

end Sys2Proof.Machine
end

