-- ==== Sys2Proof/Machine/Sequencer.lean ====
section
/-! DEFINITION. Commands of the tick sequencer: the tick, its program, binding, stops, commits, loads, slots (10 R337 to
R372). The clock moves only when the package has no command to carry out; the commands at a moment of the tick act once
that moment has come. -/

namespace Sys2Proof.Machine

/-! ## Values that wait for a boundary (R337, R338, R360; 01 R30; 06 R224; 11 R404) -/

/-- The sequencer ticks. -/
def State.ticking (s : State) : Bool := decide (s.get fTsqPhase ≠ 5)

/-- The cap in force at a site (01 R30). -/
def State.capOf (s : State) (n : Nat) : Nat := smGetD s.caps (bitsOf (regReset (siteCfg n)) 47 40) n

/-- Caps, floors and label parameters as written come into force. -/
def State.applyRegs (s : State) : State :=
  { s with
    caps := (List.range 64).foldl (fun l n =>
      smSetD l (bitsOf (regReset (siteCfg n)) 47 40) n (s.get (fSitePwrCap n))) s.caps
    floors := (List.range 16).foldl (fun l p => smSetD l 0x55 p ((s.rd (grdFloor p)).toNat % 256)) s.floors
    labels := (List.range 8).foldl (fun l i => smSetD l (regReset (slrCfg i)) i (s.rd (slrCfg i))) s.labels }

/-- While the sequencer is stopped, a cap, floor or label parameter is in force as soon as it is written (R338). -/
def State.settleRegs (s : State) : State := if s.ticking then s else s.applyRegs

/-- Accepted period, step, margin and bank come into force. -/
def State.applyPending (s : State) : State :=
  let q := s.seq
  let s := match q.pendPeriod with
    | some (T, G) => (s.set fTsqT T).set fTsqGuard G
    | none => s
  let s := match q.pendCfg with
    | some (m, st) => (s.set fTsqMargin m).set fTsqStep st
    | none => s
  let s := if q.swapOk then (s.set fTsqBank (1 - s.get fTsqBank)).set fTsqSwap 0 else s
  let s := { s with seq := { q with pendPeriod := none, pendCfg := none, swapOk := false, bankOk := q.bankOk || q.swapOk } }
  s.set fTsqPend 0

/-- While the sequencer is stopped, what waits for a boundary takes effect as soon as it is accepted (R338). -/
def State.settle (s : State) : State := if s.ticking then s else s.applyPending

/-- A bank other than the empty one will be active: the swap admitted, or the bank in force. -/
def State.nextBank (s : State) : Option Nat :=
  if s.seq.swapOk then some (1 - s.get fTsqBank) else if s.seq.bankOk then some (s.get fTsqBank) else none

/-- The values that the next boundary brings. -/
def State.nextEnv (s : State) : AdmEnv :=
  let p := s.seq.pendPeriod.getD (s.get fTsqT, s.get fTsqGuard)
  let c := s.seq.pendCfg.getD (s.get fTsqMargin, s.get fTsqStep)
  { T := p.1, G := p.2, margin := c.1, step := c.2, now := false }

/-! ## TSQ_CTRL, TSQ_PERIOD, TSQ_CFG -/

/-- TICK_PROGRAM_STOP: run written 0. -/
def execTickProgramStop (s : State) : Out :=
  .next (if s.ticking then { s.set fTsqRun 0 with seq := { s.seq with stopReq := true } } else s)

/-- Whether an accepted change has to pass admission first. -/
def State.admits (s : State) : Bool := s.seq.bankOk || s.seq.swapOk || s.flag fTsqSwap

/-- TSQ_PERIOD_WRITE of a word. -/
def execTsqPeriodWrite (w : Word) (s : State) : Out :=
  .next (
    if s.inSafe then s else
    let T := bitsOf w 19 0
    let G := bitsOf w 51 32
    let s := if bitsOf w 63 52 ≠ 0 ∨ bitsOf w 31 20 ≠ 0 then s.reservedWrite 16 (regAddr tsqPeriod) else s
    if T < 1000 ∨ 1000000 < T ∨ 50 * G < T ∨ T < 2 * G then s
    else if s.admits then { s.set fAdmBusy 1 with seq := { s.seq with reqPeriod := some (T, G) } }
    else ({ s.set fTsqPend 1 with seq := { s.seq with pendPeriod := some (T, G) } }).settle)

/-- TSQ_CFG_WRITE of a word. -/
def execTsqCfgWrite (w : Word) (s : State) : Out :=
  .next (
    if s.inSafe then s else
    let m := bitsOf w 15 8
    let st := bitsOf w 3 0
    let s := if bitsOf w 63 16 ≠ 0 ∨ bitsOf w 7 4 ≠ 0 then s.reservedWrite 16 (regAddr tsqCfg) else s
    if 50 < m ∨ 8 < st then s
    else if s.admits then { s.set fAdmBusy 1 with seq := { s.seq with reqCfg := some (m, st) } }
    else ({ s.set fTsqPend 1 with seq := { s.seq with pendCfg := some (m, st) } }).settle)

/-- BANK_SWAP_REQUEST: swap written 1. The standby bank's structure is checked; then the request awaits admission. -/
def execBankSwapRequest (s : State) : Out :=
  .next (
    if s.inSafe then s else
    if s.flag fTsqSwap then s.refuseWrite (regAddr tsqCtrl) 4
    else
      let a := s.structureCheck (1 - s.get fTsqBank)
      if a.code ≠ 0 then (s.showAdm a).setB fAdmBusy (s.flag fAdmBusy) else (s.set fTsqSwap 1).set fAdmBusy 1)

/-- ADMISSION: the oldest kind of request that waits is decided: a swap, else a period, else margin and step. -/
def execAdmission (s : State) : Out :=
  .next (
    let again (s : State) : State :=
      (s.setB fAdmBusy ((s.flag fTsqSwap && !s.seq.swapOk) || s.seq.reqPeriod.isSome || s.seq.reqCfg.isSome)).guarResume
    if s.flag fTsqSwap ∧ !s.seq.swapOk then
      let a := s.judgeBank (1 - s.get fTsqBank) s.nextEnv
      let s := s.showAdm a
      again (if a.code ≠ 0 then s.set fTsqSwap 0
        else ({ s with seq := { s.seq with swapOk := true, admHolds := true } }).settle)
    else match s.seq.reqPeriod, s.seq.reqCfg, s.nextBank with
    | some p, _, b =>
      let a := match b with
        | some b => s.judgeBank b { s.nextEnv with T := p.1, G := p.2 }
        | none => Adm.none
      let s := { s.showAdm a with seq := { s.seq with reqPeriod := none } }
      again (if a.code ≠ 0 then s
        else ({ s.set fTsqPend 1 with seq := { s.seq with pendPeriod := some p } }).settle)
    | none, some c, b =>
      let a := match b with
        | some b => s.judgeBank b { s.nextEnv with margin := c.1, step := c.2 }
        | none => Adm.none
      let s := { s.showAdm a with seq := { s.seq with reqCfg := none } }
      again (if a.code ≠ 0 then s
        else ({ s.set fTsqPend 1 with seq := { s.seq with pendCfg := some c } }).settle)
    | none, none, _ => s)

/-- The values in force, counting a throttled domain at its clock (R364). -/
def State.envNow (s : State) : AdmEnv :=
  { T := s.get fTsqT, G := s.get fTsqGuard, margin := s.get fTsqMargin, step := s.get fTsqStep, now := true }

/-- The unit is one of the task's group. -/
def State.concerns (s : State) (k : Nat) : CapUnit → Bool
  | .stack t => (s.tdTiles k).contains t
  | .dom m => (s.tdDoms k).contains m
  | .core c => s.inGroup k c
  | .net => false

/-- ADMISSION_RECHECK: admission of the active bank against the capacity after the oldest fall (R364). -/
def execAdmissionRecheck (s : State) : Out :=
  .next (match s.fell with
    | [] => s
    | u :: rest =>
      let s := { s with fell := rest }
      if !s.ticking ∨ !s.seq.bankOk then s
      else
        let b := s.get fTsqBank
        let a := s.judgeBank b s.envNow
        let s := { s with seq := { s.seq with admHolds := a.code == 0 } }
        if a.code = 0 then s
        else
          let code := if a.code = 0x03 then a.stack else 0xFFFF
          let us := (((progTasks (s.program b)).filter (fun k => s.concerns k u)).map (fun k => s.tdTenant k)).eraseDups
          us.foldl (fun s v => s.raiseSeqTo v 0x35 0 0 0 0 code) (s.raiseSeqTo 16 0x35 0 0 0 0 code))

/-! ## The tick (R338, R365 to R369) -/

/-- Loaded tasks by number. -/
def State.loadedTasks (s : State) : List Nat :=
  ((s.regs.filter (fun x => decide (tsqTst 0 ≤ x.1 ∧ x.1 < tsqTst 1024 ∧ x.1 % 8 = 0))).map (fun x =>
    (x.1 - tsqTst 0) / 8)).filter (fun k => s.loaded k)

/-- The extension ends: maintenance was cut (R369). -/
def State.endExtension (s : State) (ks : List Nat) : State :=
  ks.foldl (fun s k => (s.modTask k (fun t => { t with extended := false })).raiseSeq (s.tdTenant k) 0x34 k
    (s.tdPolicy k) 0 0 0) (s.set fTsqExt 0)

/-- Task k cuts maintenance in this guard band: guard bands with a cut are counted once (R369). -/
def State.countCut (s : State) (k : Nat) : State :=
  let s := if s.seq.cut = [] then s.addSat fOvrCut 1 else s
  { s with seq := { s.seq with cut := s.seq.cut ++ [k] } }

/-- A Carried task's cores miss their known-answer slot (R369). -/
def State.missSlot (s : State) (k : Nat) : State :=
  if s.seq.cut.contains k then s
  else (s.countCut k).raiseSeq (s.tdTenant k) 0x34 k (s.tdPolicy k) 0 0 0

def State.extendedTasks (s : State) : List Nat := s.loadedTasks.filter (fun k => (s.task k).extended)

/-- GUARD_BAND_START: overruns and their policies (R365, R366). -/
def execGuardBandStart (s : State) : Out :=
  .next (
    if !s.ticking ∨ s.seq.inGuard ∨ s.get fTsqToff < s.get fTsqT - s.get fTsqGuard then s
    else
      let s := { s.set fTsqPhase 4 with seq := { s.seq with inGuard := true, cut := [] } }
      s.loadedTasks.foldl (fun s k =>
        let st := s.tstate k
        let u := s.tdTenant k
        let p := s.tdPolicy k
        if st = tsCarried then s.abortTask k 0
        else if st = tsBound ∨ st = tsRunning ∨ st = tsParked then
          let s := ((s.addSat (fTstOvr k) 1).addSat fOvrOvr 1).raiseSeq u 0x30 k p 0 0 0
          if st = tsParked then
            let s := s.discardParked k
            if s.hasOpen k then s else s.setTstate k tsIdle
          else if st = tsBound then s.abortTask k 4
          else if p = 0 then s.abortTask k 0
          else if p = 1 then ((s.modTask k (fun t => { t with extended := true })).set fTsqExt 1).countCut k
          else
            let s := (s.setTstate k tsCarried).modTask k (fun t => { t with carried := some s.tick })
            (s.addSat fOvrCarry 1).raiseSeq u 0x32 k p 0 0 0
        else s) s)

/-- EXTENSION_DEADLINE (R367). -/
def execExtensionDeadline (s : State) : Out :=
  .next (
    if !s.ticking ∨ !s.seq.inGuard ∨ s.seq.late ∨ s.get fTsqToff < s.get fTsqT - (s.get fTsqGuard + 3) / 4 then s
    else
      let ks := s.extendedTasks
      let gone := ks.filter (fun k => s.tstate k == tsRunning)
      let s := gone.foldl (fun s k => s.abortTask k 1) { s with seq := { s.seq with late := true } }
      if gone ≠ [] ∧ gone.length = ks.length then s.endExtension ks else s)

/-- Host functions' tenants whose port is frozen or quiesced (13 R481). -/
def State.pausedNow (s : State) : List Nat :=
  (List.range 16).filter (fun u => (List.range 4).any (fun q =>
    decide (2 ≤ s.get (fPortState q)) && (List.range 17).any (fun f => s.flag (fBindEn q f) && decide (s.get (fBindTenant q f) = u))))

/-- Tenants shadowed from the next boundary on: those mirrored on a standby package (17 R582, R586). -/
def State.shadowNow (s : State) : List Nat :=
  if s.get fTwnRole = 2 then (List.range 16).filter (fun u => s.get fMirTenants / 2 ^ u % 2 == 1) else []

/-- HEP_FSTAT.paused of every function follows its tenant; setting it fires the status vector (13 R475). -/
def State.showPaused (s : State) : State :=
  (List.range 4).foldl (fun s q => (List.range 17).foldl (fun s f =>
    let on := match s.boundTo q f with
      | some u => s.paused.contains u
      | none => false
    if on = s.flag (fFstPaused q f) then s
    else
      let s := s.setB (fFstPaused q f) on
      if on then s.statusVector q f else s) s) s

/-- TICK_PROGRAM_START: run written 1. With an admitted bank tick 0 begins; a stop not yet reached is taken back. -/
def execTickProgramStart (s : State) : Out :=
  .next (
    if s.ticking then { s.set fTsqRun 1 with seq := { s.seq with stopReq := false } }
    else if !s.seq.bankOk ∨ s.inSafe then s
    else
      let s := s.applyRegs
      let s := (((((((s.set fTsqRun 1).set fTsqTick 0).set fTsqToff 0).set fTsqPhase 0).set fTsqPc 0).set fTsqEnded 0).set
        fTsqExt 0)
      -- tick 0 begins at a boundary: the tenants of frozen and quiesced ports are paused in it (13 R481)
      ({ s with
        paused := s.pausedNow
        seq := { s.seq with phase := 0, waitAt := none, stopReq := false, inGuard := false, late := false,
                            committed := [], ns := 0 } }).showPaused)

/-- What becomes of a task at the boundary (R343, R368). -/
def State.taskBoundary (s : State) (k : Nat) : State :=
  let st := s.tstate k
  let s :=
    if (s.task k).carried = some s.tick ∧ (st = tsCarried ∨ st = tsDone) then s
    else
      let s := if st = tsBound ∨ st = tsRunning ∨ st = tsDone ∨ st = tsCarried then s.abortTask k 5 else s
      let st := s.tstate k
      if st = tsCommitted ∨ st = tsAborted then (s.setTstate k tsIdle).modTask k (fun t => { t with carried := none }) else s
  -- the mark of a Carried task holds until its commit (06 R222)
  if s.tstate k = tsCarried ∨ s.tstate k = tsDone then s else s.set (fTstMism k) 0

/-- The window of an average in ticks, and the step of the value it shows: 2 °C, 10 W, 50 W, 0.1 W. -/
def coarseWindow (key : Nat) : Nat := if key < 64 then 64 else 1
def coarseStep (key : Nat) : Int := if key < 16 then 128 else if key < 32 then 100 else if key < 64 then 50 else 1

/-- A whole tick has passed for the averages of R511; at the end of a window the value moves. -/
def State.coarseTick (s : State) : State :=
  { s with coarse := s.coarse.map (fun x =>
      let c := x.2
      if c.ticks + 1 < coarseWindow x.1 then (x.1, { c with ticks := c.ticks + 1 })
      else (x.1, { sum := 0, n := 0, ticks := 0
                   shown := if c.n = 0 then c.shown else c.sum / (c.n : Int) / coarseStep x.1 * coarseStep x.1 })) }

/-- TICK_BOUNDARY: the tick ends; the next begins unless a stop was asked for (R338, R368, R371). -/
def execTickBoundary (s : State) : Out :=
  .next (
    if !s.ticking ∨ s.get fTsqToff < s.get fTsqT then s
    else
      let past := s.get fTsqToff - s.get fTsqT
      let s := if s.flag fTsqEnded then s else s.raiseSeqTo 16 0x36 0 0 0 0 0
      let s := s.endExtension s.extendedTasks
      let s := s.loadedTasks.foldl State.taskBoundary s
      let s := { s with cores := s.cores.map (fun (x : Nat × Core) => (x.1, { x.2 with evs := [], sats := [] })) }
      let stop := s.seq.stopReq
      let s := s.applyPending.applyRegs
      let s := { s with
        paused := s.pausedNow, shadow := s.shadowNow, hub := { s.hub with told := [] }
        seq := { s.seq with phase := 0, waitAt := none, stopReq := false, inGuard := false, late := false,
                            committed := [] } }
      let s := s.restoreRates.showPaused.coarseTick
      if stop then (s.set fTsqPhase 5).set fTsqEnded 0
      else
        let s := { s with seq := { s.seq with count := s.seq.count + 1 } }
        let s := (((((s.set fTsqTick (s.get fTsqTick + 1)).set fTsqToff past).set fTsqPhase 0).set fTsqPc 0).set fTsqEnded 0)
        if s.seq.admHolds then s
        else { s with seq := { s.seq with admHolds := (s.judgeBank (s.get fTsqBank) s.envNow).code == 0 } })

/-! ## The tick program (R339, R358) -/

/-- The sequencer's next instruction is one of opcode `op` and it is free to execute it. -/
def State.program? (s : State) (op : Nat) : Option Word :=
  let a := tsqProg (s.get fTsqBank) (s.get fTsqPc)
  let w := s.rd a
  -- past an uncorrectable word the program goes no further, so that the tick ends under R368 (17 R563)
  if s.ticking && !(s.sramBad (regAddr a)) && !(s.flag fTsqEnded) && s.seq.waitAt.isNone && twOp w == op then some w else none

def State.progNext (s : State) (n : Nat) : State := s.set fTsqPc (s.get fTsqPc + n)

def execPhase (s : State) : Out :=
  .next (match s.program? opPHASE with
    | none => s
    | some w =>
      let p := bitsOf w 2 0
      let s := { s.progNext 1 with seq := { s.seq with phase := p } }
      if s.seq.inGuard then s else s.set fTsqPhase p)

/-- A task is due for RUN in this tick (R344, R481, R582). -/
def State.dueNow (s : State) (k : Nat) : Bool :=
  s.due k s.tick && !(s.paused.contains (s.tdTenant k)) && !(s.shadow.contains (s.tdTenant k))

def execRunTask (s : State) : Out :=
  .next (match s.program? opRUN with
    | none => s
    | some w =>
      let k := twFirst w
      let s := s.progNext 1
      if s.tstate k = tsIdle ∧ s.dueNow k then s.setTstate k tsBound else s)

/-- The task counts as complete for a WAITT (R358). -/
def State.complete (s : State) (k : Nat) : Bool :=
  let st := s.tstate k
  let t := s.task k
  !(st == tsBound || st == tsRunning
    || (st == tsParked && !(t.discarded || t.dropped || t.faultTick != s.tick || s.seq.inGuard)))

def execWaitt (s : State) : Out :=
  .next (match s.program? opWAITT with
    | none => s
    | some w => if s.loadedTasks.all (fun k => !(twCovers w k) || s.complete k) then s.progNext 1 else s)

def execAtOffset (s : State) : Out :=
  .next (match s.program? opAT with
    | none => s
    | some w =>
      let s' := s.progNext 1
      if bitsOf w 19 0 ≤ s.get fTsqToff then s'
      else { s' with seq := { s'.seq with waitAt := some (bitsOf w 19 0) } })

def execAtOffsetReached (s : State) : Out :=
  .next (match s.seq.waitAt with
    | none => s
    | some o => if o ≤ s.get fTsqToff then { s with seq := { s.seq with waitAt := none } } else s)

def execSkipIf (s : State) : Out :=
  .next (match s.program? opSKIP with
    | none => s
    | some w => s.progNext (if s.tick % bitsOf w 15 0 = bitsOf w 31 16 then 1 else 1 + bitsOf w 41 32))

def execProgramEvent (s : State) : Out :=
  .next (match s.program? opEVENT with
    | none => s
    | some w => (s.progNext 1).raiseSeq (bitsOf w 3 0) 0x37 0 0 0 0 (bitsOf w 31 16))

def execEndProgram (s : State) : Out :=
  .next (match s.program? opEND with
    | none => s
    | some _ =>
      let s := (s.progNext 1).set fTsqEnded 1
      s.endExtension s.extendedTasks)

/-! ## Commit (R353 to R357) -/

/-- The C-space address of record n. -/
def recKey (n : Nat) : Nat := 0x400000000000 + 1024 * n

/-- Task k's rank r: the part of its state that a core or its switch slot holds. -/
def State.livePart (s : State) (k r c : Nat) : SlotPart :=
  if (s.core c).task = some k then s.corePart c
  else ((s.task k).sw[r]?).getD ⟨coreReset 0, []⟩

/-- `n` bytes at a scratchpad offset of a part. -/
def SlotPart.bytes (p : SlotPart) (o n : Nat) : List Byte := (List.range n).map (fun i => smGetD p.spad 0 (o + i))

/-- The header fields that must agree (R353 step 1): version, length, valid, tenant. -/
def recHead (bs : List Byte) : List Nat :=
  let b (i : Nat) : Nat := (bs.getD i 0).toNat
  [b 0, b 1, b 2 % 2, b 2 / 16]

/-- Commits one Done task (R353 steps 1 to 4). DESIGN CHOICE (log 92): an absent core holds nothing to commit; its records
stay and raise 0x33, the slot position stays where that core holds the tick block, its commit slot stays. -/
def State.commitTask (s : State) (k : Nat) : State :=
  let g := s.group k
  let per := s.tdPercore k
  let s := (List.range (s.tdCcount k)).foldl (fun s i =>
    let n := s.tdCfirst k + i
    let r := i / per
    let c := g.getD r 0
    let o := s.tdCoff k + 1024 * (i % per)
    let bs := (s.livePart k r c).bytes o 1024
    let bad := (s.core c).task = some k ∧ (s.spadPoison c o 1024).isSome
    if !bad ∧ !(s.absent c) ∧ !(s.sramBad (recKey n)) ∧ recHead bs = recHead (s.bytes (recKey n) 3) then
      s.putCtx (recKey n) (bs.take 8 ++ bytesLE 4 s.tick32 ++ bs.drop 12)
    else s.raiseSeq (s.tdTenant k) 0x33 k (s.tdPolicy k) 0 n 0) s
  let s := if s.tdHasSlot k ∧ !(s.absent (g.getD 0 0)) then
      let z := s.tdSlot k
      let p := (s.livePart k 0 (g.getD 0 0)).bytes (s.tdTboff k + 48) 4
      (s.set (fSlotPos z) ((List.range 4).foldl (fun a i => a + (p.getD i 0).toNat * 256 ^ i) 0)).set (fSlotCsel z)
        (1 - s.get (fSlotCsel z))
    else s
  let cm := g.zipIdx.map (fun x =>
    let p := s.livePart k x.2 x.1
    if s.absent x.1 then ((s.task k).cm[x.2]?).getD p
    else if s.tdCkpt k then p else { p with spad := [] })
  let s := s.modTask k (fun t => { t with cm := cm, carried := none })
  let s := (s.setTstate k tsCommitted).set (fTstCtick k) s.tick32
  { s with seq := { s.seq with committed := s.seq.committed ++ [k] } }

/-- The order of service as one number: label, tenant, number (R370). -/
def State.bindRank (s : State) (k : Nat) : Nat := s.tdLabel k * 2 ^ 16 + s.tdTenant k * 2 ^ 11 + k

/-- The tasks of a COMMIT in their order: ascending numbers (R353), where the tasks of one tenant take that tenant's turns by
label and then number (R370). -/
def State.commitOrder (s : State) (ks : List Nat) : List Nat :=
  (ks.zipIdx.filterMap (fun x =>
    let mine (j : Nat) : Bool := s.tdTenant j == s.tdTenant x.1
    let own := (ks.filter mine).foldl (fun l j =>
      l.filter (fun y => decide (s.bindRank y < s.bindRank j)) ++ [j] ++ l.filter (fun y => decide (s.bindRank j < s.bindRank y))) []
    own[((ks.take x.2).filter mine).length]?))

def execCommitTasks (s : State) : Out :=
  .next (match s.program? opCOMMIT with
    | none => s
    | some w =>
      if s.seq.phase ≠ 3 then s
      else
        (s.commitOrder (s.loadedTasks.filter (fun k => twCovers w k))).foldl (fun s k =>
          if s.tstate k ≠ tsDone ∨ (s.task k).carried = some s.tick then s
          else if s.flag (fTstMism k) then s.abortTask k 3
          else s.commitTask k) (s.progNext 1))

/-! ## Reading stack memory by a tenant's addresses -/

/-- Bytes at a DVA of context `u`; none where a page is unmapped, lies outside stack memory, in a stack or granule that does
not answer (08 R294, R298), or is uncorrectable. A caller waits first where the stack admits no access (`engineHeld`). -/
def State.readDva (s : State) (u v n : Nat) : State × Option (List Byte) :=
  (pageParts (n / 4096 + 2) v n).foldl (fun (x : State × Option (List Byte)) p =>
    match x.2 with
    | none => x
    | some acc =>
      match (x.1.translate u p.1).map x.1.place with
      | some (.stack t a) =>
        if !(x.1.runServes t a p.2) then (x.1, none)
        else
          let r := x.1.readStack t a p.2 0x2
          (r.1, r.2.map (fun b => acc ++ b))
      | _ => (x.1, none)) (s, some [])

/-- The run is mapped, with the right to write where asked, into stack memory (R341 code 0x4). -/
def State.mappedRun (s : State) (u : Nat) (needW : Bool) : Nat → Nat → Nat → Bool
  | 0, _, _ => false
  | fuel + 1, v, n =>
    if n = 0 then true
    else match s.trnFind u v with
      | none => false
      | some x =>
        !(s.trnBad u v) && x.r && (x.w || !needW) && !(needW && x.commons)
          && (match s.place x.tgt with
              | .stack _ _ => true
              | _ => false)
          && State.mappedRun s u needW fuel (v + min n (x.hi - v)) (n - min n (x.hi - v))

/-! ## Binding (R344, R345, R351) -/

/-- Saves what other tasks left on task k's cores to their switch slots, and frees the cores. -/
def State.switchOut (s : State) (k : Nat) : State :=
  let g := s.group k
  let others := ((g.filterMap (fun c => (s.core c).task)).filter (fun j => j != k)).eraseDups
  let s := others.foldl (fun s j =>
    if !(s.loaded j) then s
    else
      let parts := (s.group j).zipIdx.map (fun x => s.livePart j x.2 x.1)
      s.modTask j (fun t => { t with sw := parts })) s
  g.foldl (fun s c => match (s.core c).task with
    | some j => if j = k then s else s.modCore c (fun x => { x with task := none, mode := .idle, before := .idle })
    | none => s) s

/-- Brings task k's state back to core c of rank r, unless the core still holds it from its previous tick; a resumed task is
restored from what its drain stop saved (R344 step 2). The image region is rewritten from the image. -/
def State.restoreCore (s : State) (k r c : Nat) (image : List Byte) : State :=
  let t := s.task k
  let here := decide ((s.core c).task = some k)
  if here && !t.aborted && !t.resumes then s
  else
    let p := (t.sw[r]?).getD ⟨coreReset 0, []⟩
    let q := (t.cm[r]?).getD ⟨coreReset 0, []⟩
    let s := if here && !t.resumes then s else s.loadSpad c p.spad
    let s := if t.aborted && s.tdCkpt k then s.loadSpad c q.spad else s
    let s := s.modCore c (fun x => x.restore (if t.aborted then q.core else p.core))
    s.setSpad c 0 image

/-- The tick block of R351. -/
def State.tickBlock (s : State) (k : Nat) : List Byte :=
  let z := s.tdSlot k
  let has := s.tdHasSlot k
  let csel := s.get (fSlotCsel z)
  let a := s.get (fSlotSta z)
  let b := s.get (fSlotStb z)
  let pos := s.get (fSlotPos z)
  let ws : List Nat :=
    [0x01 + 0x08 * 2 ^ 8 + k * 2 ^ 16, s.tick, s.get (fTsqIng (s.tdTenant k)),
     z + (if has then 2 ^ 6 + csel * 2 ^ 7 + pos * 2 ^ 32 else 0),
     (if has then (if csel = 0 then a else b) else 0), (if has then (if csel = 0 then b else a) else 0),
     (if has then pos else 0), 0]
  ws.flatMap (bytesLE 8)

/-- The state in which a core begins a tick (04 R156). DESIGN CHOICE (log 77): asynchronous exceptions that are still pending
from the tick before are discarded. -/
def Core.beginTick (x : Core) (k entry : Nat) (arg : Word) (rank size : Nat) : Core :=
  let v : Vector Word 32 := Vector.replicate 32 0
  let x := { x with
    task := some k, mode := .idle, before := .running, pc := entry
    s := ((v.set 1 arg).set 2 (BitVec.ofNat 64 rank)).set 3 (BitVec.ofNat 64 size)
    tq := [], atoms := [], async := [], wait := none, bars := 0 }
  let x := (x.swr 0x020 0).swr 0x021 0
  x.swr 0x022 (putBits (x.srd 0 0x022) 8 8 0)

/-- The cores of the group are free for task k (R344). -/
def State.groupFree (s : State) (k : Nat) : Bool :=
  s.groupQuiet k && s.loadedTasks.all (fun j =>
    j == k || !(s.groupsMeet j k) || !(s.tstate j == tsRunning || s.tstate j == tsCarried || (s.task j).draining))

/-- Tasks that wait for the binding engine and whose group is free. -/
def State.bindable (s : State) : List Nat :=
  s.loadedTasks.filter (fun k =>
    (s.tstate k == tsBound || (s.tstate k == tsParked && (s.task k).resumes && !((s.task k).draining))) && s.groupFree k)

/-- The least of some tasks in that order. -/
def State.firstRanked (s : State) (l : List Nat) : Option Nat :=
  (listMin (l.map s.bindRank)).bind (fun m => l.find? (fun k => s.bindRank k == m))

/-- The task that the binding engine serves next: the first in order, or a resumed task of its partition (R370, 09 R331). -/
def State.nextBound (s : State) : Option Nat :=
  let l := s.bindable
  match s.firstRanked l with
  | none => none
  | some k => some ((s.firstRanked (l.filter (fun j => (s.task j).resumes && s.tdTenant j == s.tdTenant k))).getD k)

/-- Commands refused by the task's fault are issued again whole (09 R330). -/
def State.reissue (s : State) (k : Nat) : State :=
  let ds := (s.task k).refused
  let s := ds.foldl (fun s d =>
    { s with dma := s.dma ++ [(s.nextId, { d with st := .queued, done := 0, maps := [] })], nextId := s.nextId + 1 }) s
  s.modTask k (fun t => { t with refused := [] })

/-- A record is delivered to a core's scratchpad; a word of it that cannot be read arrives marked uncorrectable (07 R256). -/
def State.giveRecord (s : State) (n c o : Nat) : State :=
  let t := s.setSpad c o (s.bytes (recKey n) 1024)
  { t with badWords := t.badWords ++ ((s.badWords.filter (fun w => w.2 && decide (recKey n ≤ w.1 ∧ w.1 < recKey n + 1024))).map
      (fun w => (spadAddr c o + (w.1 - recKey n), true))) }

/-- Task k's image lies where the stack admits no access now (08 R281, R285, R301). -/
def State.imageHeld (s : State) (k : Nat) : Bool :=
  s.engineHeld (s.tdTenant k) (s.tdImg k) (64 * s.tdImg64 k) false

/-- Binds task k. -/
def State.bindTask (s : State) (k : Nat) : State :=
  let g := s.group k
  let res := (s.task k).resumes
  let img := s.readDva (s.tdTenant k) (s.tdImg k) (64 * s.tdImg64 k)
  let s := img.1.switchOut k
  let live := g.zipIdx.filter (fun x => !(s.absent x.1))
  let s := live.foldl (fun s x => s.restoreCore k x.2 x.1 (img.2.getD [])) s
  let s := if res then
      live.foldl (fun s x => s.modCore x.1 (fun y => { y with
        task := some k, mode := if y.before = .ended then .ended else .idle })) s
    else
      let s := live.foldl (fun s x => s.modCore x.1 (fun y =>
        y.beginTick k (s.tdEntry k) (s.tdArg k) x.2 g.length)) s
      let s := (List.range (s.tdCcount k)).foldl (fun s i =>
        let c := g.getD (i / s.tdPercore k) 0
        if s.absent c then s
        else s.giveRecord (s.tdCfirst k + i) c (s.tdCoff k + 1024 * (i % s.tdPercore k))) s
      let c := g.getD 0 0
      let s := if s.absent c then s else s.setSpad c (s.tdTboff k) (s.tickBlock k)
      s.set (fTstMism k) 0
  let s := s.modTask k (fun t => { t with resumes := false, aborted := false, discarded := false, waves := 0 })
  (s.setTstate k tsRunning).reissue k

/-- TASK_BIND: the binding engine serves the next task of R370. -/
def execTaskBind (s : State) : Out :=
  .next (
    if !s.ticking then s
    else match s.nextBound with
      | none => s
      | some k => if s.imageHeld k then s else s.bindTask k)

/-- CORE_WAVE_START: the cores of task k's next compute clock domain start (R345). -/
def execCoreWaveStart (k : Nat) (s : State) : Out :=
  .next (
    let t := s.task k
    match (s.tdDoms k)[t.waves]? with
    | none => s
    | some m =>
      if s.tstate k ≠ tsRunning ∧ s.tstate k ≠ tsCarried then s
      else
        let s := s.modTask k (fun t => { t with waves := t.waves + 1 })
        ((s.holders k).filter (fun c => tileDom (coreTile c) == m)).foldl (fun s c =>
          if (s.core c).mode = .idle then (s.modCore c (fun x => { x with mode := x.before })).deliver c else s) s)

/-- DRAIN_STOP_DONE: task k's group has ended its queued work; its state goes to the switch slots (R347). -/
def execDrainStopDone (k : Nat) (s : State) : Out :=
  .next (
    if !(s.task k).draining ∨ !(s.groupQuiet k) then s
    else
      let hs := s.holders k
      let mine (d : Nat × Dma) : Bool := hs.contains d.2.core && decide (d.2.st = DmaState.refused)
      let parts := (s.group k).zipIdx.map (fun x => s.livePart k x.2 x.1)
      let back := (s.dma.filter mine).map Prod.snd
      ({ s with dma := s.dma.filter (fun d => !(mine d)) }).modTask k (fun t => { t with
        sw := parts, draining := false, refused := t.refused ++ back }))

/-! ## Load and unload (R341, R342) -/

/-- The required-zero bits of descriptor word w are 0. -/
def tdZeros (w : Nat) (x : Word) : Bool :=
  let free : Nat :=
    if w = 0 then 0x00FFFF3F3FFFFFFF else if w = 1 then 0x00007FFFFFFFFFFF else if w = 2 then 2 ^ 64 - 1
    else if w = 3 then 0x03FFFFFFFFFFFFFF else if w = 4 then 0x0000FFFFFFFFFFFF
    else if w ≤ 8 then 0x000001FFFFFFFFFF else if w = 9 then 0x0007FFFFFFFFFFFF
    else if w = 10 then 0x7F7FFF else if w = 11 then 0xFFFFFFFF else if w = 12 then 0x07FF07FF07FF07FF else 0
  (x.toNat &&& (2 ^ 64 - 1 - free)) == 0

/-- Code 0x1: version, length, zeros, ranges and alignments. -/
def State.tdBad (s : State) (k : Nat) : Bool :=
  let w0 := s.rd (tsqTd k 0)
  let ver := bitsOf w0 7 0
  let len := bitsOf w0 15 8
  let rects := (List.range 4).any (fun i =>
    let d (hi lo : Nat) : Nat := s.td k (5 + i) hi lo
    d 40 40 == 1 && !(decide (d 5 0 ≤ d 11 6 ∧ d 11 6 ≤ 47 ∧ 1 ≤ d 32 26 ∧ d 32 26 ≤ 80 ∧ 1 ≤ d 39 33 ∧ d 39 33 ≤ 80
      ∧ d 18 12 + d 32 26 ≤ 80 ∧ d 25 19 + d 39 33 ≤ 80)))
  decide (ver = 0 ∨ len = 0 ∨ (ver = 1 ∧ 0x10 < len))
    || (ver == 1 && !((List.range 16).all (fun w => tdZeros w (s.tdWord k w))))
    || decide (s.td k 0 25 16 ≠ k ∨ s.tdPolicy k = 3 ∨ s.tdPeriod k = 0 ∨ s.tdPeriod k ≤ s.tdOffs k
        ∨ s.td k 5 40 40 ≠ 1) || rects
    || decide (s.tdEntry k % 4 ≠ 0 ∨ s.tdImg k % 256 ≠ 0 ∨ s.tdImg64 k = 0 ∨ 512 < s.tdImg64 k ∨ s.tdSave k % 65536 ≠ 0
        ∨ 10240 < s.tdCcount k ∨ (s.tdCcount k ≠ 0 ∧ (s.tdPercore k = 0 ∨ 16 < s.tdPercore k))
        ∨ s.tdCoff k % 1024 ≠ 0 ∨ s.tdTboff k % 64 ≠ 0)

/-- Code 0x5: records, and the regions of the scratchpad. -/
def State.tdRecordsBad (s : State) (k : Nat) : Bool :=
  let n := s.tdCcount k
  let per := s.tdPercore k
  let recs := (List.range n).any (fun i =>
    let r := s.tdCfirst k + i
    let b2 := (s.byte (recKey r + 2)).toNat
    s.sramBad (recKey r) || decide (10240 ≤ r ∨ b2 % 2 = 0 ∨ b2 / 16 ≠ s.tdTenant k))
  let regions := [(0, 64 * s.tdImg64 k), (s.tdTboff k, s.tdTboff k + 64)]
    ++ (if n = 0 then [] else [(s.tdCoff k, s.tdCoff k + 1024 * min per n)])
  recs || (n != 0 && decide (s.tdSize k < (n + per - 1) / per)) || regions.any (fun r => decide (0x8000 < r.2))
    || regions.zipIdx.any (fun a => regions.zipIdx.any (fun b =>
        decide (a.2 < b.2 ∧ a.1.1 < b.1.2 ∧ b.1.1 < a.1.2)))

/-- The first of the conditions of R341 on the descriptor, its partition, group, mappings, records and slot, which stand for a
load and an unload alike; 0: none. -/
def State.tdCode (s : State) (k : Nat) : Nat :=
  let u := s.tdTenant k
  if s.tdBad k then 0x1
  else if (s.tdTiles k).any (fun t => s.tileOwner t != some u || s.gated (tileDom t)) || (s.group k).any (fun c => s.absent c) then 0x2
  else if s.loadedTasks.any (fun j => j != k && s.groupsMeet j k && s.group j != s.group k) then 0x3
  else if !(s.mappedRun u false 130 (s.tdImg k) (64 * s.tdImg64 k))
      || !(s.mappedRun u true 130 (s.tdSave k) (131072 * s.tdSize k)) then 0x4
  else if s.tdRecordsBad k then 0x5
  else if s.tdHasSlot k && (!(s.flag (fSlotValid (s.tdSlot k))) || s.get (fSlotTenant (s.tdSlot k)) != u) then 0x6
  else 0

/-- The first condition of R341 that a load of task k meets; 0: none. -/
def State.loadCode (s : State) (k : Nat) : Nat :=
  if s.tdCode k ≠ 0 then s.tdCode k else if s.loaded k then 0x7 else 0

/-- An uncorrectable burst of task k's save area, among those that stack memory holds with an error (R341 code 0x9). -/
def State.saveBad (s : State) (k : Nat) : Option Nat :=
  let ends := s.tdSave k + 131072 * s.tdSize k
  let runs := (List.range 128).filterMap (fun e =>
    match s.trnEntry (s.tdTenant k) e with
    | none => none
    | some x =>
      let lo := max x.lo (s.tdSave k)
      let hi := min x.hi ends
      if lo < hi then some (x.tgt + (lo - x.lo), x.tgt + (hi - x.lo)) else none)
  ((s.badBursts.map (fun x => 256 * x.1)).find? (fun b =>
    runs.any (fun r => decide (r.1 ≤ s.burstAddr b ∧ s.burstAddr b < r.2))
      && (match s.burstCond b (s.physCh b) with
          | .uncorrectable _ => true
          | _ => false)))

/-- A task command is refused. -/
def State.tcmdRefuse (s : State) (code : Nat) : State := (s.set fTcmdCode code).set fTcmdErr 1

/-- A task command is accepted. -/
def State.tcmdAccept (s : State) : State :=
  (((s.set fTcmdCode 0).set fTcmdErr 0).set fTcmdDone 0).set fTcmdBusy 1

def State.tcmdReserved (s : State) (w : Word) : State :=
  if bitsOf w 63 26 ≠ 0 ∨ bitsOf w 15 2 ≠ 0 then s.reservedWrite 16 (regAddr tsqTcmd) else s

/-- TASK_LOAD: a write of TSQ_TCMD with op load, or with a reserved op, which is refused. -/
def execTaskLoad (w : Word) (s : State) : Out :=
  .next (
    if s.inSafe then s else
    if bitsOf w 1 0 = 2 then s
    else
      let s := s.tcmdReserved w
      let k := bitsOf w 25 16
      if s.flag fTcmdBusy then s.tcmdRefuse 0x7
      else if bitsOf w 1 0 ≠ 1 then s.tcmdRefuse 0x1
      else
        let code := s.loadCode k
        if code ≠ 0 then s.tcmdRefuse code
        else if s.imageHeld k then s
        else
          let img := s.readDva (s.tdTenant k) (s.tdImg k) (64 * s.tdImg64 k)
          let s := img.1
          match (if (s.saveBad k).isSome then none else img.2) with
          | none => (match img.2, s.saveBad k with
              | some _, some b => (s.readBurst b 0x2).1
              | _, _ => s).tcmdRefuse 0x9
          | some bs =>
            let cells := (bs.zipIdx.filter (fun x => x.1 != 0)).map (fun x => (x.2, x.1))
            let parts := (s.group k).map (fun c => (⟨freshCore c 0, cells⟩ : SlotPart))
            let s := s.modTask k (fun _ => { Task.fresh with sw := parts, cm := parts })
            (s.setTstate k tsIdle).tcmdAccept)

/-- A bank's program may still run the task. -/
def State.bankNames (s : State) (k : Nat) : Bool := (s.bankRuns 0).contains k || (s.bankRuns 1).contains k

/-- TASK_UNLOAD: a write of TSQ_TCMD with op unload. The conditions of R341 go in ascending code order. -/
def execTaskUnload (w : Word) (s : State) : Out :=
  .next (
    if s.inSafe then s else
    if bitsOf w 1 0 ≠ 2 then s
    else
      let s := s.tcmdReserved w
      let k := bitsOf w 25 16
      let st := s.tstate k
      if s.flag fTcmdBusy then s.tcmdRefuse 0x7
      else if s.tdCode k ≠ 0 then s.tcmdRefuse (s.tdCode k)
      else if !(s.loaded k) then s.tcmdRefuse 0x7
      else if st = tsBound ∨ st = tsRunning ∨ st = tsParked ∨ st = tsCarried ∨ s.bankNames k then s.tcmdRefuse 0x8
      else
        let u := s.tdTenant k
        let s := (s.holders k).foldl (fun s c => s.modCore c (fun x => { x with
          task := none, mode := .idle, before := .idle })) s
        let s := (s.set (fFltPend u) (s.get (fFltPend u) - (s.task k).pend.length)).set (fTstFpend k) 0
        let s := (s.modTask k (fun _ => Task.fresh)).set (fTstMism k) 0
        (s.setTstate k tsUnloaded).tcmdAccept)

/-- TASK_COMMAND_DONE: the load or unload in progress is complete. -/
def execTaskCommandDone (s : State) : Out :=
  .next (if s.flag fTcmdBusy then (s.set fTcmdBusy 0).set fTcmdDone 1 else s)

/-! ## Sequence slots and stream-context records (R349; 07 R242) -/

/-- A RUN of either bank names a task that names the slot. -/
def State.slotNamed (s : State) (n : Nat) : Bool :=
  (s.bankRuns 0 ++ s.bankRuns 1).any (fun k => s.loaded k && s.tdHasSlot k && decide (s.tdSlot k = n))

/-- SEQ_SLOT_WRITE: firmware writes word `i` of slot `n`. -/
def execSeqSlotWrite (n i : Nat) (w : Word) (s : State) : Out :=
  .next (
    if s.inSafe then s else
    if 63 < n ∨ 3 < i then s
    else
      let addr := regAddr (seqSlot n i)
      if i = 0 then
        let s := if bitsOf w 63 8 ≠ 0 ∨ bitsOf w 3 2 ≠ 0 then s.reservedWrite 16 addr else s
        let ten := bitsOf w 7 4
        let v := bitsOf w 0 0
        if (s.flag (fSlotValid n) ∧ ten ≠ s.get (fSlotTenant n)) ∨ (v ≠ s.get (fSlotValid n) ∧ s.slotNamed n) then
          s.refuseWrite addr 2
        else (s.set (fSlotTenant n) ten).set (fSlotValid n) v
      else if i = 3 then if bitsOf w 63 32 ≠ 0 then s.reservedWrite 16 addr else s
      else
        let s := if bitsOf w 63 48 ≠ 0 then s.reservedWrite 16 addr else s
        if s.flag (fSlotValid n) then s.refuseWrite addr 2
        else s.set (if i = 1 then fSlotSta n else fSlotStb n) (bitsOf w 47 0))

/-- A loaded task names the record (07 R242; R371). -/
def State.recordNamed (s : State) (n : Nat) : Bool :=
  s.loadedTasks.any (fun k => decide (s.tdCfirst k ≤ n ∧ n < s.tdCfirst k + s.tdCcount k))

/-- CONTEXT_RECORD_WRITE: firmware writes the 8-byte word at a C-space device address. -/
def execContextRecordWrite (addr : Nat) (w : Word) (s : State) : Out :=
  .next (match s.place addr with
    | .ctx o =>
      if o % 8 ≠ 0 then s.emit "address-error" [addr] []
      else if s.recordNamed (o / 1024) then (s.refuseWrite addr 2).emit "address-error" [addr] []
      else if s.inSafe then s
      else s.putCtx addr (bytesLE 8 w.toNat)
    | _ => s.emit "address-error" [addr] [])

end Sys2Proof.Machine
end

