-- ==== Sys2Proof/Machine/Host.lean ====
section
/-! DEFINITION. Commands of the host tiles, services and BAR0 apart (13 R451 to R487). -/

namespace Sys2Proof.Machine

/-! ## Link and port -/

/-- What a reset of the link takes with it: the configuration state of the host tile (R452). -/
def HostTile.cfgReset (h : HostTile) : HostTile := { h with cfg := [], d3 := [], atc := [], noTr := [] }

/-- PERST_N_ASSERT on host tile q: its link and configuration state are reset (R452); an up port freezes (R479). -/
def execPerstNAssert (q lost absorbed : Nat) (s : State) : Out :=
  .next (if 3 < q then s
    else
      let s := s.modHost q (fun h => { h with linkUp := false, perstHigh := false }.cfgReset)
      let s := (s.set (fPortLanes q) 0).set (fPortSpeed q) 0
      let s := (List.range 17).foldl (fun s f => s.set (fFstFlr q f) 0) s
      if s.get (fPortState q) = 1 then s.freezePort q 2 lost absorbed else s)

/-- HOST_LINK_UP: the link reaches DL_Up at a width and rate of R451, once PERST_N is high and CD22 runs (16 R549); a port that
was down enters up. -/
def execHostLinkUp (q lanes speed : Nat) (s : State) : Out :=
  .next (if 3 < q ∨ !(s.flag (fClkRun 22)) ∨ !((s.host q).perstHigh) ∨ !([1, 2, 4, 8, 16].contains lanes) ∨ speed = 0 ∨ 6 < speed then s
    else
      let s := ((s.modHost q (fun h => { h with linkUp := true })).set (fPortLanes q) lanes).set (fPortSpeed q) speed
      if s.get (fPortState q) = 0 then (s.set (fPortState q) 1).portChanged q else s)

/-- The host link of tile q goes down, with the trigger of event 0x60. -/
def State.linkFalls (s : State) (q trig lost absorbed : Nat) : State :=
  let s := ((s.modHost q (fun h => { h with linkUp := false }.cfgReset)).set (fPortLanes q) 0).set (fPortSpeed q) 0
  if s.get (fPortState q) = 1 then s.freezePort q trig lost absorbed else s

/-- HOST_LINK_DOWN. -/
def execHostLinkDown (q trig lost absorbed : Nat) (s : State) : Out :=
  .next (if 3 < q then s else s.linkFalls q trig lost absorbed)

/-- PORT_QUIESCE: quiesce written 1. -/
def State.quiescePort (s : State) (q : Nat) : State :=
  if q ≤ 3 ∧ s.get (fPortState q) = 1 then s.modHost q (fun h => { h with quiescing := true }) else s

def execPortQuiesce (q : Nat) (s : State) : Out := .next (if s.inSafe then s else s.quiescePort q)

/-- CQ i of function f owes its host a message: armed, with unread entries, and its count reached or its time set (R474). -/
def State.cqOwes (s : State) (q f i : Nat) : Bool :=
  s.isArmed q f (srcCq i) && s.msixOn q f && s.flag (fCqEn q f i) && s.cqUnread q f i != 0
    && (decide (max 1 (s.get (fCqCcnt q f i)) ≤ s.cqUnread q f i) || s.get (fCqCtime q f i) != 0)

/-- QUIESCE_COMPLETE (R485, R482): every command has its entry and every CQ its message; the port leaves up, and its DOE
sessions end (14 R500), and it holds the recovery buffer no more (16 R546). -/
def execQuiesceComplete (q : Nat) (s : State) : Out :=
  .next (if !((s.host q).quiescing) || !((s.host q).cmds.isEmpty) || !((s.host q).cutDue.isEmpty)
      || (s.host q).armed.any (fun k => decide (4 ≤ k % 2048) && s.cqOwes q (k / 2048) (k % 2048 - 4)) then s
    else
      let s := ((s.modHost q (fun h => { h with quiescing := false, lostSum := 0, absorbedSum := 0 })).set (fPortState q) 2).set
        (fPortQdone q) 1
      let s := if s.recHold = some q then s.releaseBuf else s
      ((s.portEvent q 0x62 0).endPortSessions q 2).portChanged q)

/-- A release (R483); `bme` is PF0's Bus Master Enable. -/
def State.releasePort (s : State) (q : Nat) (bme : Bool) : State :=
  if q ≤ 3 ∧ 2 ≤ s.get (fPortState q) ∧ (s.host q).linkUp ∧ bme ∧ !s.inSafe then
    let s := (List.range 17).foldl (fun s f => s.resetQueues q f) s
    let s := (s.set (fPortState q) 1).set (fPortQdone q) 0
    (s.portEvent q 0x61 0).portChanged q
  else s

def execPortRelease (q : Nat) (bme : Bool) (s : State) : Out := .next (if s.inSafe then s else s.releasePort q bme)

/-- HT_BIND_WRITE (R454). A binding whose window would pass the end of the DVA space is refused (R460). -/
def execHtBindWrite (q f : Nat) (w : Word) (s : State) : Out :=
  .next (
    if s.inSafe then s else
    if 3 < q ∨ 16 < f then s
    else
      let addr := regAddr (htBind q f)
      let s := s.checkReserved 16 (htBind q f) w
      let en := decide (bitsOf w 63 63 = 1)
      let u := bitsOf w 62 59
      let moves := en != s.flag (fBindEn q f) || u != s.get (fBindTenant q f)
      let queues := (List.range (fnQueues f)).any (fun i => s.flag (fSqEn q f i) || s.flag (fCqEn q f i))
      let st := s.get (fPortState q)
      if en && (match s.bindingOf u with
          | some x => x != (q, f)
          | none => false) then s.refuseWrite addr 3
      else if en && decide (2 ^ 48 < 4096 * bitsOf w 47 12 + s.windowSize q f) then s.refuseWrite addr 1
      else if moves && queues && decide (st = 1) then s.refuseWrite addr 2
      else
        let s := if moves && decide (2 ≤ st) then s.resetQueues q f else s
        let s := if en then { s with hosts := (List.range 4).foldl (fun l p =>
            let h := smGetD l HostTile.fresh p
            let rest := h.served.filter (fun x => x != u)
            smSetD l HostTile.fresh p { h with served := if p = q then rest ++ [u] else rest }) s.hosts } else s
        s.wr (htBind q f) (packW [(bitsOf w 63 55, 55), (bitsOf w 47 12, 12)]
          &&& (if f = 0 then BitVec.allOnes 64 else ~~~ (BitVec.ofNat 64 (2 ^ 55)))))

/-! ## Queue registers and doorbells -/

/-- A queue write is ignored (R464). -/
def State.cfgErr (s : State) (q f : Nat) : State := s.set (fFstCfgerr q f) 1

/-- A function whose queue pages answer: there, bound, and the index one of its queues (R453, R455). -/
def State.queueHere (s : State) (q f i : Nat) : Bool :=
  decide (q ≤ 3 ∧ f ≤ 16 ∧ i < fnQueues f) && s.fnThere q f && (s.boundTo q f).isSome

/-- A write of the bits `m` of queue register `r` (0 SQADDR, 1 SQCTL, 2 CQADDR, 3 CQCTL) of pair i (R464). -/
def State.queueWrite (s : State) (q f i r m : Nat) (w : Word) : State :=
  if !(s.queueHere q f i) ∨ 3 < r then s
  else
    let sq := decide (r < 2)
    let en := s.flag (if sq then fSqEn q f i else fCqEn q f i)
    let off := if r = 0 then sqAddr q f i else if r = 1 then sqCtl q f i else if r = 2 then cqAddr q f i else cqCtl q f i
    let s := if setsReserved off (maskW w m) then s.reservedWrite ((s.boundTo q f).getD 16) (regAddr off) else s
    let old := s.rd off
    let new := (s.writeFields off m w).rd off
    if r = 0 ∨ r = 2 then
      if en ∧ new ≠ old then s.cfgErr q f else s.wr off new
    else
      let k := bitsOf new 7 4
      let on := decide (bitsOf new 0 0 = 1)
      -- a write of one half sets the fields of that half alone
      let low := decide (m % 2 ^ 32 ≠ 0)
      let high := decide (2 ^ 32 ≤ m)
      if (low ∧ (k = 0 ∨ 12 < k)) ∨ (en ∧ k ≠ bitsOf old 7 4) ∨ (sq ∧ on ∧ !en ∧ !(s.flag (fCqEn q f i)))
          ∨ (!sq ∧ high ∧ fnVectors f ≤ bitsOf new 50 40) then s.cfgErr q f
      else
        let s := s.wr off new
        if on ∧ !en then
          if sq then (s.set (fSqHead q f i) 0).modPair q f i (fun p => { p with sqTail := 0 })
          else (s.modPair q f i (fun p => { p with cqHead := 0, cqTail := 0, phase := true })).arm q f (srcCq i)
        else s

/-- QUEUE_ENABLE: a whole-word write of a queue register. -/
def execQueueEnable (q f i r : Nat) (w : Word) (s : State) : Out := .next (s.queueWrite q f i r (2 ^ 64 - 1) w)

/-- A write of an SQ tail: an index beyond the depth sets err; a queue that is disabled keeps its tail (R465, R477). -/
def State.sqDoorbell (s : State) (q f i idx : Nat) : State :=
  if !(s.queueHere q f i) ∨ s.flag (fFstFlr q f) then s
  else if s.sqDepth q f i ≤ idx then s.set (fSqErr q f i) 1
  else if !(s.flag (fSqEn q f i)) then s
  else s.modPair q f i (fun p => { p with sqTail := idx })

def execSqTailDoorbell (q f i idx : Nat) (s : State) : Out := .next (s.sqDoorbell q f i idx)

/-- A write of a CQ head: one that advances it arms the queue (R465, R474, R477). -/
def State.cqDoorbell (s : State) (q f i idx : Nat) : State :=
  if !(s.queueHere q f i) ∨ s.flag (fFstFlr q f) then s
  else if s.cqDepth q f i ≤ idx then s.set (fCqErr q f i) 1
  else if !(s.flag (fCqEn q f i)) ∨ idx = (s.pair q f i).cqHead then s
  else (s.modPair q f i (fun p => { p with cqHead := idx })).arm q f (srcCq i)

def execCqHeadDoorbell (q f i idx : Nat) (s : State) : Out := .next (s.cqDoorbell q f i idx)

/-! ## Fetching (R465 to R468) -/

/-- Word j of an entry, 0 beyond its length (00 R13). -/
def entryWord (ws : List Word) (j : Nat) : Word := if j < bitsOf (ws.headD 0) 15 8 then ws.getD j 0 else 0

/-- The entry breaks R466. -/
def entryBad (ws : List Word) : Bool :=
  let w (j : Nat) : Word := entryWord ws j
  let ver := bitsOf (w 0) 7 0
  let op := bitsOf (w 0) 23 16
  let n := bitsOf (w 3) 31 0
  decide (ver = 0 ∨ bitsOf (ws.headD 0) 15 8 = 0)
    || (ver == 1 && (bitsOf (w 0) 31 26 != 0 || bitsOf (w 0) 63 48 != 0 || bitsOf (w 2) 63 48 != 0
        || bitsOf (w 3) 63 32 != 0 || (op != 0x10 && [4, 5, 6, 7].any (fun j => w j != 0))
        || (op == 0x10 && bitsOf (w 3) 31 16 != 0)))
    || !([0x01, 0x02, 0x03, 0x10].contains op)
    || (decide (op = 0x01 ∨ op = 0x02) && decide (n < 8 ∨ 2 ^ 24 < n ∨ n % 8 ≠ 0 ∨ (w 1).toNat % 8 ≠ 0
        ∨ bitsOf (w 2) 47 0 % 8 ≠ 0))

/-- A queue that may fetch now. -/
def State.fetchable (s : State) (q key : Nat) : Bool :=
  let f := key / 256
  let i := key % 256
  (s.boundTo q f).isSome && s.flag (fSqEn q f i) && !(s.flag (fFstFlr q f)) && !((s.host q).d3.contains f)
    && s.get (fSqHead q f i) != (s.pair q f i).sqTail
    && !((s.host q).cmds.any (fun c => c.f == f && c.i == i && c.fin.isSome && !c.mute && !(s.cqRoom q f i)))

/-- The queue served next: ascending function and queue, after the one served last (R468). -/
def State.nextQueue (s : State) (q : Nat) : Option Nat :=
  let h := s.host q
  if !(s.portUp q) ∨ h.quiescing ∨ s.inSafe ∨ 128 ≤ h.cmds.length then none
  else
    let l := (h.pairs.map Prod.fst).filter (fun k => s.fetchable q k)
    match h.last with
    | none => l.head?
    | some k => match l.find? (fun x => decide (k < x)) with
      | some x => some x
      | none => l.head?

/-- Takes the next entry off an SQ. -/
def State.advanceHead (s : State) (q key : Nat) : State :=
  let f := key / 256
  let i := key % 256
  (s.set (fSqHead q f i) ((s.get (fSqHead q f i) + 1) % s.sqDepth q f i)).modHost q (fun h => { h with last := some key })

/-- SQ_FETCH: host tile q fetches the next entry, whose words the host returns, and starts it; the host's answers as for `cache`. -/
def execSqFetch (q : Nat) (x : FetchedEntry) (s : State) : Out :=
  .next (match s.nextQueue q with
    | none => s
    | some key =>
      let w (j : Nat) : Word := entryWord x.words j
      let c : HostCmd :=
        { id := s.nextId, f := key / 256, i := key % 256, cid := bitsOf (w 0) 47 32, op := bitsOf (w 0) 23 16,
          hold := bitsOf (w 0) 24 24 == 1, fence := bitsOf (w 0) 25 25 == 1, haddr := (w 1).toNat,
          dva := bitsOf (w 2) 47 0, bytes := bitsOf (w 3) 31 0, args := [w 4, w 5, w 6, w 7],
          tenant := (s.boundTo q (key / 256)).getD 0, issued := false,
          fin := if entryBad x.words then some (0x01, 0, 0) else none, mute := false }
      let at_ := 4096 * s.get (fSqBase q (key / 256) (key % 256)) + 64 * s.get (fSqHead q (key / 256) (key % 256))
      let s := ((s.advanceHead q key).hostPages q (key / 256) at_ 64 x.pages).hostReads q (key / 256) at_ 64 x.pages
      { s.modHost q (fun h => { h with cmds := h.cmds ++ [c] }) with nextId := s.nextId + 1 })

/-- SQ_FETCH_ERROR: the fetch of the next queue ends in an error (R465). -/
def execSqFetchError (q : Nat) (s : State) : Out :=
  .next (match s.nextQueue q with
    | none => s
    | some key => ((s.set (fSqErr q (key / 256) (key % 256)) 1).set (fSqEn q (key / 256) (key % 256)) 0).modHost q
        (fun h => { h with last := some key }))

/-! ## Work -/

/-- A command by its number, with its host tile. -/
def State.hostCmd (s : State) (id : Nat) : Option (Nat × HostCmd) :=
  (List.range 4).findSome? (fun q => ((s.host q).cmds.find? (fun c => c.id == id)).map (fun c => (q, c)))

def State.putHostCmd (s : State) (q : Nat) (c : HostCmd) : State :=
  s.modHost q (fun h => { h with cmds := h.cmds.map (fun x => if x.id = c.id then c else x) })

/-- A command that waits to start: held, or fenced behind an earlier one of its SQ (R466). An entry that breaks R466 ends
without a start. -/
def State.unstarted (s : State) (q : Nat) (c : HostCmd) : Bool :=
  c.fin.isNone && (c.hold
    || (c.fence && (s.host q).cmds.any (fun x => x.f == c.f && x.i == c.i && decide (x.id < c.id))))

/-- The command has started: commands of one SQ start in order, so that neither it nor an earlier one waits (R468). -/
def State.started (s : State) (q : Nat) (c : HostCmd) : Bool :=
  c.fin.isNone && !((s.host q).cmds.any (fun x => x.f == c.f && x.i == c.i && decide (x.id ≤ c.id) && s.unstarted q x))

/-- An earlier copy of the same SQ on overlapping device addresses is under way (R468). -/
def State.copyWaits (s : State) (q : Nat) (c : HostCmd) : Bool :=
  (s.host q).cmds.any (fun x => x.f == c.f && x.i == c.i && decide (x.id < c.id) && x.fin.isNone
    && decide (x.op = 1 ∨ x.op = 2) && decide (x.dva < c.dva + c.bytes ∧ c.dva < x.dva + x.bytes))

/-- The asker of function f's accesses at host tile q, for tenant u. -/
def State.hostAsker (s : State) (q f u : Nat) : Asker := ⟨16 * q + 14, u, fun _ => s.get (fBindLabel q f), fun _ => u⟩

/-- The work of a copy: what it does to the state, and its status and cause. Once its extent has passed it turns to the host's
memory, which `ask` does, and then it moves its bytes. -/
def State.copyWork (s : State) (q : Nat) (c : HostCmd) (u : Nat) (need : Need) (ask : State → State)
    (go : State → State × Option ExtFail) (ok : Bool) : State × Nat × Nat :=
  if s.inSafe then (s, 0x08, 0)
  else if s.fencedTen.contains u then (s.absorb, 0x05, 0)
  else match s.hostCheck u need c.dva c.bytes with
    | some e => (s.hostFault q c.f u need e, 0x02, e.cause)
    | none =>
      -- a command whose completion is discarded sends nothing to the host
      let s := if c.mute then s else ask s
      if !ok then (s, 0x04, 0)
      else
        let r := go (s.hubRequests (s.hostAsker q c.f u) (decide (need = .write)) c.dva c.bytes)
        match r.2 with
        | none => (r.1, 0, 0)
        -- beyond a window's size the target is not there
        | some e =>
          let e := if e.cause = 0 then { e with cause := 0x06, reached := (s.translate u e.v).getD 0 } else e
          (r.1.hostFault q c.f u need e, if e.cause = 0x07 then 0x03 else 0x02, e.cause)

/-- H2D_COPY of command `id`: `data` is what the host returns, `ok` that no host read failed, `pages` the host pages whose
translations the host gave. -/
def execH2dCopy (id : Nat) (data : List Byte) (ok : Bool) (pages : Option Translations) (s : State) : Out :=
  .next (match s.hostCmd id with
    | none => s
    | some (q, c) =>
      let u := c.tenant
      if c.op ≠ 1 ∨ !(s.started q c) ∨ s.copyWaits q c ∨ s.askHeld (s.hostAsker q c.f u) true c.dva c.bytes then s
      else
        let bs := (List.range c.bytes).map (fun i => data.getD i 0)
        let ask (s : State) : State := (s.hostPages q c.f c.haddr c.bytes pages).hostReads q c.f c.haddr c.bytes pages
        let r := s.copyWork q c u .write ask (fun s => s.extWrite u c.dva (s.sealBytes u c.dva bs)) ok
        r.1.putHostCmd q { c with fin := some (r.2.1, r.2.2, 0) })

/-- D2H_COPY of command `id`: `ok` that the host took every write, `odata` what an O-space window answers. -/
def execD2hCopy (id : Nat) (ok : Bool) (odata : List Byte) (pages : Option Translations) (s : State) : Out :=
  .next (match s.hostCmd id with
    | none => s
    | some (q, c) =>
      let u := c.tenant
      if c.op ≠ 2 ∨ !(s.started q c) ∨ s.copyWaits q c ∨ s.askHeld (s.hostAsker q c.f u) false c.dva c.bytes then s
      else
        let r := s.copyWork q c u .read (fun s => s.hostPages q c.f c.haddr c.bytes pages) (fun s =>
          let x := s.extRead u c.dva c.bytes odata
          match x.2 with
          | .ok bs => ((if c.mute then x.1 else x.1.hostWrites q c.f c.haddr (s.sealBytes u c.dva bs)), none)
          | .error e => (x.1, some e)) true
        let status := if r.2.1 = 0 ∧ !ok then 0x04 else r.2.1
        r.1.putHostCmd q { c with fin := some (status, r.2.2, 0) })

/-- NOP of command `id`. -/
def execNop (id : Nat) (s : State) : Out :=
  .next (match s.hostCmd id with
    | none => s
    | some (q, c) =>
      if c.op ≠ 3 ∨ !(s.started q c) then s
      else s.putHostCmd q { c with fin := some (if s.inSafe then 0x08 else 0, 0, 0) })

/-- CQ_ENTRY_WRITE: the completion of command x.id is written once the CQ has room, or dropped with its queue (R469 to
R471, R477, R480). -/
def execCqEntryWrite (x : EntryWrite) (s : State) : Out :=
  .next (match s.hostCmd x.id with
    | none => s
    | some (q, c) => match c.fin with
      | none => s
      | some (status, cause, result) =>
        let gone (s : State) : State := s.modHost q (fun h => { h with cmds := h.cmds.filter (fun y => y.id != x.id) })
        if c.mute ∨ !(s.portSends q) ∨ !(s.flag (fCqEn q c.f c.i)) then gone s
        else if !(s.cqRoom q c.f c.i) then s
        else
          let at_ := 4096 * s.get (fCqBase q c.f c.i) + 16 * (s.pair q c.f c.i).cqTail
          gone ((s.hostPages q c.f at_ 16 x.pages).pushCq q c.f c.i false c.cid status cause result))

/-! ## Ingest cuts (R472; 10 R358) -/

/-- INGEST: the tick program advances a tenant's ingest generation and signals the cut. -/
def execIngest (s : State) : Out :=
  .next (match s.program? opINGEST with
    | none => s
    | some w =>
      let u := bitsOf w 3 0
      let s := (s.progNext 1).set (fTsqIng u) (s.get (fTsqIng u) + 1)
      { s with cuts := s.cuts ++ [u] })

/-- The host tile that serves tenant u: that of its function, or, while it is unbound, of the function that it had last.
DESIGN CHOICE (log 100). -/
def State.servingTile (s : State) (u : Nat) : Option Nat :=
  match s.bindingOf u with
  | some x => some x.1
  | none => (List.range 4).find? (fun q => (s.host q).served.contains u)

/-- INGEST_CUT at the host tile of tenant u's function: an entry that found CQ 0 full is written once there is room; else the
next cut starts the held commands, and its entry is written or waits (R471, R472). -/
def execIngestCut (u : Nat) (s : State) : Out :=
  .next (
    let owed : Option (Nat × Nat × Word) := match s.bindingOf u with
      | some (q, f) => ((s.host q).cutDue.find? (fun (x : Nat × Word) => x.1 == f)).map (fun x => (q, x))
      | none => none
    match owed with
    | some (q, x) =>
      if s.cqRoom q x.1 0 then
        (s.pushCq q x.1 0 true 0 0 0 x.2).modHost q (fun h => { h with cutDue := h.cutDue.erase x })
      else s
    | none =>
      if !(s.cuts.contains u) then s
      else
        let s' := { s with cuts := s.cuts.erase u }
        match s.bindingOf u with
        | none => match s.servingTile u with
          | some q => s'.lose q 1
          | none => s'
        | some (q, f) =>
          if s.paused.contains u ∨ 2 ≤ s.get (fPortState q) then s'.lose q 1
          else
            let g := BitVec.ofNat 64 (s.get (fTsqIng u))
            let s' := s'.modHost q (fun h => { h with
              cmds := h.cmds.map (fun c => if c.f = f then { c with hold := false } else c) })
            if !(s.flag (fCqEn q f 0)) then s'
            else if s.cqRoom q f 0 then s'.pushCq q f 0 true 0 0 0 g
            else s'.modHost q (fun h => { h with cutDue := h.cutDue ++ [(f, g)] }))

/-! ## Messages (R474) -/

/-- MSIX_MESSAGE: source `src` of function f sends its message; none leaves without MSI-X Enable. -/
def execMsixMessage (q f src : Nat) (s : State) : Out :=
  .next (if !(s.isArmed q f src) ∨ !(s.msixOn q f) then s
    else match s.boundTo q f with
    | none => s
    | some u =>
      let send (v : Nat) : State := (s.disarm q f src).msix q f v
      if src = srcEvp then (if s.flag (fIvecEnEvp q f) ∧ s.ringUsed u true ≠ 0 then send (s.get (fIvecVEvp q f)) else s)
      else if src = srcEvn then
        (if s.flag (fIvecEnEvn q f) ∧ s.ringUsed u false ≠ 0 then send (s.get (fIvecVEvn q f)) else s)
      else if src = srcFlt then (if s.flag (fIvecEnFlt q f) ∧ s.faultUsed u ≠ 0 then send (s.get (fIvecVFlt q f)) else s)
      else if 4 ≤ src ∧ src - 4 < fnQueues f then
        let i := src - 4
        if s.flag (fCqEn q f i) ∧ max 1 (s.get (fCqCcnt q f i)) ≤ s.cqUnread q f i then send (s.get (fCqVec q f i)) else s
      else s)

/-- CQ_COALESCE_TIMEOUT: ctime has passed since the oldest pending entry of CQ i. -/
def execCqCoalesceTimeout (q f i : Nat) (s : State) : Out :=
  .next (if s.isArmed q f (srcCq i) ∧ s.msixOn q f ∧ i < fnQueues f ∧ s.flag (fCqEn q f i) ∧ s.get (fCqCtime q f i) ≠ 0
      ∧ s.cqUnread q f i ≠ 0 then (s.disarm q f (srcCq i)).msix q f (s.get (fCqVec q f i)) else s)

/-! ## Inbound requests to the memory window (R455, R458, R460, R461) -/

/-- Whether a window request of `n` bytes at offset `off` is turned away before translation: the answer to a non-posted one,
or the tenant. A request that no BAR of the function claims is not supported. -/
def State.windowGate (s : State) (q f off n : Nat) (translated : Bool) : Except String Nat :=
  match s.boundTo q f with
  | none => .error "host-unsupported"
  | some u =>
    if s.inSafe then .error "host-completer-abort"
    else if translated ∨ (s.host q).d3.contains f ∨ !(s.fnThere q f) ∨ s.windowSize q f < off + n then .error "host-unsupported"
    else if s.fencedTen.contains u then .error "host-completer-abort"
    else .ok u

/-- The DVA of a window offset (R460). -/
def State.windowDva (s : State) (q f off : Nat) : Nat := 4096 * s.get (fBindWbase q f) + off

/-- A request into a partition under reset is counted (16 R554). -/
def State.countAbsorbed (s : State) (q f : Nat) : State :=
  match s.boundTo q f with
  | some u => if s.fencedTen.contains u then s.absorb else s
  | none => s

/-- The package is in recovery mode: BAR2 reaches the recovery buffer (16 R544, R546). -/
def State.inRecovery (s : State) : Bool := decide (s.get fBootMode = 3)

/-- The access lies in the recovery buffer, and the tile holds it. -/
def inBuffer (f off n : Nat) : Bool := decide (f = 0 ∧ off + n ≤ 2 ^ 23)

/-- HOST_MEM_READ of `n` bytes at window offset `off`. -/
def execHostMemRead (q f off n : Nat) (translated : Bool) (odata : List Byte) (s : State) : Out :=
  .next (
    if !(s.flag (fClkRun 22)) then s
    else if s.inRecovery then
      if !(inBuffer f off n) ∨ translated then s.answerHost q "host-unsupported" [q, f, off] []
      else s.readAnswer q f off
        ((List.range n).map (fun i => if s.recHold = some q then s.bufByte (off + i) else 0))
    else match s.windowGate q f off n translated with
    | .error a => (s.countAbsorbed q f).answerHost q a [q, f, off] []
    | .ok u =>
      let v := s.windowDva q f off
      if s.askHeld (s.hostAsker q f u) false v n then s else match s.hostCheck u .read v n with
      | some e => (s.hostFault q f u .read e).answerHost q "host-completer-abort" [q, f, off] []
      | none =>
        let r := (s.hubRequests (s.hostAsker q f u) false v n).extRead u v n odata
        match r.2 with
        | .ok bs => r.1.readAnswer q f off (s.sealBytes u v bs)
        | .error e => (r.1.hostFault q f u .read e).answerHost q "host-completer-abort" [q, f, off] [])

/-- HOST_MEM_WRITE at window offset `off`; `poisoned` marks a poisoned TLP. -/
def execHostMemWrite (q f off : Nat) (bs : List Byte) (translated poisoned : Bool) (s : State) : Out :=
  .next (
    if !(s.flag (fClkRun 22)) then s
    else if s.inRecovery then
      if poisoned then s.emit "aer-poisoned-tlp" [q, f] []
      else if !(inBuffer f off bs.length) ∨ translated then s.emit "aer-unsupported-request" [q, f] []
      else if s.recHold ≠ some q then s
      else { s with cro := { s.cro with
        recBuf := bs.zipIdx.foldl (fun l x => smInsert l (off + x.2) x.1) s.cro.recBuf } }
    else match s.windowGate q f off bs.length translated with
    | .error a => if a = "host-unsupported" then s.emit "aer-unsupported-request" [q, f] [] else s.countAbsorbed q f
    | .ok u =>
      if poisoned then s.emit "aer-poisoned-tlp" [q, f] []
      else
        let v := s.windowDva q f off
        if s.askHeld (s.hostAsker q f u) true v bs.length then s else match s.hostCheck u .write v bs.length with
        | some e => s.hostFault q f u .write e
        | none =>
          let r := (s.hubRequests (s.hostAsker q f u) true v bs.length).extWrite u v (s.sealBytes u v bs)
          match r.2 with
          | none => r.1
          | some e => r.1.hostFault q f u .write e)

/-- HOST_ATOMICOP on `n` = 4 or 8 bytes: kind 1 FetchAdd, 2 Swap, 3 CAS; 4 more where the request is translated (R461). -/
def execHostAtomicop (q f off n kind x cmp : Nat) (odata : List Byte) (s : State) : Out :=
  .next (if !(s.flag (fClkRun 22)) then s
    else if s.inRecovery then s.answerHost q "host-unsupported" [q, f, off] []
    else match s.windowGate q f off n (decide (4 ≤ kind)) with
    | .error a => (s.countAbsorbed q f).answerHost q a [q, f, off] []
    | .ok u =>
      let v := s.windowDva q f off
      if (n ≠ 4 ∧ n ≠ 8) ∨ v % n ≠ 0 ∨ kind = 0 ∨ 3 < kind then s.answerHost q "host-unsupported" [q, f, off] []
      else if s.askHeld (s.hostAsker q f u) true v n then s else match s.hostCheck u .atomic v n with
      | some e => (s.hostFault q f u .atomic e).answerHost q "host-completer-abort" [q, f, off] []
      | none =>
        let r := (s.hubRequests (s.hostAsker q f u) true v n).extAtomic u v n kind x cmp odata
        match r.2 with
        | .ok old => r.1.answerHost q "host-atomic-data" [q, f, off] (bytesLE n old)
        | .error e => (r.1.hostFault q f u .atomic e).answerHost q "host-completer-abort" [q, f, off] [])

/-! ## Function states (R458, R477), and ATS (09 R333) -/

/-- FLR of function f: its start, and with `finish` its end; commands in progress complete on the device side. -/
def execFlr (q f : Nat) (finish : Bool) (s : State) : Out :=
  .next (
    if 3 < q ∨ 16 < f then s
    else if !finish then
      (s.set (fFstFlr q f) 1).modHost q (fun h => { h with
        cmds := h.cmds.map (fun c => if c.f = f then { c with mute := true } else c) })
    else if !(s.flag (fFstFlr q f)) then s
    else
      ((s.resetQueues q f).clearVectors q f).set (fFstFlr q f) 0)

/-- D3HOT_ENTRY: function f enters D3hot. -/
def execD3hotEntry (q f : Nat) (s : State) : Out :=
  .next (if 3 < q ∨ 16 < f then s
    else s.modHost q (fun h => { h with d3 := f :: h.d3.filter (fun x => x != f) }))

/-- RETURN_TO_D0: function f takes commands again; its queues stand as they were. -/
def execReturnToD0 (q f : Nat) (s : State) : Out :=
  .next (if 3 < q ∨ 16 < f then s
    else s.modHost q (fun h => { h with d3 := h.d3.filter (fun x => x != f) }))

/-- ATS_INVALIDATION of `n` pages of function f: the covered translations go, and the completion returns (09 R333). -/
def execAtsInvalidation (q f page n : Nat) (s : State) : Out :=
  .next (
    let hit (x : Nat × Nat) : Bool := x.1 == f && decide (page ≤ x.2 ∧ x.2 < page + n)
    (s.modHost q (fun h => { h with atc := h.atc.filter (fun x => !(hit x)), noTr := h.noTr.filter (fun x => !(hit x)) })).answerHost q
      "ats-invalidation-completion" [q, f, page, n] [])

end Sys2Proof.Machine
end

