-- ==== Sys2Proof/Machine/Package.lean ====
section
/-! DEFINITION. What concerns the whole package: the alert pins, frames to the other packages, isolation of an open site,
the safe state (12 R421, R446; 16 R551; 17 R588; 19 R627). -/

namespace Sys2Proof.Machine

def State.modCro (s : State) (f : Crocus → Crocus) : State := { s with cro := f s.cro }
def State.modSec (s : State) (f : Security → Security) : State := { s with sec := f s.sec }
def State.modPeers (s : State) (f : Peers → Peers) : State := { s with peers := f s.peers }

/-- When the rejoins of open site k in the last 24 h, 8.64 × 10^12 steps of 10 ns, were accepted (12 R447). -/
def State.recentRejoins (s : State) (k : Nat) : List Nat :=
  (s.opn k).rejoinAt.filter (fun t => decide (s.now < t + 8640000000000))

def State.clk (s : State) (m : Nat) : ClkDomain := smGetD s.clks ClkDomain.init m
def State.modClk (s : State) (m : Nat) (f : ClkDomain → ClkDomain) : State :=
  { s with clks := smSetD s.clks ClkDomain.init m (f (s.clk m)) }

/-! ## Modes and pins -/

/-- The package is ready (16 R548). -/
def State.ready (s : State) : Bool := decide (s.get fBootMode = 1)

/-- MGT_STAT.fhold and FAULT_N follow their reasons (19 R627). -/
def State.pins (s : State) : State :=
  let h := (if s.flag fBootLogok then 0 else 1) + (if s.get fCcSpares = 0 then 2 else 0)
    + (if s.get fTwnState = 4 then 4 else 0)
  let s := s.set fMgtFhold h
  s.modCro (fun c => { c with faultN := decide (s.get fBootMode ≠ 1 ∨ h ≠ 0) })

/-- A response over the management port. -/
def State.mgtAnswer (s : State) (kind : String) (args : List Nat) (data : List Byte) : State := s.emit kind args data

/-! ## The fault history log (17 R569; 19 R629) -/

/-- Kinds that the state part of the log holds: repairs, permanent markings, absences, erasures, retirements. -/
def stateKind (w : Word) : Bool := [0x01, 0x03, 0x04, 0x05, 0x06].contains (bitsOf w 23 16)

/-- A record as it stands in the log, written now. -/
def State.logRecord (s : State) (kind uclass unit detail : Nat) : List Word :=
  [packW [(1, 0), (4, 8), (kind, 16), (uclass, 24), (unit % 2 ^ 32, 32)],
    packW [(s.cro.boots % 2 ^ 16, 0), ((s.now - s.cro.bootAt) / 100000000 % 2 ^ 32, 16)], 0, BitVec.ofNat 64 detail]

/-- The ring of 16,384 records with one added; when full it gives up its oldest, the one after the newest (19 R630). -/
def logAdd (l : List (List Word)) (r : List Word) : List (List Word) :=
  let l := l ++ [r]
  if 16384 < l.length then l.drop 1 else l

/-- The bytes of a half's body, of which its header holds the SM3 digest. -/
def bodyBytes (l : List (List Word)) : List Byte := l.flatMap (fun r => r.flatMap (fun w => bytesLE 8 w.toNat))

/-- The half's header is whole and its digest is that of the body. -/
def LogHalf.valid (h : LogHalf) : Bool := h.ver == 1 && h.len == 8 && h.digest == Config.sm3 (bodyBytes h.body)

/-- The half in force: the valid one with the higher sequence number; whether it is half A. -/
def Crocus.inForce (c : Crocus) : Option (LogHalf × Bool) :=
  match c.halves.1.filter LogHalf.valid, c.halves.2.filter LogHalf.valid with
  | none, none => none
  | some a, none => some (a, true)
  | none, some b => some (b, false)
  | some a, some b => if b.seq ≤ a.seq then some (a, true) else some (b, false)

/-- The state part's records in force. -/
def Crocus.stateRecords (c : Crocus) : List (List Word) := (c.inForce.map (fun x => x.1.body)).getD []

/-- Records that a half of 128 KiB holds behind its header of 64 B. -/
def halfRecords : Nat := 4094

/-- A record of the state part: it is compacted with those in force into the other half, whose header is written last, and
the older half is erased (19 R630). None: no room is left (17 R570). -/
def Crocus.stateAdd (c : Crocus) (r : List Word) : Option Crocus :=
  let body := c.stateRecords ++ [r]
  if halfRecords < body.length then none
  else
    let new (n : Nat) : Option LogHalf := some ⟨1, 8, n, Config.sm3 (bodyBytes body), body⟩
    some { c with halves := match c.inForce with
      | some (h, true) => (none, new (h.seq + 1))
      | some (h, false) => (new (h.seq + 1), none)
      | none => (new 1, none) }

/-- A record enters the log: the history ring, and the state part where its kind belongs there; without room there the log
counts as unwritable (17 R569, R570). -/
def State.logEnter (s : State) (r : List Word) : State :=
  let s := s.modCro (fun c => { c with log := logAdd c.log r })
  if !(stateKind (r.headD 0)) then s
  else match s.cro.stateAdd r with
  | some c => { s with cro := c }
  | none => s.set fBootLogok 0

/-- Crocus writes a record itself; once the log has been found unwritable none is written (16 R550). -/
def State.logNow (s : State) (kind uclass unit detail : Nat) : State :=
  if s.cro.ended.contains 5 ∧ !(s.flag fBootLogok) then s else s.logEnter (s.logRecord kind uclass unit detail)

/-! ## Frames to other packages (17 R588) -/

/-- The peer tile's site serves. -/
def State.siteServes (s : State) (n : Nat) : Bool := s.get (fSiteState n) == 2 || s.get (fSiteState n) == 3

/-- The peer port carries frames (19 R637). -/
def State.peerUp (s : State) (q : Nat) : Bool := decide (4 ≤ s.peers.lanes.getD q 0) && s.siteServes (peerSite q)
    && s.flag (fClkRun 23) && !(s.flag (fClkSrc 23))

/-- Sends a frame on a port that is up; in the safe state no frame leaves after the notice of it (16 R551). -/
def State.frame (s : State) (q type : Nat) (args : List Nat) (data : List Byte) : State :=
  if s.peerUp q ∧ !s.inSafe then
    let n := smGetD s.peers.seq 0 q
    (s.emit "peer-frame" ([q, type, n] ++ args) data).modPeers (fun p => { p with seq := smSetD p.seq 0 q ((n + 1) % 2 ^ 32) })
  else s

/-- NOTICE on every port: 1 safe state, 2 reset, 3 power loss (17 R585, R588). -/
def State.notice (s : State) (cause : Nat) : State := (List.range 4).foldl (fun s q => s.frame q 0x07 [cause] []) s

/-! ## Bonds (17 R567) -/

/-- Width code of one direction of a bond with the failed lanes `l`: lane 33 × g + i is lane i of group g, and i = 32
its spare. -/
def bondWidth (l : List Nat) : Nat :=
  let whole (g : Nat) : Bool := decide ((l.filter (fun x => x / 33 == g)).length ≤ 1)
  if (List.range 32).all whole then 0
  else if (List.range 16).all (fun g => whole g || whole (g + 16)) then 1
  else if (List.range 8).all (fun g => whole g || whole (g + 8) || whole (g + 16) || whole (g + 24)) then 2
  else 3

/-- Failed lanes of a site's bond in direction d. -/
def State.bondLanes (s : State) (n d : Nat) : List Nat :=
  (s.cro.lanes.filter (fun x => x / 2048 == 64 * d + n)).map (fun x => x % 2048)

/-- Spare lanes in service at a site: groups with a failed data lane and a sound spare. -/
def State.bondSpares (s : State) (n : Nat) : Nat :=
  ((List.range 2).map (fun d =>
    let l := s.bondLanes n d
    (((l.filter (fun x => x % 33 != 32)).map (fun x => x / 33)).eraseDups.filter (fun g =>
      !(l.contains (33 * g + 32)))).length)).foldl (· + ·) 0

/-- Width code of a site's bond: of its worse direction. -/
def State.bondCode (s : State) (n : Nat) : Nat := max (bondWidth (s.bondLanes n 0)) (bondWidth (s.bondLanes n 1))

/-! ## Open sites (12 R421, R446, R448) -/

/-- An open-site event: to firmware and to every tenant that grants the site. -/
def State.openEvent (s : State) (k type : Nat) (detail : Word) : State :=
  ((List.range 16).filter (fun u => s.flag (fGrantEn k u))).foldl (fun s u => s.raiseX u type [(k, 32)] detail)
    (s.raiseX 16 type [(k, 32)] detail)

/-- GRST_N is asserted and the rails go down. -/
def State.siteDown (s : State) (k : Nat) : State :=
  s.modOpen k (fun o => { o with
    rails := false, released := false, link := false, due := false, outs := [], ins := [], freed := 0, dack := none
    thr := false })

/-- The site was isolated in this very cycle (R450). -/
def State.justIsolated (s : State) (k : Nat) : Bool :=
  decide (k < 8) && s.get (fOsLstate k) == 5 && (s.opn k).isolatedAt == some s.now

/-- Isolates open site k (R446); a site that is not in use, or is isolated already, keeps its cause, but that of two causes of
one cycle the lower-numbered is recorded (R450). What the site has outstanding is answered: a message with code 0x6, a piece of
a window access with target unavailable. -/
def State.isolate (s : State) (k cause : Nat) : State :=
  let st := s.get (fOsLstate k)
  if s.justIsolated k then s.set (fOsCause k) (min cause (s.get (fOsCause k)))
  else if 7 < k ∨ st = 0 ∨ 4 < st then s
  else
    let held := (s.opn k).outs
    let s := (((s.set (fOsCause k) cause).set (fOsLstate k) 5).set (fOsRate k) 0).set (fOsMods k) 0
    let s := held.foldl (fun s o => match s.msg o.msg with
      | some m => if o.type = 1 ∨ o.type = 2 then s.putMsg o.msg { m with kind := .merr 0x6, data := [], route := s.routeOf m.dst m.src } else s
      | none => s) s
    let s := (held.filter (fun o => o.type == 0x0B || o.type == 0x0D)).foldl (fun s o => s.emit "window-unavailable" [k, o.tag] []) s
    let s := s.modOpen k (fun o => { o with isolatedAt := some s.now })
    (((s.siteDown k).set (fSiteState (openSite k)) 4).openEvent k 0x50 (packW [(cause, 0)])).capacityFell .net

/-- An open site is isolated before it is powered: its bond does not train (width 0b11, 01 R27), or its regulators lack phases
(16 R547). -/
def State.isolateBlank (s : State) (k cause : Nat) : State :=
  ((((s.set (fOsCause k) cause).set (fOsLstate k) 5).set (fSiteState (openSite k)) 4).modOpen k (fun o => { o with due := false })).openEvent
    k 0x50 (packW [(cause, 0)])

/-! ## The safe state (16 R551) -/

/-- Every host function reports the safe state (13 R475). -/
def State.tellHosts (s : State) : State :=
  (List.range 4).foldl (fun s q => (List.range 17).foldl (fun s f =>
    ((s.set (fFstSafe q f) 1).statusVector q f).emit "aer-uncorrectable-internal" [q, f] []) s) s

/-- Enters the safe state. `cause` is BOOT_STAT's cause where it has one; `detail` goes into the log record. -/
def State.enterSafe (s : State) (cause : Option Nat) (detail : Nat) : State :=
  -- CD0 hold is left by a power cycle alone (01 R23)
  if s.inSafe ∨ s.get fBootMode = 2 then s
  else
    let s := (s.notice 1).set fBootMode 4
    let s := match cause with
      | some c => s.set fBootCause c
      | none => s
    let s := (((s.set fTsqRun 0).set fTsqPhase 5).set fTsqEnded 0).set fRstBusy 0
    let s := (List.range 12).foldl (fun s g => s.set (fClkRun (5 + g)) 0) s
    let s := (List.range 8).foldl (fun s k =>
      if (s.opn k).rails then (s.siteDown k).set (fOsLstate k) 0 else s) s
    let s := s.modCro (fun c => { c with running := false, resetOf := none, retry := [] })
    (s.tellHosts.logNow 0x09 0x0A 0 detail).pins

/-- The safe state with a cause that BOOT_STAT names. -/
def State.safeState (s : State) (cause : Nat) : State := s.enterSafe (some cause) cause

end Sys2Proof.Machine
end

