-- ==== Sys2Proof/Machine/Net.lean ====
section
/-! DEFINITION. Commands of the hub network: packets, links, waveguides, labels, guarantees, probes, event queues (11 R373
to R415). The rows that carry packets and the rows that carry out a message, a copy or an access are two views: a packet
brings no effect at its destination by itself. -/

namespace Sys2Proof.Machine

/-! ## Packets (R381, R382) -/

/-- The virtual channel of a packet type: 0 control, 1 request, 2 response, 3 bulk; none: reserved (R382). -/
def pktVc (ty : Nat) : Option Nat :=
  if ty ∈ [0x01, 0x02, 0x03, 0x04, 0x0C, 0x0E] then some 1
  else if ty ∈ [0x05, 0x06, 0x07, 0x0B, 0x0D, 0x0F] then some 2
  else if ty ∈ [0x08, 0x09, 0x0A, 0x16] then some 3
  else if ty ∈ [0x10, 0x11, 0x12, 0x13, 0x14, 0x15] then some 0
  else none

/-- The payload bytes that a type may carry. -/
def pktLenOk (ty n : Nat) : Bool :=
  if ty = 0x01 ∨ ty = 0x03 then decide (8 ≤ n ∧ n ≤ 256)
  else if ty ∈ [0x04, 0x05, 0x11, 0x14, 0x15] then n == 8
  else if ty ∈ [0x09, 0x0A, 0x16] then decide (256 ≤ n ∧ n ≤ 2048)
  else if ty = 0x0D then decide (n ≤ 256)
  else if ty = 0x0E then decide (1 ≤ n ∧ n ≤ 256)
  else if ty = 0x12 then decide (n ≤ 8)
  else if ty = 0x13 then decide (8 ≤ n ∧ n ≤ 224)
  else n == 0

/-- Types that are answered, and types that answer. -/
def pktAsks (ty : Nat) : Bool := ty ∈ [0x01, 0x02, 0x04, 0x08, 0x0A, 0x0C, 0x0E, 0x10, 0x11, 0x16]
def pktAnswers (ty : Nat) : Bool := ty ∈ [0x03, 0x05, 0x06, 0x07, 0x09, 0x0B, 0x0D, 0x0F, 0x12]

/-- A message request, a memory request, an engine request, a register request. -/
def pktMsg (ty : Nat) : Bool := ty ∈ [0x01, 0x02, 0x04]
def pktMem (ty : Nat) : Bool := ty ∈ [0x08, 0x0A, 0x16]
def pktEng (ty : Nat) : Bool := ty ∈ [0x0C, 0x0E]

/-- The types that answer a request type (R382). -/
def pktAnsweredBy (ty : Nat) : List Nat :=
  if ty = 0x01 then [0x06, 0x07] else if ty = 0x02 then [0x03, 0x07] else if ty = 0x04 then [0x05, 0x07]
  else if ty = 0x08 then [0x09, 0x0B] else if ty = 0x0A ∨ ty = 0x16 then [0x0B]
  else if ty = 0x0C then [0x0D] else if ty = 0x0E then [0x0F]
  else if ty = 0x10 ∨ ty = 0x11 then [0x12] else []

/-- The type of the answer that reports an error. -/
def pktErrorType (ty : Nat) : Nat := (pktAnsweredBy ty).getLastD 0x07

def Packet.w (p : Packet) (i : Nat) : Word := p.hdr.getD i 0
def Packet.type (p : Packet) : Nat := bitsOf (p.w 0) 21 16
def Packet.vc (p : Packet) : Nat := bitsOf (p.w 0) 23 22
def Packet.src (p : Packet) : Nat := bitsOf (p.w 0) 29 24
def Packet.dst (p : Packet) : Nat := bitsOf (p.w 0) 35 30
def Packet.tenant (p : Packet) : Nat := bitsOf (p.w 0) 39 36
def Packet.label (p : Packet) : Nat := bitsOf (p.w 0) 42 40
def Packet.xp (p : Packet) : Bool := bitsOf (p.w 0) 43 43 == 1
def Packet.fw (p : Packet) : Bool := bitsOf (p.w 0) 56 56 == 1
def Packet.tag (p : Packet) : Nat := bitsOf (p.w 2) 63 48
def Packet.age (p : Packet) : Nat := bitsOf (p.w 3) 23 0

/-- Flits of a packet (R381). -/
def Packet.flits (p : Packet) : Nat := (32 + p.data.length + 255) / 256

/-- One bit of the reflected CRC-32C. -/
def crcStep (c : BitVec 32) : BitVec 32 := if c.getLsbD 0 then (c >>> 1) ^^^ 0x82F63B78 else c >>> 1

/-- CRC-32C: polynomial 0x1EDC6F41 reflected, initial value and final XOR 0xFFFFFFFF (R384). -/
def crc32c (bs : List Byte) : BitVec 32 :=
  (bs.foldl (fun c b =>
    crcStep (crcStep (crcStep (crcStep (crcStep (crcStep (crcStep (crcStep (c ^^^ b.setWidth 32))))))))) 0xFFFFFFFF)
    ^^^ 0xFFFFFFFF

/-- The header of R381 with its CRC; control packets include their payload. -/
def pktHdr (w0 w1 w2 : Word) (age vc : Nat) (data : List Byte) : List Word :=
  let hs := bytesLE 8 w0.toNat ++ bytesLE 8 w1.toNat ++ bytesLE 8 w2.toNat ++ bytesLE 4 age
  let crc := crc32c (if vc = 0 then hs ++ data else hs)
  [w0, w1, w2, packW [(age, 0), (crc.toNat, 32)]]

/-! ## Labels at an injector (R404 to R408) -/

/-- ol_eff of a label at an injector. -/
def State.olEff (s : State) (site l : Nat) : Nat :=
  let ol := bitsOf (s.labelWord l) 39 32
  min ol ((smLookup s.hub.tight (8 * site + l)).getD ol)

/-! ## Injection (R375, R380, R384, R405, R406) -/

/-- The partition that a packet belongs to; 16 the hub's own. -/
def Packet.part (p : Packet) : Nat := if p.fw then 16 else p.tenant

/-- A site port that serves more than one partition (R380). -/
def State.sharedPort (s : State) (site : Nat) : Bool :=
  decide (12 ≤ site % 16) || (List.range 64).any (fun r =>
    s.flag (fRgnValid r) && s.flag (fRgnSealed r) && decide (tileSite (s.get (fRgnStack r)) = site))

/-- The site port's queue of the packet's channel has a slot for its partition. -/
def State.slotFree (s : State) (site : Nat) (p : Packet) : Bool :=
  if !s.sharedPort site then true
  else
    let q := (s.hub.pkts.filter (fun x => decide (x.2.loc = .site ∧ x.2.src = site ∧ x.2.vc = p.vc))).map (fun x => x.2.part)
    let own := (q.filter (fun u => u == p.part)).length
    let shared := ((List.range 17).map (fun u => (q.filter (fun v => v == u)).length - 2)).foldl (· + ·) 0
    decide (own < 2 ∨ shared < 8)

/-- The owed request that an answer answers (R382, R383). -/
def State.owedBy (s : State) (site dst ty tag : Nat) : Option Owed :=
  s.hub.owed.find? (fun o => decide (o.site = site ∧ o.src = dst ∧ o.tag = tag) && (pktAnsweredBy o.type).contains ty)

/-- The request that a resource serves next: boosted labels by rising label, then the others by rising label, then by
arrival (R409). -/
def State.nextOwed (s : State) (res : Nat) : Option Owed :=
  let rank (o : Owed) : Nat := if s.hub.boosted.contains (8 * o.src + o.label) then o.label else 8 + o.label
  (s.hub.owed.filter (fun o => o.res == some res)).foldl (fun b o => match b with
    | none => some o
    | some y => if rank o < rank y then some o else some y) none

/-- The resource serves owed request `o` now: it is next, and a stack controller that served a remote request last lets a
local chunk that can move go first (R409). -/
def State.serves (s : State) (o : Owed) : Bool :=
  match o.res with
  | none => true
  | some r => s.nextOwed r == some o && !(s.hub.remoteLast.contains r && s.localReady r)

/-- The shared resource that a request goes to: of a message the open site of its node, of a memory or engine request what its
device address names (R405, R409). -/
def State.pktTarget (s : State) (ty dst addr : Nat) : Option Nat :=
  if pktMem ty ∨ pktEng ty then s.pktRes dst addr
  else if pktMsg ty ∧ 12 ≤ dst % 16 ∧ dst % 16 ≤ 13 then s.pktRes dst addr
  else none

/-- Puts a packet into its site port's queue; route, age and CRC are fixed here (R375, R381, R384). -/
def State.putPkt (s : State) (w0 w1 w2 : Word) (vc : Nat) (data : List Byte) : State :=
  let src := bitsOf w0 29 24
  let dst := bitsOf w0 35 30
  let xp := decide (vc ≠ 0) && s.express src dst
  let w0 := putBits w0 43 43 (if xp then 1 else 0)
  let p : Packet := ⟨pktHdr w0 w1 w2 (s.hubTime % 2 ^ 24) vc data, data, .site, !xp, false, 0⟩
  { s with nextId := s.nextId + 1 }.modHub (fun h => { h with pkts := h.pkts ++ [(s.nextId, p)] })

/-- The tenant that the injecting site port writes into a request's header (14 R490): of a core its tile's owner, of a host
function the tenant bound to it, of a node the granting tenant, the owner of what its request reaches. -/
def State.portTenant (s : State) (ty src addr sid : Nat) : Nat :=
  (if src % 16 ≤ 11 then s.tileOwner (siteTile src)
   else if src % 16 ≤ 13 then (if pktMsg ty then s.coreTenant (addr % 2 ^ 24) else s.ownerAt addr)
   else if src % 16 = 14 then s.boundTo (src / 16) (sid % 32)
   else none).getD 0

/-- PACKET_INJECT. Words 0 to 2 give type, sites, label, address, info, identity and tag, and in fw whether the control complex
or the tick sequencer injects; the port writes the tenant and fixes the rest (14 R490). An answer carries its request's
tenant. `n` is what an engine read asks for; a memory read's header says it (R381). A request that lacks tokens, a free
outstanding entry or a slot waits, and so does the answer to a request that its resource does not serve next. -/
def execPacketInject (w0 w1 w2 : Word) (data : List Byte) (n : Nat) (s : State) : Out :=
  .next (
    let ty := bitsOf w0 21 16
    let src := bitsOf w0 29 24
    let dst := bitsOf w0 35 30
    let addr := bitsOf w1 47 0
    let tag := bitsOf w2 63 48
    let asks := pktAsks ty
    let owed := if asks then none else s.owedBy src dst ty tag
    let fw := match owed with
      | some o => if o.fw then 1 else 0
      | none => if src % 16 = 15 then 1 else bitsOf w0 56 56
    let u := if fw = 1 then 0 else match owed with
      | some o => o.tenant
      | none => s.portTenant ty src addr (bitsOf w2 47 0)
    let l := bitsOf w0 42 40
    match pktVc ty with
    | none => s
    | some vc =>
      let w0' := packW [(1, 0), (4, 8), (ty, 16), (vc, 22), (src, 24), (dst, 30), (u, 36), (l, 40), (data.length, 44), (fw, 56)]
      let age := s.hubTime % 2 ^ 24
      let res := if asks then s.pktTarget ty dst addr else none
      let reads := ty = 0x02 ∨ ty = 0x08 ∨ ty = 0x0C
      let cost := if ty = 0x08 then 256 * bitsOf w1 63 48 else if reads then n else data.length
      let fenced : Bool := asks && fw != 1 && decide (src % 16 ≤ 11) && s.fencedTen.contains u
      let busy : Bool := asks && decide (s.olEff src l ≤ (s.hub.awaits.filter (fun a => decide (a.site = src ∧ a.label = l))).length)
      let later : Bool := match owed with
        | some o => !(s.serves o)
        | none => false
      let p : Packet := ⟨[w0', w1, w2], data, .site, true, false, 0⟩
      if !(pktLenOk ty data.length) || fenced || busy || later || !(s.slotFree src p) then s
      else match (match res with
          | some r => s.takeTokens src u l (fw == 1) (!decide reads) r addr cost
          | none => some s) with
        | none => s
        | some s =>
          let s := s.putPkt w0' w1 w2 vc data
          let s := s.modHub (fun h => { h with
            awaits := if asks then h.awaits ++ [⟨src, ty, fw == 1, l, u, res, tag, age⟩] else h.awaits })
          match owed with
          | none => s
          | some o => s.modHub (fun h => { h with
              owed := h.owed.erase o
              remoteLast := match o.res with
                | some r => if h.remoteLast.contains r then h.remoteLast else h.remoteLast ++ [r]
                | none => h.remoteLast }))

/-! ## Routing and arbitration (R375 to R379) -/

/-- An output of a router or a station: toward router `n` by port `p` (0 to 3: from the neighbour on that side; 4: from
the site port; 5: from the station of its quadrant); port 6: from router `n` into its quadrant's station; port 7: from
router `n` to its site port; port 8 + k: on the waveguide from quadrant k to the station of `n`'s quadrant. -/
def neighbour (n p : Nat) : Option Nat :=
  let xy := siteXY n
  if p = 0 then (if xy.2 = 0 then none else some (siteAt xy.1 (xy.2 - 1)))
  else if p = 1 then (if xy.1 = 7 then none else some (siteAt (xy.1 + 1) xy.2))
  else if p = 2 then (if xy.2 = 7 then none else some (siteAt xy.1 (xy.2 + 1)))
  else if p = 3 then (if xy.1 = 0 then none else some (siteAt (xy.1 - 1) xy.2))
  else none

/-- The waveguide that an express packet takes, and whether it is out of service. -/
def Packet.guide (p : Packet) : Nat := waveguide (quad p.src) (quad p.dst)
def State.guideLost (s : State) (w : Nat) : Bool := s.get (fXwgState w) == 3

/-- The output that a packet wants next: router or station site, port as above. -/
def State.wants (s : State) (p : Packet) : Nat × Nat :=
  match p.loc with
  | .site => (p.src, 4)
  | .station q =>
    if p.post ∨ s.guideLost p.guide then (station q, 5) else (station (quad p.dst), 8 + q)
  | .router n _ =>
    let target := if p.post then p.dst else station (quad p.src)
    match nextHop n target with
    | some (d, m) => (m, (d + 2) % 4)
    | none => if p.post then (n, 7) else (n, 6)

/-- Flits that each input port and each station hold, per class (R377). -/
def vcRoom (vc : Nat) : Nat := if vc = 0 then 2 else if vc = 3 then 10 else 4

/-- Where a packet stands once it has taken an output, and its class there. -/
def landing (n p : Nat) (x : Packet) : PktAt × Bool :=
  if p = 6 then (.station (quad n), false)
  else if 8 ≤ p then (.station (quad n), true)
  else (.router n p, x.post || p == 5)

/-- The downstream buffer has room for the whole packet. -/
def State.hasRoom (s : State) (n p : Nat) (x : Packet) : Bool :=
  if p = 7 then true
  else
    let l := landing n p x
    let used := (s.hub.pkts.filter (fun y => decide (y.2.loc = l.1 ∧ y.2.vc = x.vc) && y.2.post == l.2)).map
      (fun y => y.2.flits)
    decide (used.foldl (· + ·) 0 + x.flits ≤ vcRoom x.vc)

/-- The head of a packet's queue: no earlier packet of its place, channel and class stands before it. In a site port's
queue the requests of boosted labels go ahead, of either class (R407). -/
def State.isHead (s : State) (id : Nat) (x : Packet) : Bool :=
  let boosted (y : Packet) : Bool := pktAsks y.type && s.hub.boosted.contains (8 * y.src + y.label)
  !(s.hub.pkts.any (fun y =>
    decide (y.1 ≠ id ∧ y.2.loc = x.loc ∧ y.2.vc = x.vc) && decide (y.2.loc = .site → y.2.src = x.src)
      && (if x.loc = .site ∧ boosted y.2 ≠ boosted x then boosted y.2 else y.2.post == x.post && decide (y.1 < id))))

/-- Packet a is older than packet b (R379). -/
def older (a b : Nat) : Bool := let d := (b + 2 ^ 24 - a) % 2 ^ 24; decide (1 ≤ d ∧ d < 2 ^ 23)

/-- The order of equal ages: input port N, E, S, W, local, and post before pre within one port (R378). -/
def portRank (x : Packet) : Nat :=
  2 * (match x.loc with
    | .site => 4
    | .router _ p => p
    | .station _ => 5) + (if x.post then 0 else 1)

/-- The packet that goes before the others: the oldest, then by port. -/
def oldestPkt : List (Nat × Packet) → Option (Nat × Packet)
  | [] => none
  | x :: l => match oldestPkt l with
    | none => some x
    | some y =>
      if older x.2.age y.2.age then some x
      else if older y.2.age x.2.age then some y
      else if portRank y.2 < portRank x.2 then some y else some x

def linkKey (n p : Nat) : Nat := 16 * n + p

/-- The packet that an output serves next (R378). -/
def State.served (s : State) (n p : Nat) : Option (Nat × Packet) :=
  let ready := s.hub.pkts.filter (fun x => s.wants x.2 == (n, p) && s.isHead x.1 x.2 && s.hasRoom n p x.2)
  let of (vc : Nat) : Option (Nat × Packet) := oldestPkt (ready.filter (fun x => x.2.vc == vc))
  match of 0, of 2, of 1, of 3 with
  | some x, _, _, _ => some x
  | _, some x, _, _ => some x
  | _, _, some x, some y => if smGetD s.hub.turn 3 (linkKey n p) = 1 then some y else some x
  | _, _, some x, none => some x
  | _, _, none, y => y

/-- The clock domain behind a site port: a compute group, the open sites, the host tiles, the peer tiles (18). -/
def siteDom (n : Nat) : Nat :=
  if n % 16 ≤ 11 then tileDom (siteTile n) else if n % 16 ≤ 13 then 21 else if n % 16 = 14 then 22 else 23

/-- The clocks of both ends run, and the link or waveguide is not held for retraining. A site port's bridge holds its flits
while its site's clock is stopped; a gated site's port answers for it (R388; 18 R597). -/
def State.linkOpen (s : State) (n p : Nat) : Bool :=
  let run (m : Nat) : Bool := s.flag (fClkRun (1 + quad m))
  if p < 4 then
    match neighbour n p with
    | some m => run n && run m && !(s.hub.held.contains (8 * m + (p + 2) % 4))
    | none => false
  else if 8 ≤ p then run n && s.flag (fClkRun (1 + (p - 8))) && s.guideUp (waveguide (p - 8) (quad n))
  else if p = 4 ∨ p = 7 then run n && (s.flag (fClkRun (siteDom n)) || s.gated (siteDom n))
  else run n

/-- The port of a tile's site passes a packet for the tile's stack although the tile's own clock stands still: the stack side
runs in the quadrant's stack domain (R388; 18 R594). -/
def State.stackPort (s : State) (n : Nat) (x : Packet) : Bool :=
  s.flag (fClkRun (1 + quad n)) && s.flag (fClkRun (17 + quad n)) && decide (n % 16 ≤ 11)
    && [0x08, 0x09, 0x0A, 0x0B, 0x0C, 0x0D, 0x0E, 0x0F, 0x16].contains x.type
    && (match s.place (bitsOf (x.w 1) 47 0) with
      | .stack t _ => tileSite t == n
      | _ => false)

/-! ## Probes (R393, R394) -/

/-- One probe sees a packet accepted at input port `p` of router `n`. -/
def State.probeSees (s : State) (n p j : Nat) (x : Packet) : State :=
  let w := s.rd (lupCtl n j)
  let mode := bitsOf w 1 0
  let diff := (bitsOf (x.w 0) 56 16 ^^^ s.get (fLupMatch n j)) &&& s.get (fLupMask n j)
  if bitsOf w 53 49 / 2 ^ p % 2 = 0 ∨ bitsOf w 48 44 / 2 ^ s.get fTsqPhase % 2 = 0 ∨ diff ≠ 0 then s
  else
    let k := smGetD s.hub.seen 0 (4 * n + j)
    let s := s.modHub (fun h => { h with seen := smSetD h.seen 0 (4 * n + j) (k + 1) })
    let s := if mode = 1 then s.addSat (fLupCnt n j) 1 else if mode = 2 then s.addSat (fLupCnt n j) x.flits else s
    if bitsOf w 2 2 = 0 ∨ k % 2 ^ bitsOf w 43 40 ≠ 0 then s
    else s.raiseX (if bitsOf w 54 54 = 1 then bitsOf w 58 55 else 16) 0x44 [(n, 32), (p, 38), (j, 48)] (x.w 0)

/-- LUP_PROBE_WRITE of register `r` (0 control, 1 match, 2 mask) of probe j at site n by `who` (16: firmware). -/
def State.probeWrite (s : State) (n j r who : Nat) (w : Word) : State :=
  let off := lupCtl n j + 8 * r
  let mine := who = 16 ∨ (s.flag (fLupTown n j) ∧ s.get (fLupOwner n j) = who)
  if 63 < n ∨ 3 < j ∨ 2 < r ∨ !mine then s
  else
    let s := s.checkReserved who off w
    if r = 0 ∧ bitsOf w 1 0 = 3 then s
    else
      let keep := if who = 16 then 0 else 0x07C0000000000000
      let m := if r = 0 then 2 ^ 64 - 1 - keep else 2 ^ 64 - 1
      let s := s.writeFields off m w
      let s := if s.flag (fLupTown n j) then
          let f := s.rd (lupCtl n j + 8)
          let g := s.rd (lupCtl n j + 16)
          (s.wr (lupCtl n j + 8) (putBits (putBits f 39 36 (s.get (fLupOwner n j))) 56 56 0)).wr (lupCtl n j + 16)
            (putBits (putBits g 39 36 0xF) 56 56 1)
        else s
      s.modHub (fun h => { h with seen := smSetD h.seen 0 (4 * n + j) 0 })

def execLupProbeWrite (n j r who : Nat) (w : Word) (s : State) : Out := .next (if who = 16 ∧ s.inSafe then s else s.probeWrite n j r who w)

/-! ## Acceptance and ejection -/

/-- Average request-to-answer time of a label at an injector: sum in 10 ns, and number of answers. -/
def State.labelTimes (s : State) (site l : Nat) : Nat × Nat :=
  let ts := smGetD s.hub.times [] (8 * site + l)
  ((ts.map Prod.fst).foldl (· + ·) 0, ts.length)

/-- The target of a label in 10 ns. -/
def State.targetTime (s : State) (l : Nat) : Nat := 10 * bitsOf (s.labelWord l) 63 48

/-- An answer reached its injector: the request is no longer outstanding, its time counts (R406, R407). One that no request
awaits is late: it is discarded and counted (R392). -/
def State.answered (s : State) (site : Nat) (p : Packet) : State :=
  match s.hub.awaits.find? (fun a => decide (a.site = site ∧ a.tag = p.tag) && (pktAnsweredBy a.type).contains p.type) with
  | none => s.addSat (fRstStale site) 1
  | some a =>
    let key := 8 * site + a.label
    let dt := (s.hubTime + 2 ^ 24 - a.since) % 2 ^ 24
    let s := s.modHub (fun h => { h with
      awaits := h.awaits.erase a
      times := smSetD h.times [] key (((dt, a.tenant) :: smGetD h.times [] key).take 64) })
    let t := s.labelTimes site a.label
    let target := s.targetTime a.label
    s.modHub (fun h => { h with
      boosted :=
        if 3 * target * t.2 < 4 * t.1 then (if h.boosted.contains key then h.boosted else h.boosted ++ [key])
        else if 2 * t.1 < target * t.2 then h.boosted.filter (fun k => k != key)
        else h.boosted })

/-- The channel of a site port's own answer. -/
def Packet.errorVc (x : Packet) : Nat := (pktVc (pktErrorType x.type)).getD 2

/-- A site port's own answer to a request: a message error of code `code`, else an error completion (R386, R392; 18 R597). -/
def State.portAnswer (s : State) (n : Nat) (x : Packet) (code reason : Nat) : State :=
  let ty := pktErrorType x.type
  let vc := x.errorVc
  let w0 := packW [(1, 0), (4, 8), (ty, 16), (vc, 22), (n, 24), (x.src, 30), (x.tenant, 36), (x.label, 40),
    (if x.fw then 1 else 0, 56)]
  let info := if ty = 0x07 then code else (Config.hubStatus reason).toNat
  s.putPkt w0 (packW [(bitsOf (x.w 1) 47 0, 0), (info, 48)]) (packW [((Config.answerSid n).toNat, 0), (x.tag, 48)]) vc []

/-- The memory or engine request's address lies in a stack, which answers although its tile's domain stands still. -/
def State.toStack (s : State) (x : Packet) : Bool :=
  (pktMem x.type || pktEng x.type) && (match s.place (bitsOf (x.w 1) 47 0) with
    | .stack _ _ => true
    | _ => false)

/-- The site port answers the request itself. -/
def State.selfAnswers (s : State) (n : Nat) (x : Packet) : Bool :=
  (decide (n % 16 ≤ 11) && (pktMsg x.type || pktMem x.type || pktEng x.type) && (s.tileOwner (siteTile n)).any s.fencedTen.contains)
    || (s.gated (siteDom n) && !(s.toStack x)) || x.bad

/-- The queue that the port's own answer would enter has a slot for it (R380). -/
def State.answerSlot (s : State) (n : Nat) (x : Packet) : Bool :=
  s.slotFree n ⟨[packW [(x.errorVc, 22), (x.tenant, 36), (if x.fw then 1 else 0, 56)]], [], .site, true, false, 0⟩

/-- A request leaves the hub at site port n: the port of a partition under reset, of a gated site, or that finds the payload
uncorrectable answers it; else it awaits its service (R383, R386, R388, R392; 18 R597). -/
def State.eject (s : State) (n : Nat) (x : Packet) : State :=
  let ty := x.type
  let addr := bitsOf (x.w 1) 47 0
  if n % 16 ≤ 11 ∧ (pktMsg ty ∨ pktMem ty ∨ pktEng ty) ∧ (s.tileOwner (siteTile n)).any s.fencedTen.contains then
    (s.absorb).portAnswer n x 0x4 2
  else if s.gated (siteDom n) ∧ !(s.toStack x) then
    let s := s.portAnswer n x 0x7 (if pktMsg ty ∨ pktMem ty ∨ pktEng ty then 3 else 4)
    if ty = 0x10 ∨ ty = 0x11 then s.raiseX 16 0x08 [] (packW [(addr, 0), (n, 48), (if ty = 0x11 then 1 else 0, 56)]) else s
  else if x.bad then s.portAnswer n x 0x8 1
  else s.modHub (fun h => { h with owed := h.owed ++ [⟨n, x.src, ty, x.tag, x.label, s.pktTarget ty n addr, x.tenant, x.fw⟩] })

/-- ROUTER_ACCEPT at output (n, p) of `wants`: the packet served there moves on; `ce` groups and words were corrected. -/
def execRouterAccept (n p ce : Nat) (s : State) : Out :=
  .next (match s.served n p with
    | none => s
    | some (id, x) =>
      if !(s.linkOpen n p || ((p == 4 || p == 7) && s.stackPort n x)) then s
      -- the answer that the port gives itself needs its slot
      else if p = 7 ∧ pktAsks x.type ∧ s.selfAnswers n x ∧ !(s.answerSlot n x) then s
      else
        let s := (s.addSat (fRstCe n) ce).modHub (fun h => { h with
          pkts := smErase h.pkts id
          turn := if x.vc = 1 ∨ x.vc = 3 then smSetD h.turn 3 (linkKey n p) x.vc else h.turn })
        if p = 7 then (if pktAnswers x.type then s.answered n x else if pktAsks x.type then s.eject n x else s)
        else
          let l := landing n p x
          let k := s.nextId
          let s := { s with nextId := k + 1 }
          let s := s.modHub (fun h => { h with pkts := h.pkts ++ [(k, { x with loc := l.1, post := l.2, tries := 0 })] })
          if p ≤ 4 then (List.range 4).foldl (fun s j => s.probeSees n p j x) s else s)

/-! ## Errors of links and waveguides (R385, R386, R390, R391) -/

/-- Event 0x40: the hub network has failed; the package enters its safe state. -/
def State.hubFails (s : State) (n p : Nat) : State := (s.raiseX 16 0x40 [(n, 32), (p, 38)] 0).safeState 0x0B

/-- Port of the event record for an output port of ROUTER_ACCEPT. -/
def evPort (p : Nat) : Nat := if p < 4 then p else if p = 4 ∨ p = 7 then 4 else 5

/-- LINK_REPLAY at the output (n, p): `kind` 0 a double-bit error on a body flit, 1 on a head flit, 2 a CRC failure or a
reserved type; 3 and 4 an uncorrectable payload or header word in the buffer that holds the packet. -/
def execLinkReplay (n p kind : Nat) (s : State) : Out :=
  .next (match s.served n p with
    | none => s
    | some (id, x) =>
      let put (s : State) (y : Packet) : State := s.modHub (fun h => { h with pkts := smInsert h.pkts id y })
      if kind = 3 then put s { x with bad := true }
      else if kind = 4 then s.hubFails n (evPort p)
      else if 2 < kind then s
      else if x.tries < 3 then put (s.addSat (fRstReplay n) 1) { x with tries := x.tries + 1 }
      else if kind = 0 then put s { x with bad := true }
      else s.hubFails n (evPort p))

/-- HUB_LINK_NARROW: a wire of output port d of router n fails: to a spare, else the link narrows. -/
def execHubLinkNarrow (n d : Nat) (s : State) : Out :=
  .next (
    let unit := 8 * n + d
    if 63 < n ∨ 3 < d ∨ (neighbour n d).isNone ∨ s.get fBootMode = 2 then s
    else if s.get (fSpw n d) < 8 then
      ((s.set (fSpw n d) (s.get (fSpw n d) + 1)).raiseX 16 0x41 [(n, 32), (d, 38)] (packW [(s.get (fWid n d), 0)])).logLater
        0x01 0x05 unit 0
    else if s.get (fWid n d) < 2 then
      let w := s.get (fWid n d) + 1
      (((s.set (fWid n d) w).raiseX 16 0x41 [(n, 32), (d, 38)] (packW [(w, 0)])).logLater 0x07 0x05 unit w).capacityFell .net
    else s.hubFails n d)

/-- Wavelengths in service. -/
def State.guideN (s : State) (w : Nat) : Nat :=
  ((List.range 32).filter (fun b => s.get (fXwgLmap w) / 2 ^ b % 2 == 1)).length

/-- The state of a trained waveguide with n wavelengths (R390). -/
def guideState (n : Nat) : Nat := if n < 15 then 3 else if n < 30 then 2 else 1

/-- WAVELENGTH_SPARE_SWAP: wavelength λ of waveguide w gathered 16 corrected flits within 1 ms, or fails training. -/
def execWavelengthSpareSwap (w b : Nat) (s : State) : Out :=
  .next (
    let m := s.get (fXwgLmap w)
    if 11 < w ∨ 31 < b ∨ m / 2 ^ b % 2 = 0 ∨ s.guideLost w then s
    else
      let whole := s.guideN w = 30
      let spare := if !whole then none else if m / 2 ^ 31 % 2 = 1 then none else if m / 2 ^ 30 % 2 = 1 then some 31 else some 30
      let m' := m - 2 ^ b + (match spare with
        | some k => 2 ^ k
        | none => 0)
      let s := s.set (fXwgLmap w) m'
      let n := s.guideN w
      let s := if s.get (fXwgState w) = 1 ∨ s.get (fXwgState w) = 2 then s.set (fXwgState w) (guideState n) else s
      let s := s.raiseX 16 0x41 [(station (w / 3), 32), (5, 38), (w, 48)] (packW [(n, 0)])
      if spare.isSome then s.logLater 0x01 0x06 w b else (s.logLater 0x07 0x06 w b).capacityFell .net)

/-- A link, or the waveguide 512 + w, is due at temperature `temp`: it differs by more than 8 °C from that of its last
training, or 1,024 ticks have passed since (R391; 08 R284). -/
def State.linkDue (s : State) (key temp : Nat) : Bool :=
  let was := if 512 ≤ key then s.get (fXwgTtrain (key - 512)) else smGetD s.hub.temps 0 key
  decide (8 < (signed8 (temp % 256) - signed8 (was % 256)).natAbs ∨ 1024 ≤ s.seq.count - smGetD s.hub.trainedAt 0 key)

/-- The guard band has `us` microseconds left for it, and no task is extended (08 R285, R286). -/
def State.linkWindow (s : State) (us : Nat) : Bool :=
  decide (s.get fTsqPhase = 4 ∧ s.get fTsqExt = 0 ∧ s.get fTsqToff + us ≤ s.get fTsqT) && !s.sweepDue

/-- The stamp of a training (R391). -/
def State.linkStamp (s : State) (key temp : Nat) : State :=
  let s := s.modHub (fun h => { h with trainedAt := smSetD h.trainedAt 0 key s.seq.count })
  if 512 ≤ key then s.set (fXwgTtrain (key - 512)) temp
  else s.modHub (fun h => { h with temps := smSetD h.temps 0 key (temp % 256) })

/-- LINK_RETRAIN in the guard band: `guide` says whether `idx` is a waveguide or 8 × router + port; due and held, then done,
at hub-die temperature `temp`. -/
def execLinkRetrain (guide : Bool) (idx : Nat) (finish : Bool) (temp : Nat) (s : State) : Out :=
  .next (
    if guide then
      let st := s.get (fXwgState idx)
      if 11 < idx then s
      else if !finish then (if (st = 1 ∨ st = 2) ∧ s.linkWindow 20 ∧ s.linkDue (512 + idx) temp then s.set (fXwgState idx) 4 else s)
      else if st = 4 then (s.set (fXwgState idx) (guideState (s.guideN idx))).linkStamp (512 + idx) temp
      else s
    else if 512 ≤ idx ∨ 3 < idx % 8 ∨ (neighbour (idx / 8) (idx % 8)).isNone then s
    else if !finish then
      (if s.linkWindow 10 ∧ s.linkDue idx temp ∧ !(s.hub.held.contains idx) then s.modHub (fun h => { h with held := h.held ++ [idx] }) else s)
    else if s.hub.held.contains idx then
      (s.modHub (fun h => { h with held := h.held.filter (fun x => x != idx) })).linkStamp idx temp
    else s)

/-! ## Labels and guarantees -/

/-- QUEUE_FEEDBACK of a resource: `fill` of `cap` remote requests queued (R408). -/
def execQueueFeedback (res fill cap : Nat) (s : State) : Out :=
  .next (
    let keys := ((s.hub.awaits.filter (fun a => decide (a.res = some res ∧ 2 ≤ a.label))).map (fun a => 8 * a.site + a.label)).eraseDups
    keys.foldl (fun s k =>
      let ol := bitsOf (s.labelWord (k % 8)) 39 32
      let e := s.olEff (k / 8) (k % 8)
      let e' := if 3 * cap < 4 * fill then max 1 (e / 2) else if 4 * fill < cap then min ol (e + 1) else e
      s.modHub (fun h => { h with tight := if e' = ol then smErase h.tight k else smInsert h.tight k e' })) s)

/-- LABEL_LATENCY_MISSED at an injector: its average exceeds the label's target (R407). -/
def execLabelLatencyMissed (site l : Nat) (s : State) : Out :=
  .next (
    let t := s.labelTimes site l
    match smGetD s.hub.times [] (8 * site + l) with
    | [] => s
    | x :: _ =>
      if t.1 ≤ s.targetTime l * t.2 ∨ s.hub.told.contains (8 * x.2 + l) then s
      else
        (s.modHub (fun h => { h with told := h.told ++ [8 * x.2 + l] })).raiseBoth (some x.2) 0x43 [(site, 32), (l, 41)]
          (packW [(t.1 / (10 * t.2), 0)]))

/-- SLR_CFG_WRITE (R404): 0 for target or ol is refused; the parameters come into force at the next boundary. -/
def execSlrCfgWrite (l : Nat) (w : Word) (s : State) : Out :=
  .next (
    if s.inSafe then s else
    if 7 < l then s
    else
      let s := s.checkReserved 16 (slrCfg l) w
      if bitsOf w 63 48 = 0 ∨ bitsOf w 39 32 = 0 then s
      else
        let s := s.writeFields (slrCfg l) (2 ^ 64 - 1) w
        s.settleRegs)

/-- GUARANTEE_WRITE (R410, R413); while an admission runs the write waits for its end (R415). -/
def execGuaranteeWrite (g : Nat) (w : Word) (s : State) : Out :=
  .next (
    if s.inSafe then s else
    if 127 < g then s
    else
      let s := s.checkReserved 16 (slg g) w
      if s.flag fAdmBusy then
        (s.set fSlgBusy 1).modHub (fun h => { h with guarWait := h.guarWait ++ [(g, w)] })
      else s.guarSet g w false)

/-! ## Event queues -/

/-- EVENT_QUEUE_WRITE: the hub writes an event record into queue u (R397, R398). -/
def execEventQueueWrite (u : Nat) (ws : List Word) (s : State) : Out :=
  .next (
    if 16 < u ∨ ws.length = 0 ∨ 32 < ws.length ∨ bitsOf (ws.headD 0) 15 8 ≠ ws.length then s else s.raise u ws)

/-- EVQ_CONS_WRITE by the tenant or by firmware; an advance arms the source of the tenant's function (13 R474). -/
def State.evqConsWrite (s : State) (u : Nat) (prio : Bool) (w : Word) (fw : Bool) : State :=
  if 16 < u then s
  else
    let s := s.checkReserved (if fw then 16 else u) (fCons u prio).off w
    let c := s.get (fCons u prio)
    let t := s.evqCons u prio (bitsOf w 31 0)
    if t.get (fCons u prio) = c then t else t.armFor u (if prio then srcEvp else srcEvn)

def execEvqConsWrite (u : Nat) (prio : Bool) (w : Word) (fw : Bool) (s : State) : Out := .next (if fw ∧ s.inSafe then s else s.evqConsWrite u prio w fw)

/-- EVQ_WORD_READ (R401). -/
def execEvqWordRead (u i : Nat) (s : State) : Out :=
  .next (
    if 16 < u ∨ (if u < 16 then 4096 else 16384) ≤ i then s
    else
      let r := s.evqRead u i
      r.1.emit "register-read" [evqWord u i] (bytesLE 8 r.2.toNat))

end Sys2Proof.Machine
end

