-- ==== Sys2Proof/Machine/Stacks.lean ====
section
/-! DEFINITION. Commands of the memory stacks (08 R263 to R304; 07 R231). -/

namespace Sys2Proof.Machine

/-- New symbol errors join the burst's stored deviation. -/
def State.addErrors (s : State) (key : Nat) (errs : List (Nat × Nat)) : State :=
  if errs = [] then s else s.setDev key (devAdd (s.dev key) errs)

/-- The stack offset that an access may reach: populated, the stack in service, the granule no stand-in (R265, R294, R298),
the owner not under reset (16 R555). -/
def State.stackReach (s : State) (addr : Nat) : Option (Nat × Nat) :=
  match s.place addr with
  | .stack t a => if s.unavailable addr then none else some (t, a)
  | _ => none

/-- STACK_READ: the burst of a device address is read for source `src`; `errs` are the symbols that fail in the cells
just now. -/
def execStackRead (addr src : Nat) (errs : List (Nat × Nat)) (s : State) : Out :=
  .next (if s.inSafe then s else match s.stackReach addr with
    | none => s.emit "address-error" [addr] []
    | some (t, a) =>
      let key := s.stackKey t a
      if s.stackWaits key then s
      else
        let r := (s.addErrors key errs).readBurst key src
        match r.2 with
        | some bs => r.1.emit "stack-read" [addr] bs
        | none => r.1.emit "stack-poison" [addr] [])

/-- STACK_WRITE: whole bursts are replaced, parts are read-modify-writes. -/
def execStackWrite (addr : Nat) (bs : List Byte) (s : State) : Out :=
  .next (if s.inSafe then s else match s.stackReach addr with
    | none => s.emit "address-error" [addr] []
    | some (t, a) =>
      if !(s.runServes t a bs.length) then s.emit "address-error" [addr] []
      else if s.runWaits t a bs.length true then s
      else
        let r := s.writeStack t a bs
        if r.2 then r.1 else r.1.emit "stack-poison" [addr] [])

/-- UE_TENANT_COPY: a copy of the oldest uncorrectable report goes to every tenant whose entries map the burst (R296). -/
def execUeTenantCopy (s : State) : Out :=
  .next (if s.inSafe then s else match s.ueWait with
    | [] => s
    | r :: l =>
      (List.range 16).foldl (fun s u =>
        if (List.range 128).any (fun e => match s.trnEntry u e with
            | some x => decide (x.tgt ≤ r.addr ∧ r.addr < x.tgt + (x.hi - x.lo))
            | none => false)
        then s.raiseStkAt r.tick u 0x20 r.stack r.pch 0x1F r.addr r.layer r.src r.ppat else s) { s with ueWait := l })

/-- Writes a corrected burst back: its symbols become the codeword that the decoder finds (R276). -/
def State.writeBack (s : State) (key : Nat) : State :=
  match s.burstCond key (s.physCh key) with
  | .corrected e => s.putBurst key (s.decoded key e)
  | _ => s.modStack (key / 2 ^ 38) (fun k => { k with fixes := k.fixes.filter (fun x => x != key / 256) })

/-- STACK_CORRECT_WRITEBACK of a burst that a read has corrected. It waits as any write does (R276, R291). -/
def execStackCorrectWriteback (addr : Nat) (s : State) : Out :=
  .next (match s.place addr with
    | .stack t a =>
      let key := s.stackKey t a
      if s.stackOut t ∨ !((s.stack t).fixes.contains (key / 256)) ∨ s.writeWaits key then s else s.writeBack key
    | _ => s)

/-- PATROL_SCRUB: reads with source scrub; a corrected burst is written back, an uncorrectable one stays (R277). -/
def execPatrolScrub (addr : Nat) (errs : List (Nat × Nat)) (s : State) : Out :=
  .next (match s.stackReach addr with
    | none => s
    | some (t, a) =>
      let key := s.stackKey t a
      if s.writeWaits key then s
      else
        let s := ((s.addErrors key errs).readBurst key 0x4).1
        if (s.stack t).fixes.contains (key / 256) then s.writeBack key else s)

/-- STACK_REFRESH: a layer refreshes its rows; no state of the model changes (R280). -/
def execStackRefresh (_t _layer : Nat) (s : State) : Out := .next s

/-! ## Training (R284 to R286) -/

/-- The channel meets a condition of R284. -/
def State.chDue (s : State) (t p : Nat) : Bool :=
  let d := signed16 (s.get (fStkTbase t)) - 64 * signed8 (s.get (fChTtrain t p))
  decide (512 < d.natAbs) || decide (1024 ≤ s.seq.count - smGetD (s.stack t).trained 0 p)

def execRetrainDue (t p : Nat) (s : State) : Out :=
  .next (if t < 48 ∧ p < 136 ∧ s.get (fChDue t p) = 0 ∧ s.chDue t p then
      (s.set (fChDue t p) 1).modStack t (fun k => { k with dueAt := smInsert k.dueAt p s.seq.count })
    else s)

/-- RETRAIN_GROUP: in the guard band, at most 8 due channels, no extended task, 40 µs of the tick left (R285, R286). -/
def execRetrainGroup (t : Nat) (ps : List Nat) (s : State) : Out :=
  .next (if t < 48 ∧ ps ≠ [] ∧ ps.length ≤ 8 ∧ s.get fTsqPhase = 4 ∧ s.get fTsqExt = 0
        ∧ s.get fTsqToff + 40 ≤ s.get fTsqT ∧ (s.stack t).held = [] ∧ !s.sweepDue
        ∧ ps.all (fun p => decide (p < 136 ∧ s.get (fChDue t p) = 1)) then
      s.modStack t (fun k => { k with held := ps })
    else s)

/-- A channel has been trained at the present base temperature (R282, R284). -/
def State.trained (s : State) (t p : Nat) : State :=
  ((s.set (fChDue t p) 0).set (fChTtrain t p) ((signed16 (s.get (fStkTbase t)) / 64) % 256).toNat).modStack t
    (fun k => { k with trained := smInsert k.trained p s.seq.count, dueAt := smErase k.dueAt p })

/-- What a training found of a channel: a pin's eye, which may fail the pin, or a path that does not train, which fails the
channel (R283). -/
def State.trainFail (s : State) (t : Nat) (x : Nat × Option Eye) : State :=
  match x.2 with
  | some e => if e.fails ∧ e.pin < 18 then s.pinFails t x.1 e.pin else s
  | none => s.channelFails t x.1 true

/-- RETRAIN_GROUP_DONE: the group's holds end; `found` are the eyes of pins, and the channels whose paths do not train. -/
def execRetrainGroupDone (t : Nat) (found : List (Nat × Option Eye)) (s : State) : Out :=
  .next (
    let ps := (s.stack t).held
    let s1 := (ps.foldl (fun s p => s.trained t p) s).modStack t (fun k => { k with held := [] })
    (found.filter (fun x => ps.contains x.1)).foldl (fun s x => s.trainFail t x) s1)

/-- RETRAINING_OVERDUE: a channel due for 64 ticks raises event 0x24, once (R286). -/
def execRetrainingOverdue (t p : Nat) (s : State) : Out :=
  .next (match smLookup (s.stack t).dueAt p with
    | some n =>
      if s.get (fChDue t p) = 1 ∧ n + 64 ≤ s.seq.count then
        (s.raiseStk 16 0x24 t p 0x1F 0 0x1F 0 false).modStack t (fun k => { k with dueAt := smErase k.dueAt p })
      else s
    | none => s)

/-! ## Repairs (R287 to R294) -/

/-- CHANNEL_REPAIR of logical channel c: Larkspur acts on a trigger that its sender has seen; triggers that bursts and
training give start repairs of themselves (R287). -/
def execChannelRepair (t c : Nat) (dead : Bool) (s : State) : Out :=
  .next (if t < 48 ∧ c < 128 then s.triggerRepair t ⟨false, c, dead⟩ else s)

/-- LAYER_REPAIR of logical layer l; 16 says that the spare layer has failed (R294). -/
def execLayerRepair (t l : Nat) (dead : Bool) (s : State) : Out :=
  .next (if t < 48 ∧ l < 16 then s.triggerRepair t ⟨true, l, dead⟩ else if t < 48 ∧ l = 16 then s.layerFails t 16 dead else s)

/-- The storage address of the `n`th burst of a repair. -/
def repairKey (t : Nat) (r : Repair) (n : Nat) : Nat :=
  if r.layer then
    let j := n / 128
    t * 2 ^ 38 + burstAt (n % 128) (j / 128 * 2 ^ 11 + r.unit * 2 ^ 7 + j % 128)
  else t * 2 ^ 38 + burstAt r.unit n

/-- A thermal hold, or a retraining hold of the source or target channel, pauses the copy (R303). -/
def State.copyHeld (s : State) (t : Nat) (r : Repair) (key : Nat) : Bool :=
  s.flag (fStkHold t) || (s.stack t).held.contains (s.physCh key) || (!r.layer && (s.stack t).held.contains r.spare)

/-- The same symbols of the source, told as an error of the codeword of `bs`, which the target takes. -/
def State.rebase (s : State) (key : Nat) (bs : List Byte) : State :=
  let k := key / 256 * 256
  let m := s.bytes k 256
  if m = bs then s
  else
    let diff := rsDiff (m.map (fun b => b.toNat)) (bs.map (fun b => b.toNat))
    (s.setBytes k bs).setDev key (devAdd (s.dev key) diff)

/-- REPAIR_COPY_BURST: the next burst is copied; poison where the source is uncorrectable or cannot be read. -/
def execRepairCopyBurst (t : Nat) (s : State) : Out :=
  .next (match (s.stack t).repair with
    | none => s
    | some r =>
      let n := s.get (fStkCopied t)
      let key := repairKey t r n
      if s.get (fStkTotal t) ≤ n ∨ s.copyHeld t r key then s
      else
        let s1 :=
          if r.dead then (if r.wrote.contains (key / 256) then s else s.putPoison key)
          else
            let x := s.readBurst key 0x5
            match x.2 with
            | some bs => x.1.rebase key bs
            | none => x.1.modStack t (fun k => { k with repair := k.repair.map (fun r =>
                { r with poisoned := (key / 256) :: r.poisoned.filter (fun x => x != key / 256) }) })
        s1.set (fStkCopied t) (n + 1))

/-- The next queued trigger starts (R288). -/
def State.nextRepair (s : State) (t : Nat) : State :=
  match (s.stack t).queue with
  | [] => s
  | q :: l => (s.modStack t (fun k => { k with queue := l })).startRepair t q

/-- REPAIR_COPY_DONE: reads go to the target, the old unit is retired (R289 step 4, R290). -/
def execRepairCopyDone (t : Nat) (s : State) : Out :=
  .next (match (s.stack t).repair with
    | none => s
    | some r =>
      if s.get (fStkCopied t) < s.get (fStkTotal t) then s
      else
        let s1 := { s with badBursts := s.badBursts.filter (fun x =>
          !(decide (x.1 / 2 ^ 30 = t) && inUnit r (x.1 * 256)) || r.dead) }
        let s2 := r.poisoned.foldl (fun s k => s.setPoison (k * 256)) s1
        let s3 := s2.modStack t (fun k => { k with repair := none })
        let s4 := ((s3.set (fStkRkind t) 0).set (fStkUnit t) 0xFF).set (fStkTotal t) 0
        let s4 := if s.stackOut t then s4 else s4.set (fStkState t) 1
        let s5 :=
          if r.layer then
            ((s4.set (fStkSpareFor t) r.unit).raiseStk 16 0x22 t 0xFF 0x1F 0 r.unit 0 false).logLater 0x01 0x03
              (t + r.unit * 64) 0
          else
            ((((s4.set (fChState t r.old) 4).set (fChLch t r.old) 0).set (fChState t r.spare) 1).raiseStk 16 0x21 t
              r.old 0x1F 0 0x1F 0 false).logLater 0x01 0x02 (t + r.old * 64) r.spare
        (s5.setDerate t).nextRepair t)

/-! ## The retirement table (R298 to R304) -/

/-- Entries of the retirement table (R263). -/
def State.retEntries (s : State) : Nat := if s.get fDevStackCap = 1 then 128 else 256

/-- A granule appears in a valid entry. -/
def State.granuleNamed (s : State) (t g : Nat) : Bool :=
  (List.range 256).any (fun k => s.flag (fRetValid t k)
    && (decide (s.get (fRetRetired t k) = g) || decide (s.get (fRetRepl t k) = g)))

/-- A write of STK_RETk by firmware (R299 to R302, R304). -/
def State.retWrite (s : State) (t k : Nat) (w : Word) : State :=
  let addr := regAddr (stkRet t k)
  let g := bitsOf w 17 0
  let g' := bitsOf w 49 32
  let setsReserved := decide (bitsOf w 61 50 ≠ 0 ∨ bitsOf w 31 18 ≠ 0)
  let s := if setsReserved ∧ k < s.retEntries then s.reservedWrite 16 addr else s
  if s.retEntries ≤ k then s.reservedWrite 16 addr
  else if s.flag (fRetValid t k) then s.refuseWrite addr 2
  else if bitsOf w 63 63 = 0 then (s.set (fRetRepl t k) g').set (fRetRetired t k) g
  else if s.granules ≤ g ∨ s.granules ≤ g' then s.refuseWrite addr 1
  else if g = g' ∨ s.granuleNamed t g ∨ s.granuleNamed t g' then s.refuseWrite addr 3
  else
    ((((s.set (fRetRepl t k) g').set (fRetRetired t k) g).set (fRetFill t k) 1).set (fRetValid t k) 1).setDerate t

def execStkRetWrite (t k : Nat) (w : Word) (s : State) : Out :=
  .next (if s.inSafe then s else if t < 48 ∧ k < 256 then s.retWrite t k w else s)

/-- An admitted DMA command of any core that touches a granule of a stack has not completed (R301). -/
def State.granuleBusy (s : State) (t g : Nat) : Bool :=
  s.dma.any (fun d => (decide (d.2.st = .admitted) || decide (d.2.st = .moved)) && d.2.touches (t * 2 ^ 38 + g * 2 ^ 20) (2 ^ 20))

/-- RETIREMENT_FILL_DONE: every burst of the replacement holds the poison pattern and the entry takes effect, once the
older commands on either granule are done (R300, R301). -/
def execRetirementFillDone (t k : Nat) (s : State) : Out :=
  .next (
    let g := s.get (fRetRetired t k)
    let g' := s.get (fRetRepl t k)
    if !(s.flag (fRetFill t k)) || s.granuleBusy t g || s.granuleBusy t g' then s
    else
      let s := (List.range 4096).foldl (fun s i => s.putPoison (t * 2 ^ 38 + g' * 2 ^ 20 + 256 * i)) s
      ((s.set (fRetFill t k) 0).setDerate t).logLater 0x06 0x02 t (g + k * 2 ^ 24 + g' * 2 ^ 32))

end Sys2Proof.Machine
end

