-- ==== Sys2Proof/Machine/Translation.lean ====
section
/-! DEFINITION. Commands of range translation and of the fault queues (09 R305 to R331; 14 R492 to R496; 12 R435). -/

namespace Sys2Proof.Machine

/-! ## Whom a target belongs to (R308; 14 R493 to R496) -/

/-- Bytes that two half-open ranges share. -/
def shared (a b c d : Nat) : Nat := min b d - max a c

/-- Bytes of stack `t`'s offsets lo to hi that valid regions for which `p` holds cover. -/
def State.rgnBytes (s : State) (t lo hi : Nat) (p : Nat → Bool) : Nat :=
  ((List.range 64).map (fun r =>
    if s.flag (fRgnValid r) && decide (s.get (fRgnStack r) = t) && p r then
      let a := s.get (fRgnFirst r) * 2 ^ 20
      shared lo hi a (a + s.get (fRgnNg r) * 2 ^ 20)
    else 0)).foldl (· + ·) 0

/-- Bytes of it that lie in a granule under reload, for regions for which `p` holds (R496). -/
def State.rldBytes (s : State) (t lo hi : Nat) (p : Nat → Bool) : Nat :=
  ((List.range 64).map (fun r =>
    if s.flag (fRgnValid r) && decide (s.get (fRgnStack r) = t) && s.flag (fRldActive r) && p r then
      let a := s.get (fRldGranule r) * 2 ^ 20
      shared lo hi a (a + 2 ^ 20)
    else 0)).foldl (· + ·) 0

/-- Bytes of it in the commons, counting sealed regions for which `p` holds. -/
def State.commonsBytes (s : State) (t lo hi : Nat) (p : Nat → Bool) : Nat :=
  let q (r : Nat) : Bool := s.flag (fRgnSealed r) && p r
  s.rgnBytes t lo hi q - s.rldBytes t lo hi q

/-- What a context finds at a target range. -/
inductive TgtClass where
  | own | commons | foreign
  deriving DecidableEq, Repr

/-- The target lies wholly within one of the places of R308. -/
def State.tgtWhole (s : State) (a n : Nat) : Bool :=
  match s.place a with
  | .stack _ o => decide (o + n ≤ s.stackBytes)
  | .window k o => s.openCarries k && decide (o + n ≤ 2 ^ 40)
  | _ => isPspace a && decide ((a - 0x100000000000) % 2 ^ 29 + n ≤ 2 ^ 29)

/-- The class of a target range for tenant `u`'s context. -/
def State.tenTgt (s : State) (u a n : Nat) : TgtClass :=
  match s.place a with
  | .stack t o =>
    let hi := o + n
    let mine := decide (s.tileOwner t = some u)
    let all := s.commonsBytes t o hi (fun _ => true)
    if all = 0 then
      if mine && (decide (s.rldBytes t o hi (fun r => s.flag (fRgnSealed r)) = 0) || decide (o / 2 ^ 20 = (hi - 1) / 2 ^ 20))
      then .own else .foreign
    else if all = n ∧ (mine ∨ s.commonsBytes t o hi (fun r => decide (s.get (fRgnMap r) / 2 ^ u % 2 = 1)) = n) then .commons
    else .foreign
  | .window k _ => if s.flag (fGrantEn k u) then .own else .foreign
  | _ => if s.tileOwner ((a - 0x100000000000) / 2 ^ 29) = some u then .own else .foreign

/-- The class of a target range for open site `k`'s context (12 R435). -/
def State.siteTgt (s : State) (k a n : Nat) : TgtClass :=
  let granted (t : Nat) : Bool := match s.tileOwner t with
    | some u => s.flag (fGrantEn k u)
    | none => false
  match s.place a with
  | .stack t o => if granted t && decide (s.rgnBytes t o (o + n) (fun _ => true) = 0) then .own else .foreign
  | .window _ _ => .foreign
  | _ => if granted ((a - 0x100000000000) / 2 ^ 29) then .own else .foreign

def State.ctxTgt (s : State) (c a n : Nat) : TgtClass :=
  if c < 16 then s.tenTgt c a n else s.siteTgt (c - 16) a n

/-! ## Entry updates (R308, R312, R313) -/

/-- The staged entry, by words (TRN_STG0 to TRN_STG2). -/
def State.stgDva (s : State) : Nat := 4096 * bitsOf (s.rd (trnStg 0)) 47 12
def State.stgPages (s : State) : Nat := bitsOf (s.rd (trnStg 1)) 35 0
def State.stgTgt (s : State) : Nat := 4096 * bitsOf (s.rd (trnStg 2)) 47 12
def State.stgR (s : State) : Bool := decide (bitsOf (s.rd (trnStg 2)) 0 0 = 1)
def State.stgW (s : State) : Bool := decide (bitsOf (s.rd (trnStg 2)) 1 1 = 1)
def State.stgA (s : State) : Bool := decide (bitsOf (s.rd (trnStg 2)) 2 2 = 1)

/-- The code of the first condition that the staged entry fails in context `c` at entry `e`; 0: none (R308). -/
def State.stgCode (s : State) (c e : Nat) : Nat :=
  let lo := s.stgDva
  let n := 4096 * s.stgPages
  let a := s.stgTgt
  if n = 0 ∨ 2 ^ 48 < lo + n then 0x5
  else if !(s.stgR || s.stgW || s.stgA) then 0x7
  else if (List.range 128).any (fun i => i != e && match s.trnEntry c i with
      | some x => decide (x.lo < lo + n ∧ lo < x.hi)
      | none => false) then 0x1
  else if !(s.tgtWhole a n) then 0x2
  else match s.ctxTgt c a n with
    | .foreign => 0x3
    | .own => 0
    | .commons => if s.stgW || s.stgA then 0x4 else 0

/-- An update is refused. -/
def State.trnRefuse (s : State) (code : Nat) : State := (s.set fTrnCode code).setB fTrnErr true

/-- An accepted update takes effect and stays busy until the old range is clear. -/
def State.trnAccept (s : State) (c e : Nat) (w0 w1 w2 : Word) : State :=
  let old := (s.trnEntry c e).map (fun x => (c, x.lo, x.hi))
  let s := (((s.wr (trnE c e 0) w0).wr (trnE c e 1) w1).wr (trnE c e 2) w2).sramWritten (regAddr (trnE c e 0)) 24
  (({ s with trnUpd := old }.set fTrnCode 0).setB fTrnDone false).setB fTrnBusy true

/-- A write of TRN_CMD. `w` is the whole word written. -/
def State.trnCommand (s : State) (w : Word) : State :=
  let op := bitsOf w 1 0
  let c := bitsOf w 20 16
  let e := bitsOf w 14 8
  if s.flag fTrnBusy then s.trnRefuse 0x6
  else if bitsOf w 63 21 ≠ 0 ∨ bitsOf w 15 15 ≠ 0 ∨ bitsOf w 7 2 ≠ 0 ∨ 23 < c ∨ op = 0 ∨ op = 3 then s.trnRefuse 0x8
  else if op = 1 then
    let code := s.stgCode c e
    if code ≠ 0 then s.trnRefuse code
    else
      let com := decide (s.ctxTgt c s.stgTgt (4096 * s.stgPages) = .commons)
      let bit (b : Bool) : Nat := if b then 1 else 0
      s.trnAccept c e (packW [(1, 63), (s.stgDva, 0)]) (packW [(s.stgPages, 0)])
        (packW [(s.stgTgt, 0), (bit com, 3), (bit s.stgA, 2), (bit s.stgW, 1), (bit s.stgR, 0)])
  else s.trnAccept c e 0 0 0

/-- TRN_WRITE: a write of TRN_CMD with op write. -/
def execTrnWrite (w : Word) (s : State) : Out := .next (if s.inSafe then s else if bitsOf w 1 0 = 1 then s.trnCommand w else s)

/-- TRN_CLEAR: a write of TRN_CMD with op clear. -/
def execTrnClear (w : Word) (s : State) : Out := .next (if s.inSafe then s else if bitsOf w 1 0 = 2 then s.trnCommand w else s)

/-- A command that was checked against the entry's old contents is still under way (R313). -/
def State.trnPending (s : State) : Bool :=
  match s.trnUpd with
  | none => false
  | some (c, lo, hi) => s.dma.any (fun x =>
      (decide (x.2.st = DmaState.admitted) || decide (x.2.st = DmaState.moved))
        && decide (s.tileCtx (coreTile x.2.core) = some c)
        && x.2.maps.any (fun m => decide (m.1 < hi ∧ lo < m.2.1)))

/-- TRN_UPDATE_DONE: the update has taken effect everywhere and the old range is clear. -/
def execTrnUpdateDone (s : State) : Out :=
  .next (if !(s.flag fTrnBusy) || s.trnPending then s
    else (({ s with trnUpd := none }).setB fTrnBusy false).setB fTrnDone true)

/-! ## Fault queues (R323 to R327, R335) -/

/-- FAULT_RECORD_WRITE: the hub writes the oldest detected fault of queue `u`, or keeps it when the queue is full. -/
def execFaultRecordWrite (u : Nat) (s : State) : Out :=
  .next (match s.faultWait.find? (fun w => w.queue == u) with
    | none => s
    | some w =>
      let s := { s with faultWait := s.faultWait.erase w }
      if s.faultUsed u < 256 then s.putRecord u w.words else s.keepRecord u w)

/-- FLT_CONS_WRITE: a consumer moves cons; `fw` marks firmware as the writer. -/
def execFltConsWrite (u : Nat) (w : Word) (fw : Bool) (s : State) : Out :=
  .next (
    if fw ∧ s.inSafe then s else
    if 16 < u then s
    else
      let who := if fw then 16 else u
      let addr := regAddr (fltBlk u + 0x08)
      let s := if bitsOf w 63 32 ≠ 0 then s.reservedWrite who addr else s
      let v := bitsOf w 31 0
      let step := (v + 2 ^ 32 - s.get (fFltCons u)) % 2 ^ 32
      if s.faultUsed u < step then s.reservedWrite who addr
      else
        let s := (s.set (fFltCons u) v).faultFull u
        let s := if step ≠ 0 then s.armFor u srcFlt else s
        if step ≠ 0 ∧ s.get (fFltPend u) ≠ 0 then s.raiseG 16 0x05 (packW [(u, 0), (s.get (fFltPend u), 16)]) else s)

/-- A record marked late (R321, R326). -/
def lateRecord (ws : FaultRec) : FaultRec :=
  match ws with
  | [] => []
  | w :: l => putBits w 57 57 1 :: l

/-- FLT_PUSH of task k into queue u; a refused write moves nothing and sets pusherr (R326, R335). -/
def State.pushRecord (s : State) (u k : Nat) : State :=
  if 1024 ≤ k ∨ !(s.loaded k) ∨ s.tdTenant k ≠ u ∨ 256 ≤ s.faultUsed u then s.setB (fFltPushErr u) true
  else match (s.task k).pend with
    | [] => s.setB (fFltPushErr u) true
    | r :: rest =>
      let s := s.modTask k (fun t => { t with pend := rest })
      let s := (s.setB (fTstFpend k) (!rest.isEmpty)).set (fFltPend u) (s.get (fFltPend u) - 1)
      s.putRecord u (lateRecord r)

/-- FLT_PUSH: firmware writes FLT_PUSHu. -/
def execFltPush (u : Nat) (w : Word) (s : State) : Out :=
  .next (if s.inSafe ∨ 16 < u then s
    else
      let s := if bitsOf w 63 16 ≠ 0 then s.reservedWrite 16 (regAddr (fltPush u)) else s
      s.pushRecord u (bitsOf w 15 0))

/-- The Parked tasks of queue u with fault-pending set, by label and then by number (R326). -/
def State.sweepOrder (s : State) (u : Nat) : List Nat :=
  let l := (s.tasks.map Prod.fst).filter (fun k => decide (k < 1024) && s.loaded k && decide (s.tdTenant k = u) && s.flag (fTstFpend k)
    && decide (s.tstate k = tsParked))
  (List.range 8).flatMap (fun lab => l.filter (fun k => decide (s.tdLabel k = lab)))

/-- Pushes the pending records of one task while the queue has room. -/
def State.sweepTask (s : State) (u k : Nat) : Nat → State
  | 0 => s
  | n + 1 => if s.flag (fTstFpend k) ∧ s.faultUsed u < 256 then State.sweepTask (s.pushRecord u k) u k n else s

/-- FAULT_SWEEP: firmware's sweep of queue u after a space-returned event. -/
def execFaultSweep (u : Nat) (s : State) : Out :=
  .next ((s.sweepOrder u).foldl (fun s k => State.sweepTask s u k (s.task k).pend.length) s)

/-! ## Resolution and parking (R328 to R330) -/

/-- The task that waits for fault `seq` of queue `u`. -/
def State.faultTask (s : State) (u seq : Nat) : Option Nat :=
  (s.tasks.map Prod.fst).find? (fun k => decide (k < 1024) && s.loaded k && decide (s.tdTenant k = u) && (s.task k).open_.any (fun x => x.1 == seq))

/-- A write of FLT_RSLVu. -/
def State.resolve (s : State) (u seq : Nat) (drop : Bool) : State :=
  match s.faultTask u seq with
  | none => s.setB (fFltRsErr u) true
  | some k =>
    (s.modTask k (fun t => { t with open_ := t.open_.filter (fun x => x.1 != seq), dropped := t.dropped || drop })).faultsDone k

/-- FLT_RESOLVE_RETRY: FLT_RSLVu with action retry. -/
def execFltResolveRetry (u seq : Nat) (s : State) : Out := .next (if s.inSafe then s else if 16 < u then s else s.resolve u seq false)

/-- FLT_RESOLVE_DROP: FLT_RSLVu with action drop. -/
def execFltResolveDrop (u seq : Nat) (s : State) : Out := .next (if s.inSafe then s else if 16 < u then s else s.resolve u seq true)

/-- TASK_PARK: after a refused command the sequencer drain-stops the task's group and marks the task Parked. -/
def execTaskPark (k : Nat) (s : State) : Out :=
  .next (
    let st := s.tstate k
    if (s.task k).mustPark ∧ (st = tsRunning ∨ st = tsCarried) then
      -- every fault may have been resolved by now: the task is then ready at once (R330)
      (((s.haltGroup k).modTask k (fun t => { t with
        mustPark := false, draining := true, faultTick := s.tick, discarded := false })).setTstate k tsParked).faultsDone k
    else s)

end Sys2Proof.Machine
end

