-- ==== Sys2Proof/Machine/Services.lean ====
section
/-! DEFINITION. The firmware services that a tenant asks for through a host function (13 R473). A service that needs a
register command issues it when its engine is free and ends when the command is done. -/

namespace Sys2Proof.Machine

/-- The state that a command leaves. -/
def afterOr (o : Out) (s : State) : State :=
  match o with
  | .next t => t
  | _ => s

/-- What a service answers: not yet, or status, cause and result (R470). -/
abbrev SvcEnd := Option (Nat × Nat × Word)

/-- Refused: status 0x06, whose reason the spec does not number (a free value), or 0x07 outside the tenant's resources. -/
def State.svcRefuse (s : State) (mine : Bool) : State × SvcEnd :=
  if mine then
    let r := s.freeWord
    (r.2, some (0x06, bitsOf r.1 7 0, 0))
  else (s, some (0x07, 0, 0))

/-- Runs service `code` of command `id` for the tenant that it was fetched for, when it has started and the control cores run. -/
def State.service (s : State) (id : Nat) (code : Nat → Bool) (admin : Bool)
    (go : State → HostCmd → Nat → State × SvcEnd) : State :=
  match s.hostCmd id with
  | none => s
  | some (q, c) =>
    let u := c.tenant
    if c.op ≠ 0x10 ∨ !(code c.bytes) ∨ !(s.started q c) then s
    else if s.inSafe then s.putHostCmd q { c with fin := some (0x08, 0, 0) }
    else if !s.cro.running then s
    else
      let r :=
        if s.fencedTen.contains u ∧ !c.issued then (s, some (0x05, 0, 0))
        else if admin ∧ (c.f ≠ 0 ∨ !(s.flag (fBindAdmin q 0))) then (s, some (0x07, 0, 0))
        else go s c u
      match r.2 with
      | none => r.1
      | some e => r.1.putHostCmd q { c with fin := some e }

/-- The command's register command has been issued. -/
def State.markIssued (s : State) (c : HostCmd) : State :=
  match s.hostCmd c.id with
  | some (q, _) => s.putHostCmd q { c with issued := true }
  | none => s

def HostCmd.arg (c : HostCmd) (i : Nat) : Nat := (c.args.getD i 0).toNat

/-! ## MAP and UNMAP -/

/-- Issues an update of the tenant's context, and ends once it is done. -/
def State.svcTrn (s : State) (c : HostCmd) (u op : Nat) (bad : Bool) : State × SvcEnd :=
  let e := c.arg 0
  if c.issued then (if s.flag fTrnBusy then (s, none) else (s, some (0, 0, s.rd trnCmdSt)))
  else if bad ∨ 127 < e then s.svcRefuse true
  else if s.flag fTrnBusy then (s, none)
  else
    let s := if op = 1 then ((s.wr (trnStg 0) (c.args.getD 1 0)).wr (trnStg 1) (c.args.getD 2 0)).wr (trnStg 2) (c.args.getD 3 0)
      else s
    let t := s.trnCommand (packW [(op, 0), (e, 8), (u, 16)])
    if t.flag fTrnBusy then (t.markIssued c, none) else t.svcRefuse (decide (t.get fTrnCode ≠ 3))

/-- SVC_MAP; a service code that no service has ends here with status 0x06. -/
def execSvcMap (id : Nat) (s : State) : Out :=
  .next (s.service id (fun c => !([2, 3, 4, 5, 6, 0x10, 0x11, 0x12, 0x13].contains c)) false (fun s c u =>
    if c.bytes ≠ 1 then s.svcRefuse true
    else s.svcTrn c u 1 (decide (c.arg 1 % 4096 ≠ 0 ∨ 2 ^ 48 ≤ c.arg 1 ∨ 2 ^ 36 ≤ c.arg 2 ∨ 2 ^ 48 ≤ c.arg 3
      ∨ c.arg 3 % 4096 / 8 ≠ 0))))

def execSvcUnmap (id : Nat) (s : State) : Out :=
  .next (s.service id (fun c => c == 2) false (fun s c u => s.svcTrn c u 2 false))

/-! ## RESOLVE, LOAD and UNLOAD -/

/-- SVC_RESOLVE: action 1 retry, 2 drop, as FLT_RSLVu codes them. -/
def execSvcResolve (id : Nat) (s : State) : Out :=
  .next (s.service id (fun c => c == 3) false (fun s c u =>
    let a := c.arg 1
    if (a ≠ 1 ∧ a ≠ 2) ∨ (s.faultTask u (c.arg 0)).isNone then s.svcRefuse true
    else (s.resolve u (c.arg 0) (a == 2), some (0, 0, 0))))

/-- SVC_LOAD_UNLOAD: op 1 load from the descriptor at a DVA, 2 unload. -/
def execSvcLoadUnload (id : Nat) (s : State) : Out :=
  .next (s.service id (fun c => c == 4) false (fun s c u =>
    let op := c.arg 0
    let k := c.arg 1
    if c.issued then (if s.flag fTcmdBusy then (s, none) else (s, some (0, 0, s.rd tsqTcmdSt)))
    else if (op ≠ 1 ∧ op ≠ 2) ∨ 1023 < k then s.svcRefuse true
    else if s.flag fTcmdBusy then (s, none)
    else if s.loaded k ∧ s.tdTenant k ≠ u then s.svcRefuse false
    else if op = 2 then
      let t := afterOr (execTaskUnload (packW [(2, 0), (k, 16)]) s) s
      if t.flag fTcmdBusy then (t.markIssued c, none) else t.svcRefuse true
    else if s.engineHeld u (c.arg 2) 128 false then (s, none)
    else
      let r := s.readDva u (c.arg 2) 128
      match r.2 with
      | none => r.1.svcRefuse true
      | some bs =>
        let ws := (List.range 16).map (fun w => BitVec.ofNat 64 (natLE ((bs.drop (8 * w)).take 8)))
        if bitsOf (ws.getD 0 0) 29 26 ≠ u then r.1.svcRefuse false
        else
          let was := s
          let s := if r.1.loaded k then r.1 else ws.zipIdx.foldl (fun s x => s.wr (tsqTd k x.2) x.1) r.1
          -- the load waits where its image's stack admits no access
          if s.loadCode k = 0 ∧ s.imageHeld k then (was, none) else
          let t := afterOr (execTaskLoad (packW [(1, 0), (k, 16)]) s) s
          if t.flag fTcmdBusy then (t.markIssued c, none) else t.svcRefuse (decide (t.get fTcmdCode ≠ 2))))

/-! ## PROBE and READREG -/

/-- SVC_PROBE: site, j, byte offset of the register within the probe (with bit 63: write), value. -/
def execSvcProbe (id : Nat) (s : State) : Out :=
  .next (s.service id (fun c => c == 5) false (fun s c u =>
    let n := c.arg 0
    let j := c.arg 1
    let r := c.arg 2 % 2 ^ 63
    let write := decide (2 ^ 63 ≤ c.arg 2)
    if 63 < n ∨ 3 < j ∨ r % 8 ≠ 0 ∨ 24 < r ∨ (write ∧ (r = 24 ∨ (r = 0 ∧ c.arg 3 % 4 = 3))) then s.svcRefuse true
    else if !(s.flag (fLupTown n j)) ∨ s.get (fLupOwner n j) ≠ u then s.svcRefuse false
    else
      let s := if write then s.probeWrite n j (r / 8) u (c.args.getD 3 0) else s
      let x := s.readReg (lupCtl n j + r)
      (x.1, some (0, 0, x.2))))

/-- A register that a tenant may read by SVC_READREG. -/
def State.tenantReg (s : State) (u off : Nat) : Bool :=
  if 0x1000 ≤ off ∧ off < 0x1200 then
    let n := (off - 0x1000) / 8
    decide (n % 16 ≤ 11) && s.tileOwner (siteTile n) == some u
  else if 0x00100000 ≤ off ∧ off < 0x00130000 then s.tileOwner ((off - 0x00100000) / 0x1000) == some u
  else if 0x00200000 ≤ off ∧ off < 0x00230000 then s.tileOwner ((off - 0x00200000) / 0x1000) == some u
  else if 0x00540000 ≤ off ∧ off < 0x00542000 then
    let k := (off - 0x00540000) / 8
    s.loaded k && s.tdTenant k == u
  else false

def execSvcReadreg (id : Nat) (s : State) : Out :=
  .next (s.service id (fun c => c == 6) false (fun s c u =>
    let off := c.arg 0
    if (findReg off).isNone ∨ 2 ^ 32 ≤ off then s.svcRefuse true
    else if !(s.tenantReg u off) then s.svcRefuse false
    else
      let x := s.readReg off
      (x.1, some (0, 0, x.2))))

/-! ## Admin services -/

/-- SVC_RETIRE: the lowest entry that is not valid takes the pair; done when its fill has ended. -/
def execSvcRetire (id : Nat) (s : State) : Out :=
  .next (s.service id (fun c => c == 0x10) true (fun s c _ =>
    let t := c.arg 0
    let g := c.arg 1
    let g' := c.arg 2
    let mine (k : Nat) : Bool := s.flag (fRetValid t k) && decide (s.get (fRetRetired t k) = g ∧ s.get (fRetRepl t k) = g')
    if 47 < t ∨ 2 ^ 18 ≤ g ∨ 2 ^ 18 ≤ g' then s.svcRefuse true
    else if c.issued then
      match (List.range s.retEntries).find? mine with
      | some k => if s.flag (fRetFill t k) then (s, none) else (s, some (0, 0, s.rd (stkRet t k)))
      | none => s.svcRefuse true
    else match (List.range s.retEntries).find? (fun k => !(s.flag (fRetValid t k))) with
      | none => (s.raiseStk 16 0x26 t 0xFF 0x1F (t * 2 ^ 38 + g * 2 ^ 20) 0x1F 0 false).svcRefuse true
      | some k =>
        let x := s.retWrite t k (packW [(1, 63), (g', 32), (g, 0)])
        if x.flag (fRetValid t k) then (x.markIssued c, none) else x.svcRefuse true))

/-- SVC_RESOLVE_GRANULE: every poison fault on granule G of stack t is resolved with retry; the result counts the
requester's own (R220). -/
def execSvcResolveGranule (id : Nat) (s : State) : Out :=
  .next (s.service id (fun c => c == 0x11) true (fun s c u =>
    let lo := c.arg 0 * 2 ^ 38 + c.arg 1 * 2 ^ 20
    if 47 < c.arg 0 ∨ 2 ^ 18 ≤ c.arg 1 then s.svcRefuse true
    else
      let hits := s.loadedTasks.flatMap (fun k =>
        ((s.task k).open_.filter (fun x => decide (x.2.1 = 0x07 ∧ lo ≤ x.2.2 ∧ x.2.2 < lo + 2 ^ 20))).map (fun x => (s.tdTenant k, x.1)))
      (hits.foldl (fun s x => s.resolve x.1 x.2 false) s,
        some (0, 0, BitVec.ofNat 64 (hits.filter (fun x => x.1 == u)).length))))

/-- SVC_BANK: the words at a DVA go to the standby bank and the swap is requested; the result is TSQ_ADM after admission. -/
def execSvcBank (id : Nat) (s : State) : Out :=
  .next (s.service id (fun c => c == 0x12) true (fun s c u =>
    let n := c.arg 1
    if c.issued then
      (if s.flag fAdmBusy ∨ (s.flag fTsqSwap ∧ !s.seq.swapOk) then (s, none) else (s, some (0, 0, s.rd tsqAdm)))
    else if n = 0 ∨ 65536 < n ∨ 2 ^ 48 ≤ c.arg 0 then s.svcRefuse true
    else if s.flag fTsqSwap ∨ s.flag fAdmBusy ∨ s.engineHeld u (c.arg 0) (8 * n) false then (s, none)
    else
      let r := s.readDva u (c.arg 0) (8 * n)
      match r.2 with
      | none => r.1.svcRefuse true
      | some bs =>
        let b := 1 - s.get fTsqBank
        let s := (List.range n).foldl (fun s i => s.wr (tsqProg b i) (BitVec.ofNat 64 (natLE ((bs.drop (8 * i)).take 8))))
          (r.1.sramWritten (regAddr (tsqProg b 0)) (8 * n))
        ((afterOr (execBankSwapRequest s) s).markIssued c, none)))

/-- SVC_SLOT_RECORD: kind bit 0 a stream-context record (else a sequence slot), bit 1 retire (else create); the index; the
DVA of the contents. -/
def execSvcSlotRecord (id : Nat) (s : State) : Out :=
  .next (s.service id (fun c => c == 0x13) true (fun s c u =>
    let kind := c.arg 0
    let n := c.arg 1
    let record := decide (kind % 2 = 1)
    let done (s : State) (ok : Bool) : State × SvcEnd := if ok then (s, some (0, 0, 0)) else s.svcRefuse true
    if 3 < kind ∨ (if record then 10240 else 64) ≤ n then s.svcRefuse true
    else if 2 ≤ kind then
      if record then
        let a := 0x400000000000 + 1024 * n
        let w := BitVec.ofNat 64 (s.natAt a 8)
        let t := afterOr (execContextRecordWrite a (putBits w 16 16 0) s) s
        done t (decide (bitsOf (BitVec.ofNat 64 (t.natAt a 8)) 16 16 = 0))
      else
        let t := afterOr (execSeqSlotWrite n 0 (packW [(s.get (fSlotTenant n), 4)]) s) s
        done t (!(t.flag (fSlotValid n)))
    else if s.engineHeld u (c.arg 2) (if record then 1024 else 32) false then (s, none)
    else
      let r := s.readDva u (c.arg 2) (if record then 1024 else 32)
      match r.2 with
      | none => r.1.svcRefuse true
      | some bs =>
        let w (i : Nat) : Word := BitVec.ofNat 64 (natLE ((bs.drop (8 * i)).take 8))
        let s := r.1
        if record then
          if s.recordNamed n then s.svcRefuse true
          else done (s.putCtx (0x400000000000 + 1024 * n) bs) true
        else if s.flag (fSlotValid n) then s.svcRefuse true
        else
          let s := afterOr (execSeqSlotWrite n 1 (w 1) s) s
          let s := afterOr (execSeqSlotWrite n 2 (w 2) s) s
          let s := afterOr (execSeqSlotWrite n 0 (putBits (w 0) 0 0 1) s) s
          done s (s.flag (fSlotValid n))))

end Sys2Proof.Machine
end

