-- ==== Sys2Proof/Machine/Open.lean ====
section
/-! DEFINITION. Commands of the open sites: power-up, the UCIe link, the Brulik message layer, negotiation, liveness,
isolation and rejoin (12 R416 to R450; 01 R32). -/

namespace Sys2Proof.Machine

/-! ## Power and link (R421, R424, R425) -/

/-- OPEN_SITE_POWER_UP: the rails rise in order and GRST_N is released. A site without a chiplet stays blank. -/
def execOpenSitePowerUp (k : Nat) (s : State) : Out :=
  .next (
    let o := s.opn k
    if 7 < k ∨ !o.due ∨ o.rails ∨ 2 ≤ s.get fBootMode ∨ !(s.cro.ended.contains 5) then s
    else if !(s.openCarries k) then (s.set (fOsLstate k) 6).modOpen k (fun o => { o with due := false })
    else (s.set (fOsLstate k) 1).modOpen k (fun o => { o with rails := true, released := true, due := false }))

/-- The rates of R424, and the highest of them that both limits allow. -/
def ucieRates : List Nat := [4, 8, 12, 16, 24, 32]
def ucieRate (a b : Nat) : Nat := (ucieRates.filter (fun r => decide (r ≤ a ∧ r ≤ b))).foldl max 0

/-- The modules that a link runs on: the largest power-of-two set, lowest-numbered first (R425). -/
def moduleSet (ok : Nat) : Nat :=
  let l := (List.range 4).filter (fun m => ok / 2 ^ m % 2 == 1)
  let l := if l.length = 3 then l.take 2 else l
  (l.map (fun m => 2 ^ m)).foldl (· + ·) 0

def bitCount (n w : Nat) : Nat := ((List.range w).filter (fun i => n / 2 ^ i % 2 == 1)).length

/-- The width code of a number of modules in service. -/
def moduleWidth (n : Nat) : Nat := if n = 4 then 0 else if n = 2 then 1 else if n = 1 then 2 else 3

/-- Detail of event 0x51. -/
def widthDetail (n m lanes : Nat) : Word := packW [(n, 0), (m, 8), (min lanes 15, 12)]

/-- UCIE_TRAIN: the guest offers rates up to `rate`; the modules of mask `ok` trained, with `lanes` repaired in each. -/
def execUcieTrain (k rate ok : Nat) (lanes : List Nat) (s : State) : Out :=
  .next (
    let o := s.opn k
    if 7 < k ∨ s.get (fOsLstate k) ≠ 1 ∨ !o.released ∨ o.link then s
    else
      let r := ucieRate rate (s.get (fOsRateMax k))
      let set := moduleSet ok
      let n := bitCount set 4
      let s := (List.range 4).foldl (fun s m =>
        let l := lanes.getD m 0
        let s := s.set (fOsLanes k m) l
        if l = 0 then s else s.openEvent k 0x51 (widthDetail n m l)) s
      -- a module that does not train leaves the link (R425)
      let s := ((List.range 4).filter (fun m => ok / 2 ^ m % 2 == 0)).foldl (fun s m => s.openEvent k 0x51 (widthDetail n m 0)) s
      let w := max (s.bondCode (openSite k)) (moduleWidth n)
      let s := s.set (fSiteWidth (openSite k)) w
      -- a bond out of service isolates the site as much as a link without a module (01 R27; R425)
      if w = 3 ∨ r = 0 then s.isolate k 1
      else
        let s := (((s.set (fOsRate k) r).set (fOsMods k) set).set (fOsLstate k) 2).modOpen k (fun o => { o with link := true })
        if w = 0 then s.rescale else s.capacityFell .net)

/-- UCIE_MODULE_LOSS: with `lane` a lane of module m is repaired; else module m leaves the link. -/
def execUcieModuleLoss (k m : Nat) (lane : Bool) (s : State) : Out :=
  .next (
    let st := s.get (fOsLstate k)
    let mods := s.get (fOsMods k)
    let site := openSite k
    if 7 < k ∨ 3 < m ∨ mods / 2 ^ m % 2 = 0 ∨ st < 2 ∨ 4 < st then s
    else if lane then
      let l := s.get (fOsLanes k m) + 1
      ((s.set (fOsLanes k m) l).openEvent k 0x51 (widthDetail (bitCount mods 4) m l)).logLater 0x01 0x04 site m
    else
      let set := moduleSet (mods - 2 ^ m)
      let n := bitCount set 4
      let s := (s.set (fOsMods k) set).set (fSiteWidth site) (max (s.bondCode site) (moduleWidth n))
      let s := (s.openEvent k 0x51 (widthDetail n m (s.get (fOsLanes k m)))).logLater 0x07 0x04 site n
      if n = 0 then s.isolate k 1
      else
        let s := if st = 3 then (s.set (fOsLstate k) 4).set (fSiteState site) 3 else s
        s.capacityFell .net)

/-! ## Messages (R427 to R430) -/

/-- A message as it stands on the link. -/
structure BmlMsg where
  ver : Nat
  len : Nat
  type : Nat
  cls : Nat
  node : Nat
  tag : Nat
  addr : Nat
  n : Nat
  status : Nat
  body : List Word
  deriving DecidableEq, Repr

/-- Payload words that a message of version 1 holds: none where any number may stand (R428). -/
def bmlPayload (type n : Nat) : Option Nat :=
  if type = 1 ∨ type = 3 ∨ type = 8 ∨ type = 0x0C then some (n + 1)
  else if type = 0x0A then some 2
  else if type = 0x13 ∨ type = 0x16 then some 1
  else if type = 0x10 then none
  else some 0

/-- Of a message of a later version the payload known here is used, and the rest skipped by its length (R430, 00 R13). -/
def bmlOf (ws : List Word) : BmlMsg :=
  let a := ws.getD 0 0
  let b := ws.getD 1 0
  let body := match bmlPayload (bitsOf a 23 16) (bitsOf b 56 48) with
    | some p => (ws.drop 2).take p
    | none => ws.drop 2
  ⟨bitsOf a 7 0, bitsOf a 15 8, bitsOf a 23 16, bitsOf a 24 24, bitsOf a 47 32, bitsOf a 63 48, bitsOf b 47 0, bitsOf b 56 48,
    bitsOf b 63 60, body⟩

/-- The payload as bytes. -/
def BmlMsg.bytes (m : BmlMsg) : List Byte := m.body.flatMap (fun w => bytesLE 8 w.toNat)

/-- Types that a guest sends. -/
def guestTypes : List Nat := [0x01, 0x02, 0x03, 0x04, 0x05, 0x06, 0x08, 0x0A, 0x0C, 0x0E, 0x10, 0x11, 0x12, 0x13, 0x15, 0x16]

/-- Requests, which need a credit (R429). -/
def bmlRequest (ty : Nat) : Bool := [0x01, 0x02, 0x06, 0x08, 0x0A, 0x0B, 0x0D].contains ty

/-- Which hub request a guest's response answers. -/
def answersType (ty : Nat) (o : BmlOut) : Bool :=
  if ty = 0x03 then o.type == 2 else if ty = 0x04 then o.type == 1 else if ty = 0x05 then decide (o.type ≤ 2)
  else if ty = 0x0C then o.type == 0x0B else o.type == 0x0D

/-- The payload of a type has its length, in words; a later version's may be longer (R428, R430). -/
def BmlMsg.lenOk (m : BmlMsg) : Bool :=
  let most := if m.type = 1 ∨ m.type = 2 ∨ m.type = 3 then 31 else if m.type = 8 ∨ m.type = 0x0C then 127 else 511
  decide (m.n ≤ most) && (match bmlPayload m.type m.n with
    | some p => if m.ver = 1 then m.len - 2 == p else decide (p ≤ m.len - 2)
    | none => true)

/-- A protocol error in a guest's message (R430; R439 for features). DESIGN CHOICE (log 99): a descriptor of version 0 or
length 0, a format error whose cause the spec does not name (00 R13), and one that is not of the guest's kind are protocol
errors too, isolation cause 0x8. -/
def State.bmlBad (s : State) (k : Nat) (ws : List Word) : Bool :=
  let m := bmlOf ws
  let o := s.opn k
  let req := [0x01, 0x02, 0x06, 0x08, 0x0A].contains m.type
  let resp := [0x03, 0x04, 0x05, 0x0C, 0x0E].contains m.type
  let max := if m.type = 0x10 then 246 else 130
  decide (m.ver = 0 ∨ m.len < 2 ∨ (m.ver = 1 ∧ max < m.len) ∨ ws.length ≠ m.len) || !(guestTypes.contains m.type)
    || (m.ver == 1 && decide (bitsOf (ws.getD 0 0) 31 25 ≠ 0 ∨ bitsOf (ws.getD 1 0) 59 57 ≠ 0))
    || (req && m.cls != 0) || (resp && m.cls != 1) || !m.lenOk
    || (decide (m.type ≤ 5) && m.ver == 1 && decide (m.addr / 2 ^ 19 % 32 ≠ 0))
    || ([0x06, 0x08, 0x0A].contains m.type && decide (m.addr % 8 ≠ 0))
    || (m.type == 0x0A && decide (m.status = 0 ∨ 4 < m.status))
    || (m.type == 0x05 && decide (m.status ≠ 5 ∧ m.status ≠ 6))
    || ([0x03, 0x04, 0x0C, 0x0E].contains m.type && decide (6 < m.status))
    || (resp && !(o.outs.any (fun x => x.tag == m.tag && answersType m.type x
        && (m.type != 0x03 || x.n == m.n) && (m.type != 0x0C || m.status != 0 || x.n == m.n))))
    || (req && o.guestCred == 0)
    || (m.type == 0x10 && (bitsOf (m.body.getD 0 0) 7 0 == 0 || bitsOf (m.body.getD 0 0) 15 8 == 0
      || bitsOf (m.body.getD 0 0) 23 16 != 1))
    || (m.type == 0x0A && o.feat / 2 % 2 == 0) || (m.type == 0x02 && o.feat / 8 % 2 == 0)

/-- The site carries messages and memory traffic. -/
def State.siteActive (s : State) (k : Nat) : Bool :=
  decide (k < 8) && (s.get (fOsLstate k) == 3 || s.get (fOsLstate k) == 4) && (s.opn k).link

/-- A guest's message of one of the row's types arrives: a protocol error isolates the site; a request takes a credit,
which is free again when the hub has taken the request up. -/
def State.fromGuest (s : State) (k : Nat) (ws : List Word) (mine : Nat → Bool) (early : Bool) (go : State → BmlMsg → State) : State :=
  let m := bmlOf ws
  let st := s.get (fOsLstate k)
  if 7 < k ∨ !(s.opn k).link ∨ st < 2 ∨ 4 < st ∨ !(mine m.type) then s
  else if s.bmlBad k ws then s.isolate k 8
  else if !early ∧ !(s.siteActive k) then s
  else
    let s := if bmlRequest m.type then s.modOpen k (fun o => { o with guestCred := o.guestCred - 1, freed := o.freed + 1 }) else s
    go s m

/-- The hub sends a request: it takes a credit and a tag; without a credit it waits. -/
def State.bmlRequestOut (s : State) (k type node msg addr n : Nat) (data : List Byte) : State :=
  let o := s.opn k
  if o.hubCred = 0 ∨ o.outs.any (fun x => x.tag == o.nextTag) then s
  else
    (s.toGuest k type node o.nextTag addr n 0 data).modOpen k (fun o => { o with
      hubCred := o.hubCred - 1, nextTag := (o.nextTag + 1) % 2 ^ 16
      outs := o.outs ++ [⟨o.nextTag, type, msg, n⟩] })

/-- Ends the outstanding hub request that a response answers. -/
def State.takeOut (s : State) (k tag : Nat) : State × Option BmlOut :=
  match (s.opn k).outs.find? (fun x => x.tag == tag) with
  | none => (s, none)
  | some x => (s.modOpen k (fun o => { o with outs := o.outs.erase x }), some x)

/-! ## Nodes and messages (R431 to R433) -/

/-- The entry of a declared node in the guest's descriptor (R438). -/
def State.nodeEntry (s : State) (k v : Nat) : Option Word :=
  (List.range (s.get (fOsNodes k))).findSome? (fun i =>
    let w := s.rd (osDesc k (4 + i))
    if bitsOf w 15 0 = v then some w else none)

/-- The hub sends a core's SEND or RECV to a node, or answers it itself with code 0x6 (R431, R439). -/
def State.coreToNode (s : State) (k id : Nat) (kind : MsgKind) : State :=
  match s.msg id with
  | none => s
  | some m =>
    if m.kind ≠ kind ∨ destKind m.dst ≠ 1 ∨ destSite m.dst ≠ k ∨ (s.opn k).outs.any (fun x => x.msg == id && decide (x.type ≤ 2)) then s
    else
      let declared := match s.nodeEntry k (destNode m.dst) with
        | some w => bitsOf w 20 20 == 1
        | none => false
      let recv := decide (kind = .recvReq)
      if !(s.siteActive k) ∨ !declared ∨ (recv ∧ (s.opn k).feat % 2 = 0) then s.putMsg id { m with kind := .merr 0x6, data := [], route := s.routeOf m.dst m.src }
      else if s.net.any (fun x => decide (x.1 < id) && x.2.kind.isRequest && decide (x.2.src = m.src ∧ x.2.dst = m.dst)
          && extOverlap (x.2.roff, x.2.len) (m.roff, m.len) && !((s.opn k).outs.any (fun y => y.msg == x.1))) then s
      else
        s.bmlRequestOut k (if recv then 2 else 1) (destNode m.dst) id (m.roff + m.ctr * 2 ^ 15 + m.src * 2 ^ 24) (m.len / 8 - 1)
          m.data

/-- The error that a node's SEND or RECV meets at the hub (R60, R432). -/
def State.nodeError (s : State) (k node dst roff len : Nat) : Option Nat :=
  if destKind dst ≠ 0 ∨ !(isCore dst) then some 0x2
  else if 0x8000 < roff + len ∨ roff % 8 ≠ 0 then some 0x5
  else match s.coreTenant dst with
    | some u => if s.nodePermitted u k node then none else some 0x7
    | none => some 0x7

/-- A node's SEND or RECV becomes a message of the hub. -/
def State.nodeToCore (s : State) (k : Nat) (m : BmlMsg) (kind : MsgKind) : State :=
  let dst := m.addr / 2 ^ 24
  let roff := m.addr % 2 ^ 15
  let len := 8 * (m.n + 1)
  let id := s.nextId
  let task := (s.coreTenant dst).map (fun u => s.get (fGrantPtask k u))
  let x : Msg :=
    { kind := match s.nodeError k m.node dst roff len with
        | some e => .merr e
        | none => kind
      src := nodeDest k m.node, task := task, dst := dst, roff := roff, len := len, ctr := m.addr / 2 ^ 15 % 16, lofs := 0, rd := 0
      cmp := 0, data := if kind = .send then m.bytes else [], req := id, phys := none, gateOut := none
      gateIn := some (gateway dst), route := s.routeOf (nodeDest k m.node) dst }
  { (s.modOpen k (fun o => { o with ins := o.ins ++ [⟨m.tag, m.node, m.type, id, [], 0, 0⟩] })) with
    net := s.net ++ [(id, x)], nextId := id + 1 }

/-- BML_SEND; a guest's message of a type that no guest may send comes here too, as a protocol error. -/
def execBmlSend (k : Nat) (b : Bml) (s : State) : Out :=
  .next (match b with
    | .hub id _ _ => s.coreToNode k id .send
    | .guest ws => s.fromGuest k ws (fun t => t == 1 || !(guestTypes.contains t)) false (fun s m => s.nodeToCore k m .send))

def execBmlRecv (k : Nat) (b : Bml) (s : State) : Out :=
  .next (match b with
    | .hub id _ _ => s.coreToNode k id .recvReq
    | .guest ws => s.fromGuest k ws (fun t => t == 2) false (fun s m => s.nodeToCore k m .recvReq))

/-- The hub returns the answer that message `id` has become to the node that sent it: roff and ctr of the message, and the
core at the other end (R428). -/
def State.answerNode (s : State) (k id : Nat) (ok : MsgKind → Bool) : State :=
  match s.msg id, (s.opn k).ins.find? (fun x => x.msg == id && decide (x.type ≤ 2)) with
  | some m, some i =>
    if !(ok m.kind) ∨ !(s.siteActive k) then s
    else
      let r : Nat × Nat := match m.kind with
        | .merr e => (5, e)
        | .recvData => (3, 0)
        | _ => (4, 0)
      let s := s.dropMsg id
      (s.toGuest k r.1 i.node i.tag (m.roff + m.ctr * 2 ^ 15 + m.dst * 2 ^ 24) (if r.1 = 3 then m.len / 8 - 1 else 0) r.2 (if r.1 = 3 then m.data else [])).modOpen k
        (fun o => { o with ins := o.ins.erase i })
  | _, _ => s

/-- A guest answers a core's SEND or RECV: the message takes the answer's kind. -/
def State.answerCore (s : State) (k : Nat) (m : BmlMsg) : State :=
  match s.takeOut k m.tag with
  | (s, some o) => match s.msg o.msg with
    | some x =>
      if m.type = 3 then s.putMsg o.msg { x with kind := .recvData, data := m.bytes, route := s.routeOf x.dst x.src }
      else if m.type = 4 then s.putMsg o.msg { x with kind := .ack, data := [], route := s.routeOf x.dst x.src }
      else s.putMsg o.msg { x with kind := .merr m.status, data := [], route := s.routeOf x.dst x.src }
    | none => s
  | (s, none) => s

def execRdata (k : Nat) (b : Bml) (s : State) : Out :=
  .next (match b with
    | .hub id _ _ => s.answerNode k id (fun x => x == .recvData)
    | .guest ws => s.fromGuest k ws (fun t => t == 3) false (fun s m => s.answerCore k m))

def execAckMsg (k : Nat) (b : Bml) (s : State) : Out :=
  .next (match b with
    | .hub id _ _ => s.answerNode k id (fun x => x == .ack)
    | .guest ws => s.fromGuest k ws (fun t => t == 4) false (fun s m => s.answerCore k m))

def execMerr (k : Nat) (b : Bml) (s : State) : Out :=
  .next (match b with
    | .hub id _ _ => s.answerNode k id (fun x => match x with
        | .merr _ => true
        | _ => false)
    | .guest ws => s.fromGuest k ws (fun t => t == 5) false (fun s m => s.answerCore k m))

/-! ## Memory access by nodes (R434 to R436) -/

/-- Some byte of the extent lies in a partition under reset. -/
def State.extFenced (s : State) (c v n : Nat) : Bool :=
  (pageParts (n / 4096 + 2) v n).any (fun p => match s.translate c p.1 with
    | none => false
    | some a => match s.ownerAt a with
      | some u => s.fencedTen.contains u
      | none => false)

/-- A node's fault goes to queue 16 (R436). -/
def State.nodeFault (s : State) (k node : Nat) (need : Need) (e : ExtFail) : State :=
  s.fault 16 false
    { cause := e.cause, src := 0x3, ctx := 16 + k, parked := false, more := e.more, task := 0, faddr := e.v, acc := need.acc
      aux := if e.cause = 0x06 ∨ e.cause = 0x07 then e.reached else 0, who := node + k * 2 ^ 16, d0 := 0, d1 := 0 }

/-- The asker of a node's accesses at open site k: each granting tenant's label and guarantees (R435). -/
def State.nodeAsker (s : State) (k : Nat) : Asker :=
  ⟨openSite k, 16 + k, fun u => (u.map (fun u => s.get (fGrantLabel k u))).getD 0, fun u => u.getD 0⟩

/-- What a memory request of a node ends with: status, cause, data (R428 status codes). -/
def State.nodeAccess (s : State) (k node : Nat) (need : Need) (v n : Nat) (go : State → State × Except ExtFail (List Byte)) :
    State × Nat × Nat × List Byte :=
  let c := 16 + k
  match s.extCheck c need v n with
  | some e =>
    if e.cause = 0x06 ∧ s.extFenced c v n then (s.absorb, 3, 0, []) else (s.nodeFault k node need e, 1, e.cause, [])
  | none =>
    if s.extFenced c v n then (s.absorb, 3, 0, [])
    else if (pageParts (n / 4096 + 2) v n).any (fun p => match s.place ((s.translate c p.1).getD 0) with
        | .core x _ => s.noCore x
        | _ => false) then (s, 4, 0, [])
    else
      let r := go (s.hubRequests (s.nodeAsker k) (decide (need ≠ .read)) v n)
      match r.2 with
      | .ok bs => (r.1, 0, 0, bs)
      | .error e => if e.cause = 0 then (r.1, 5, 0, []) else (r.1.nodeFault k node need e, 2, e.cause, [])

/-- Carries out a node's memory request; its answer waits for MRDD or MCPL. -/
def State.nodeRequest (s : State) (k : Nat) (m : BmlMsg) (need : Need) (n : Nat)
    (go : State → State × Except ExtFail (List Byte)) : State :=
  let r := s.nodeAccess k m.node need m.addr n go
  r.1.modOpen k (fun o => { o with ins := o.ins ++ [⟨m.tag, m.node, m.type, 0, r.2.2.2, r.2.1, r.2.2.1⟩] })

/-- A node's memory request waits for what it reaches. -/
def State.nodeHeld (s : State) (k : Nat) (ws : List Word) : Bool :=
  let m := bmlOf ws
  s.askHeld (s.nodeAsker k) (decide (m.type ≠ 6)) m.addr
    (if m.type = 6 then 8 * (m.n + 1) else if m.type = 8 then m.bytes.length else 8)

def execMrd (k : Nat) (ws : List Word) (s : State) : Out :=
  .next (if s.nodeHeld k ws then s else s.fromGuest k ws (fun t => t == 6) false (fun s m =>
    let n := 8 * (m.n + 1)
    s.nodeRequest k m .read n (fun s => s.extRead (16 + k) m.addr n [])))

/-- MRDD of the read of number `tag`: the next piece of at most 1,024 B; the last carries the status. -/
def execMrdd (k tag : Nat) (s : State) : Out :=
  .next (match (s.opn k).ins.find? (fun x => x.tag == tag && x.type == 6) with
    | none => s
    | some i =>
      let d := i.data.take 1024
      let rest := i.data.drop 1024
      let addr := if i.status = 1 then i.cause else 0
      let s := s.toGuest k 7 i.node tag addr (d.length / 8 - 1) (if rest = [] then i.status else 0) d
      s.modOpen k (fun o => { o with ins := if rest = [] then o.ins.erase i else o.ins.map (fun x =>
        if x = i then { i with data := rest } else x) }))

def execMwr (k : Nat) (ws : List Word) (s : State) : Out :=
  .next (if s.nodeHeld k ws then s else s.fromGuest k ws (fun t => t == 8) false (fun s m =>
    s.nodeRequest k m .write m.bytes.length (fun s =>
      let r := s.extWrite (16 + k) m.addr m.bytes
      (r.1, match r.2 with
        | none => .ok []
        | some e => .error e))))

def execMatom (k : Nat) (ws : List Word) (s : State) : Out :=
  .next (if s.nodeHeld k ws then s else s.fromGuest k ws (fun t => t == 0x0A) false (fun s m =>
    s.nodeRequest k m .atomic 8 (fun s =>
      let r := s.extAtomic (16 + k) m.addr 8 m.status (m.body.getD 0 0).toNat (m.body.getD 1 0).toNat []
      (r.1, match r.2 with
        | .ok old => .ok (bytesLE 8 old)
        | .error e => .error e))))

/-- MCPL of the write or atomic of number `tag`. -/
def execMcpl (k tag : Nat) (s : State) : Out :=
  .next (match (s.opn k).ins.find? (fun x => x.tag == tag && (x.type == 8 || x.type == 0x0A)) with
    | none => s
    | some i =>
      (s.toGuest k 9 i.node tag (if i.status = 1 then i.cause else 0) 0 i.status i.data).modOpen k
        (fun o => { o with ins := o.ins.erase i }))

/-- NODE_FAULT_COPY of the record of number `seq` in queue 16 (R436). -/
def execNodeFaultCopy (seq : Nat) (s : State) : Out :=
  .next (
    let recs := (List.range 256).map (fun i => (List.range 8).map (fun w => s.rd (fltRec 16 i w)))
    match recs.find? (fun r => bitsOf (r.getD 0 0) 31 24 == 0x3 && bitsOf (r.getD 1 0) 31 0 == seq && seq != 0) with
    | none => s
    | some r =>
      let ctx := bitsOf (r.getD 0 0) 44 40
      let owner := match s.translate ctx (bitsOf (r.getD 2 0) 47 0) with
        | none => none
        | some a => s.ownerAt a
      match owner with
      | none => s
      | some u =>
        if !s.cro.running then s
        else
          let n := s.faultNo u
          let ws := match r with
            | a :: b :: l => putBits a 35 32 u :: putBits b 31 0 n :: l
            | l => l
          let s := { s with faultSeq := smSetD s.faultSeq 1 u ((n + 1) % 2 ^ 32) }
          if s.faultUsed u < 256 then s.putRecord u ws else s.keepRecord u ⟨u, none, ws, false⟩)

/-! ## The O-space window (R437) -/

/-- A piece of a window access goes to the guest, or is answered by the adapter itself. -/
def State.windowOut (s : State) (k type off n : Nat) (data : List Byte) : State :=
  if 7 < k ∨ n = 0 ∨ 1024 < n ∨ n % 8 ≠ 0 then s
  else if !(s.siteActive k) then s.emit "window-unavailable" [k, off] []
  else if (s.opn k).feat / 4 % 2 = 0 ∨ s.windowBytes k < off + n then s.emit "address-error" [0x300000000000 + k * 2 ^ 40 + off] []
  else s.bmlRequestOut k type 0 0 off (n / 8 - 1) data

/-- ORD of `n` bytes at window offset `off`. -/
def execOrdMsg (k off n : Nat) (s : State) : Out := .next (s.windowOut k 0x0B off n [])
def execOwr (k off : Nat) (data : List Byte) (s : State) : Out := .next (s.windowOut k 0x0D off data.length data)

def execOrdd (k : Nat) (ws : List Word) (s : State) : Out :=
  .next (s.fromGuest k ws (fun t => t == 0x0C) false (fun s m => (s.takeOut k m.tag).1.emit "window-data" [k, m.tag, m.status] m.bytes))

def execOcpl (k : Nat) (ws : List Word) (s : State) : Out :=
  .next (s.fromGuest k ws (fun t => t == 0x0E) false (fun s m => (s.takeOut k m.tag).1.emit "window-written" [k, m.tag, m.status] []))

/-! ## Negotiation (R438 to R443) -/

/-- The identity record's two words of open site k. -/
def State.identA (s : State) (k : Nat) : Word := s.ident.getD (2 + 2 * k) 0
def State.identB (s : State) (k : Nat) : Word := s.ident.getD (3 + 2 * k) 0

/-- Class power of R417 in W. -/
def classPower (c : Nat) : Nat := if c = 1 then 90 else if c = 2 then 80 else if c = 3 then 60 else 0

/-- The isolation cause of the first check of R441 that a descriptor fails; 0: accepted. -/
def State.descCause (s : State) (k : Nat) (d : List Word) : Nat :=
  let w (i : Nat) : Word := d.getD i 0
  let a := s.identA k
  let b := s.identB k
  let n := bitsOf (w 2) 39 32
  let nodes := (List.range n).map (fun i => w (4 + i))
  let nums := nodes.map (fun x => bitsOf x 15 0)
  if bitsOf (w 1) 16 16 = 0 then 3
  else if bitsOf (w 0) 47 32 ≠ bitsOf a 31 16 ∨ bitsOf (w 0) 63 48 ≠ bitsOf a 47 32 ∨ bitsOf (w 1) 15 0 < bitsOf a 63 48 then 2
  else if bitsOf (w 2) 27 24 ≠ bitsOf a 11 9 ∨ bitsOf (w 2) 7 0 ≠ bitsOf b 7 0 ∨ bitsOf (w 2) 15 8 ≠ bitsOf b 15 8
      ∨ bitsOf (w 3) 47 40 ≠ bitsOf b 23 16 ∨ classPower (bitsOf (w 2) 27 24) < bitsOf (w 2) 7 0 ∨ 105 < bitsOf (w 2) 15 8
      ∨ bitsOf (w 2) 23 16 = 0 ∨ 10 < bitsOf (w 2) 23 16 ∨ bitsOf (w 2) 47 40 < 8 ∨ n = 0 ∨ 240 < n ∨ bitsOf (w 2) 31 30 = 3 then 4
  else if nums.eraseDups ≠ nums ∨ nums.any (fun x => x == 0 || x == 0xFFFF)
      ∨ nodes.any (fun x => bitsOf x 40 32 == 0) then 4
  else if bitsOf (w 2) 28 28 = 0 ∨ bitsOf (w 2) 29 29 = 0 then 4
  else 0

/-- DESC: the hub's own, sent first; then the guest's, which is stored and judged. -/
def execDescMsg (k : Nat) (b : Bml) (s : State) : Out :=
  .next (match b with
    | .hub _ _ _ =>
      if 7 < k ∨ s.get (fOsLstate k) ≠ 2 ∨ !(s.opn k).link then s
      else
        let ws : List Word := [packW [(1, 0), (4, 8), (2, 16), (0x4B64, 32), (k, 48)],
          packW [(s.get fDevStepping, 0), (1, 16), (0xF, 32)], packW [(s.get (fSitePwrCap (openSite k)), 0), (64, 40)], 0]
        (s.toGuest k 0x10 0 0 0 0 0 (ws.flatMap (fun w => bytesLE 8 w.toNat))).modOpen k (fun o => { o with guestCred := 64 })
    | .guest ws => s.fromGuest k ws (fun t => t == 0x10) true (fun s m =>
        if s.get (fOsLstate k) ≠ 2 ∨ (s.opn k).dack.isSome then s
        else
          let d := m.body.take (bitsOf (m.body.getD 0 0) 15 8)
          let s := (List.range 256).foldl (fun s i => s.wr (osDesc k i) (d.getD i 0)) s
          s.modOpen k (fun o => { o with dack := some (s.descCause k d) })))

/-- The level at which the declared power comes within the site's cap (R422, R442). -/
def State.capLevel (s : State) (k : Nat) : Nat :=
  ((List.range 8).find? (fun l => decide (s.get (fOsPwrDecl k) * (8 - l) ≤ 8 * s.capOf (openSite k)))).getD 7

/-- DACK: the hub returns the result of the guest's descriptor, and the site becomes active or is isolated. A guest's own
DACK has no effect. -/
def execDack (k : Nat) (b : Bml) (s : State) : Out :=
  .next (match b with
    | .guest ws => s.fromGuest k ws (fun t => t == 0x11) true (fun s _ => s)
    | .hub _ _ _ =>
      match (s.opn k).dack with
      | none => s
      | some cause =>
        if 7 < k ∨ s.get (fOsLstate k) ≠ 2 then s
        else
          let s := (s.toGuest k 0x11 0 0 0 0 cause []).modOpen k (fun o => { o with dack := none })
          if cause ≠ 0 then s.isolate k cause
          else
            let w (i : Nat) : Word := s.rd (osDesc k i)
            let pwr := bitsOf (w 2) 7 0
            let feat := bitsOf (w 1) 63 32 % 16
            let s := ((((s.set (fOsMaker k) (bitsOf (w 0) 47 32)).set (fOsChiplet k) (bitsOf (w 0) 63 48)).set (fOsRev k)
              (bitsOf (w 1) 15 0)).set (fOsFeat k) feat).set (fOsVmap k) (bitsOf (w 1) 23 16)
            let s := (((s.set (fOsPwrDecl k) pwr).set (fOsTjMax k) (bitsOf (w 2) 15 8)).set (fOsNodes k) (bitsOf (w 2) 39 32)).set
              (fOsVer k) 1
            let s := (((s.set (fSitePwrCap (openSite k)) pwr).settleRegs).set (fOsLstate k) 3).set (fSiteState (openSite k)) 2
            let s := s.modOpen k (fun o => { o with feat := feat, hubCred := bitsOf (w 2) 47 40 })
            s.openEvent k 0x52 (packW [(1, 0), (pwr, 8), (feat, 16)]))

/-! ## Liveness, temperature, credits (R422, R429, R444) -/

def execHeart (k : Nat) (b : Bml) (s : State) : Out :=
  .next (match b with
    | .guest ws => s.fromGuest k ws (fun t => t == 0x12) true (fun s _ => s)
    | .hub _ _ _ => if (s.opn k).link ∧ s.get (fOsLstate k) ≤ 4 ∧ k < 8 then s.toGuest k 0x12 0 0 0 0 0 [] else s)

/-- The hub sets a throttle level (event 0x53) and has a THROTTLE to send. -/
def State.setLevel (s : State) (k l : Nat) : State :=
  if s.get (fOsLevel k) = l then s
  else ((s.set (fOsLevel k) l).openEvent k 0x53 (packW [(l, 0), (s.get (fOsTguest k), 16)])).modOpen k (fun o => { o with thr := true })

/-- The temperature that a TREPORT carries. -/
def treportTemp (m : BmlMsg) : Int := signed16 (bitsOf (m.body.getD 0 0) 15 0)

/-- TREPORT: the guest's temperature moves the level by one, or isolates the site; a hot report of the very cycle in which the
site was isolated gives the lower-numbered cause (R450). -/
def execTreport (k : Nat) (ws : List Word) (s : State) : Out :=
  .next (if s.justIsolated k ∧ (bmlOf ws).type = 0x13 ∧ ((s.get (fOsTjMax k) : Int) + 3) * 64 ≤ treportTemp (bmlOf ws) then
      s.isolate k 6
    else s.fromGuest k ws (fun t => t == 0x13) true (fun s m =>
    let raw := bitsOf (m.body.getD 0 0) 15 0
    let t := treportTemp m
    let tj : Int := s.get (fOsTjMax k)
    let l := s.get (fOsLevel k)
    let s := s.set (fOsTguest k) raw
    if !(s.siteActive k) then s
    else if (tj + 3) * 64 ≤ t then s.isolate k 6
    else if (tj - 5) * 64 ≤ t then s.setLevel k (min 7 (l + 1))
    else if t < (tj - 8) * 64 then s.setLevel k (max (min l (s.capLevel k)) (l - 1))
    else s))

/-- THROTTLE: the level that is due goes to the guest; a cap below the declared power raises it first (R442). -/
def execThrottle (k : Nat) (s : State) : Out :=
  .next (
    if !(s.siteActive k) then s
    else
      let s := s.setLevel k (max (s.get (fOsLevel k)) (s.capLevel k))
      if (s.opn k).thr then (s.toGuest k 0x14 0 0 0 0 (s.get (fOsLevel k)) []).modOpen k (fun o => { o with thr := false }) else s)

def execCredit (k : Nat) (b : Bml) (s : State) : Out :=
  .next (match b with
    | .guest ws => s.fromGuest k ws (fun t => t == 0x15) true (fun s m =>
        s.modOpen k (fun o => { o with hubCred := o.hubCred + m.addr % 2 ^ 16 }))
    | .hub _ _ _ =>
      let n := (s.opn k).freed
      if n = 0 ∨ 7 < k ∨ !(s.opn k).link then s
      else (s.toGuest k 0x15 0 0 n 0 0 []).modOpen k (fun o => { o with freed := 0, guestCred := o.guestCred + n }))

def execGerr (k : Nat) (ws : List Word) (s : State) : Out :=
  .next (s.fromGuest k ws (fun t => t == 0x16) true (fun s m => s.openEvent k 0x54 (m.body.getD 0 0)))

/-! ## Isolation and rejoin (R444 to R447) -/

/-- DESCRIPTOR_TIMEOUT: 100 ms of link active without a descriptor; the hub sends the cause in a DACK (R441). -/
def execDescriptorTimeout (k : Nat) (s : State) : Out :=
  .next (if s.get (fOsLstate k) = 2 ∧ (s.opn k).dack = none then (s.toGuest k 0x11 0 0 0 0 3 []).isolate k 3 else s)

def execHeartbeatLoss (k : Nat) (s : State) : Out := .next (if (s.opn k).link ∨ s.justIsolated k then s.isolate k 7 else s)

def execTreportMissing (k : Nat) (s : State) : Out := .next (if s.siteActive k ∨ s.justIsolated k then s.isolate k 6 else s)

def execGalertAsserted (k : Nat) (s : State) : Out := .next (if (s.opn k).released ∨ s.justIsolated k then s.isolate k 0xA else s)

/-- OPEN_SITE_CURRENT_LIMIT: 1 ms at the rails' current limit (01 R32). -/
def execOpenSiteCurrentLimit (k : Nat) (s : State) : Out := .next (if (s.opn k).rails ∨ s.justIsolated k then s.isolate k 5 else s)

/-- A rejoin of an isolated site, or its refusal. -/
def State.rejoin (s : State) (k : Nat) : State :=
  let recent := s.recentRejoins k
  let c := s.get (fOsCause k)
  if s.get (fOsLstate k) ≠ 5 ∨ c < 5 ∨ 3 ≤ recent.length then s.set (fOsRjerr k) 1
  else
    let s := (((s.set (fOsCause k) 0).set (fOsLstate k) 0).set (fOsRejoins k) (recent.length + 1)).set (fSiteState (openSite k)) 1
    s.modOpen k (fun o => { o with due := true, rejoinAt := recent ++ [s.now] })

/-- A write of OS_CTLk: a rate that is none of R424's leaves rate_max as it is. -/
def State.osCtlWrite (s : State) (k : Nat) (w : Word) : State :=
  if 7 < k then s
  else
    let s := s.checkReserved 16 (osCtl k) w
    let r := bitsOf w 13 8
    let s := if ucieRates.contains r then s.set (fOsRateMax k) r else s
    let s := if bitsOf w 0 0 = 1 then s.isolate k 9 else s
    if bitsOf w 1 1 = 1 then s.rejoin k else s

/-- OS_ISOLATE: a write of OS_CTLk with isolate = 1. -/
def execOsIsolate (k : Nat) (w : Word) (s : State) : Out := .next (if s.inSafe then s else if bitsOf w 0 0 = 1 then s.osCtlWrite k w else s)

/-- OS_REJOIN: a write of OS_CTLk with rejoin = 1 alone. -/
def execOsRejoin (k : Nat) (w : Word) (s : State) : Out :=
  .next (if s.inSafe then s else if bitsOf w 0 0 = 0 ∧ bitsOf w 1 1 = 1 then s.osCtlWrite k w else s)

/-- OS_GRANT_WRITE (R449). -/
def execOsGrantWrite (k u : Nat) (w : Word) (s : State) : Out :=
  .next (if s.inSafe then s else if 7 < k ∨ 15 < u then s
    else (s.checkReserved 16 (osGrant k u) w).writeFields (osGrant k u) (2 ^ 64 - 1) w)

end Sys2Proof.Machine
end

