-- ==== Sys2Proof/Machine/Otp.lean ====
section
/-! DEFINITION. The one-time-programmable fuses: steps, position and state, intent slots, and burning bit by bit (15 R518 to
R524, R528; 16 R542). -/

namespace Sys2Proof.Machine

/-- The number of 1 bits among the low `w` bits. -/
def ones (n w : Nat) : Nat := ((List.range w).filter (fun i => n / 2 ^ i % 2 == 1)).length

/-- What a copy, a step or a seal reads as (R523). -/
inductive Burn where
  | blank | torn | burned
  deriving DecidableEq, Repr

/-- A 16-bit copy: burned at 12 or more, blank at 4 or fewer. -/
def copyBurn (c : Nat) : Burn := if 12 ≤ ones c 16 then .burned else if ones c 16 ≤ 4 then .blank else .torn

/-- A step: burned or blank when at least two of its copies are. -/
def stepBurn (cs : List Nat) : Burn :=
  let b := cs.map copyBurn
  if 2 ≤ (b.filter (fun x => x == .burned)).length then .burned
  else if 2 ≤ (b.filter (fun x => x == .blank)).length then .blank
  else .torn

/-- The position: consecutive burned steps from the first. -/
def Otp.pos (o : Otp) : Nat := (o.steps.takeWhile (fun c => stepBurn c == .burned)).length

/-- A torn step exists: torn, or burned above the position (R523, R529). -/
def Otp.torn (o : Otp) : Bool := (o.steps.drop o.pos).any (fun c => stepBurn c != .blank)

/-- The state code of a position (R518). -/
def lcsOf (p : Nat) : Nat := if p ≤ 1 then p else if p ≤ 14 then 2 + p % 2 else if p = 15 then 4 else 5

/-- A slot's seal reads burned (R524). -/
def OtpSlot.valid (x : OtpSlot) : Bool := copyBurn x.sealed == .burned

/-- No bit of the slot is burned. -/
def OtpSlot.free (x : OtpSlot) : Bool := x.digest == 0 && x.target == 0 && x.sealed == 0

/-- The bitwise majority of the target's three copies. -/
def OtpSlot.goal (x : OtpSlot) : Nat :=
  let a := x.target % 256
  let b := x.target / 256 % 256
  let c := x.target / 65536 % 256
  (a &&& b) ||| (a &&& c) ||| (b &&& c)

/-- Valid and spent slots. -/
def Otp.used (o : Otp) : Nat := (o.slots.filter (fun x => !x.free)).length

/-- The highest target of a valid slot. -/
def Otp.goal (o : Otp) : Nat := ((o.slots.filter OtpSlot.valid).map OtpSlot.goal).foldl max 0

/-- Openings of FIELD_DEBUG: completed transitions to one of its positions. -/
def Otp.opens (o : Otp) : Nat :=
  (o.slots.filter (fun x => x.valid && decide (x.goal ≤ o.pos) && lcsOf x.goal == 3)).length

/-- The fused security-version floor: burned steps from the first (16 R542). -/
def Otp.floorN (o : Otp) : Nat := (o.floor.takeWhile (fun c => stepBurn c == .burned)).length

/-- Burns the first `n` of the `w` bits of a field toward `goal`; burned bits stay. -/
def burnField (w n old goal : Nat) : Nat := old ||| (goal % 2 ^ min w n)

/-- Burns the copies of a step: all 16 bits of each in turn, up to `n` bits in all. -/
def burnStep (n : Nat) (cs : List Nat) : List Nat :=
  (cs.zipIdx).map (fun x => burnField 16 (n - 16 * x.2) x.1 0xFFFF)

/-- Burns steps p + 1 to p′ in ascending order, up to `n` bits in all. -/
def burnSteps (p p' n : Nat) (l : List (List Nat)) : List (List Nat) :=
  l.zipIdx.map (fun x => if p ≤ x.2 ∧ x.2 < p' then burnStep (n - 48 * (x.2 - p)) x.1 else x.1)

/-- Bits of the steps from p to p′, and of the whole burn of a request (R528, R530). -/
def stepBits (p p' : Nat) : Nat := 48 * (p' - p)

/-- Burns slot `i` with a digest and a target, digest first, then target, then seal, up to `n` bits. -/
def Otp.burnSlot (o : Otp) (i digest goal n : Nat) : Otp :=
  { o with slots := o.slots.zipIdx.map (fun x =>
      if x.2 = i then
        ⟨burnField 256 n x.1.digest digest, burnField 24 (n - 256) x.1.target (goal * 0x010101),
          burnField 16 (n - 280) x.1.sealed 0xFFFF⟩
      else x.1) }

/-- The fused secret as its bits read: none before TEST, and what erasure has burned (R520, R528). -/
def Otp.fusedSecret (o : Otp) : Nat := (if o.fused then Config.uniqueSecret else 0) ||| o.secret

/-- The secret is erased: every bit of it is burned. -/
def Otp.erased (o : Otp) : Bool := o.secret == 2 ^ 256 - 1

/-- Burns the steps to p′, and for target 16 the fused secret, up to `n` bits (R528 steps 4 and 5). The transition to TEST fuses
the unique secret and the service key's digest (R520, R525). -/
def Otp.burnTo (o : Otp) (p' n : Nat) : Otp :=
  let p := o.pos
  { o with
    steps := burnSteps p p' n o.steps
    fused := o.fused || decide (1 ≤ p' ∧ 48 ≤ n)
    secret := if p' = 16 then burnField 256 (n - stepBits p 16) o.secret (2 ^ 256 - 1) else o.secret }

/-- Burns the thermometer up to `f` steps (16 R542). -/
def Otp.burnFloor (o : Otp) (f : Nat) : Otp := { o with floor := burnSteps 0 f (48 * 64) o.floor }

end Sys2Proof.Machine
end

