-- ==== Sys2Proof/Machine/Tenancy.lean ====
section
/-! DEFINITION. Commands of tenancy: tenants and their tiles, message permits, the commons, the configuration digest,
teardown and its scrub, refused accesses to firmware space (14 R488 to R517). -/

namespace Sys2Proof.Machine

/-! ## Partitions (R488, R489) -/

/-- Tiles of a 48-bit mask. -/
def maskTiles (m : Nat) : List Nat := (List.range 48).filter (fun t => m / 2 ^ t % 2 == 1)
def tilesMask (l : List Nat) : Nat := (l.map (fun t => 2 ^ t)).foldl (· + ·) 0

/-- The life-cycle state that governs tenants: a transition in progress counts as its target state (15 R533). -/
def State.lcsNow (s : State) : Nat := if s.cro.lcDelay then lcsOf s.sec.otp.pos else s.get fLcsState

/-- A valid entry of some context targets the tile's S-space slot or its P-space. -/
def State.tileTargeted (s : State) (t : Nat) : Bool :=
  (List.range 24).any (fun c => (List.range 128).any (fun e => match s.trnEntry c e with
    | none => false
    | some x =>
      let n := x.hi - x.lo
      let meets (a b : Nat) : Bool := decide (x.tgt < b ∧ a < x.tgt + n)
      meets (t * 2 ^ 38) ((t + 1) * 2 ^ 38) || meets (0x100000000000 + t * 2 ^ 29) (0x100000000000 + (t + 1) * 2 ^ 29)))

/-- A valid commons region lies on the stack of tile t. -/
def State.hasRegion (s : State) (t : Nat) : Bool :=
  (List.range 64).any (fun r => s.flag (fRgnValid r) && decide (s.get (fRgnStack r) = t))

/-- Nothing keeps the tile in the partition (R488, remove). -/
def State.tileUnused (s : State) (t : Nat) : Bool :=
  !(s.loadedTasks.any (fun k => (s.tdTiles k).contains t)) && !(s.tileTargeted t) && !(s.hasRegion t)

/-- A tile becomes owned. -/
def State.ownTile (s : State) (u t : Nat) : State := (s.set (fTileOwner t) u).set (fTileState t) 1

/-- A tile leaves its partition: it is scrubbed first; one out of service stays so until the end (R489). Its cached lines
are invalidated, dirty ones discarded (R513 step 6). -/
def State.leaveTile (s : State) (t : Nat) : State :=
  let s := { s with lines := s.lines.filter (fun x => decide (64 * x.1 / 2 ^ 38 ≠ t)) }
  if s.get (fTileState t) = 3 then s else s.set (fTileState t) 2

/-- The reason for which a write of TEN_CFGu is refused; 0: accepted (R488). -/
def State.tenRefusal (s : State) (u : Nat) (w : Word) : Nat :=
  let was := s.flag (fTenValid u)
  let will := bitsOf w 63 63 == 1
  let conf := bitsOf w 62 62
  let old := s.get (fTenTiles u)
  let new := bitsOf w 47 0
  let added := (maskTiles new).filter (fun t => old / 2 ^ t % 2 == 0)
  let removed := (maskTiles old).filter (fun t => new / 2 ^ t % 2 == 0)
  let free (t : Nat) : Bool := s.get (fTileState t) == 0
  if !was ∧ !will then 2
  else if !was then
    if new = 0 then 1
    else if s.get (fTenState u) ≠ 0 ∨ !((maskTiles new).all free)
      ∨ !(if conf = 1 then s.lcsNow == 2 else s.lcsNow == 2 || s.lcsNow == 3) then 2
    else if conf = 1 ∧ (List.range 4).all (fun j => s.rd (tenKey u j) == 0) then 3
    else 0
  else if will then
    if conf ≠ s.get (fTenConf u) ∨ !(added.all free) ∨ !(removed.all s.tileUnused) then 2 else 0
  else if s.loadedTasks.any (fun k => s.tdTenant k == u) ∨ (s.tenTiles u).any s.hasRegion then 2
  else 0

/-- The refusal of a write of TEN_CFGu. -/
def State.tenRefuse (s : State) (u r : Nat) : State := s.refuseWrite (regAddr (tenCfg u)) r

/-- A write of TEN_CFGu that leaves the tenant valid: the tiles change hands in the same write. -/
def State.tenWrite (s : State) (u : Nat) (w : Word) : State :=
  let old := if s.flag (fTenValid u) then s.get (fTenTiles u) else 0
  let new := bitsOf w 47 0
  let s := (s.writeFields (tenCfg u) (2 ^ 64 - 1) w).set (fTenState u) 1
  let removed := (maskTiles old).filter (fun t => new / 2 ^ t % 2 == 0)
  let s := ((maskTiles new).filter (fun t => old / 2 ^ t % 2 == 0)).foldl (fun s t => s.ownTile u t) s
  let s := removed.foldl State.leaveTile s
  if removed = [] then s
  else
    s.modSec (fun x => { x with
      scrubs := x.scrubs ++ [⟨u, false, s.get (fTenConf u), 0, 0, s.get (fTenDgen u), tilesMask removed⟩]
      kept := (removed.filter (fun t => s.get (fTileState t) == 3)).foldl (fun l t => smInsert l t u) x.kept })

/-- TENANT_CREATE: a write of TEN_CFGu while the tenant is not valid. -/
def execTenantCreate (u : Nat) (w : Word) (s : State) : Out :=
  .next (
    if s.inSafe then s else
    if 15 < u ∨ s.flag (fTenValid u) then s
    else
      let s := s.checkReserved 16 (tenCfg u) w
      let r := s.tenRefusal u w
      if r ≠ 0 then s.tenRefuse u r else s.tenWrite u w)

/-- TENANT_ADD_TILES: a write that leaves the tenant valid and takes no tile from it. -/
def execTenantAddTiles (u : Nat) (w : Word) (s : State) : Out :=
  .next (
    if s.inSafe then s else
    if 15 < u ∨ !(s.flag (fTenValid u)) ∨ bitsOf w 63 63 = 0 ∨ !((maskTiles (s.get (fTenTiles u))).all (fun t => bitsOf w t t == 1)) then s
    else
      let s := s.checkReserved 16 (tenCfg u) w
      let r := s.tenRefusal u w
      if r ≠ 0 then s.tenRefuse u r else s.tenWrite u w)

/-- TENANT_REMOVE_TILES: a write that leaves the tenant valid and takes tiles from it. -/
def execTenantRemoveTiles (u : Nat) (w : Word) (s : State) : Out :=
  .next (
    if s.inSafe then s else
    if 15 < u ∨ !(s.flag (fTenValid u)) ∨ bitsOf w 63 63 = 0 ∨ (maskTiles (s.get (fTenTiles u))).all (fun t => bitsOf w t t == 1) then s
    else
      let s := s.checkReserved 16 (tenCfg u) w
      let r := s.tenRefusal u w
      if r ≠ 0 then s.tenRefuse u r else s.tenWrite u w)

/-! ## Teardown (R513) -/

/-- Functions bound to a tenant. -/
def State.functionsOf (s : State) (u : Nat) : List (Nat × Nat) :=
  ((List.range 4).flatMap (fun q => (List.range 17).map (fun f => (q, f)))).filter (fun x => s.boundTo x.1 x.2 == some u)

/-- Stream-context records and sequence slots of a tenant (07 R242; 10 R349). -/
def State.recordsOf (s : State) (u : Nat) : List Nat :=
  (List.range 10240).filter (fun n =>
    let b := (s.byte (recKey n + 2)).toNat
    b % 2 == 1 && b / 16 == u)
def State.slotsOf (s : State) (u : Nat) : List Nat :=
  (List.range 64).filter (fun n => s.flag (fSlotValid n) && decide (s.get (fSlotTenant n) = u))

/-- Registers from `a` up to `b` return to their reset values. -/
def State.clearRegs (s : State) (a b : Nat) : State :=
  { s with regs := s.regs.filter (fun x => !(decide (a ≤ x.1 ∧ x.1 < b))) }

/-- Empties event queue u and fault queue u; their numbers begin again at 1 (R513 step 5; 11 R397; 09 R322). -/
def State.emptyQueues (s : State) (u : Nat) : State :=
  let s := ((s.clearRegs (evqW u 0) (evqW u 0 + 0x8000)).clearRegs (evqBlk u) (evqBlk u + 0x20)).clearRegs (fltRec u 0 0) (fltRec u 0 0 + 0x4000)
  let s := (s.clearRegs (fltBlk u) (fltBlk u + 0x10)).ringFlags u
  let s := { s with
    evSeq := smErase (smErase s.evSeq (2 * u)) (2 * u + 1), faultSeq := smErase s.faultSeq u
    faultWait := s.faultWait.filter (fun x => x.queue != u) }
  s.faultFull u

/-- Steps 2 to 6 of R513. -/
def State.teardown (s : State) (u : Nat) : State :=
  let s := (s.sec.sessions.filter (fun x => x.bound == some u)).foldl (fun s x => s.endSession x.id 1) s
  let s := s.clearRegs (sealA u 0) (sealA u 0 + 0x80)
  let s := { s with sealKeys := s.sealKeys.filter (fun x => x.1 / 8 != u) }
  let s := s.modSec (fun x => { x with opener := x.opener.filter (fun y => y.1 / 8 != u) })
  let s := (s.functionsOf u).foldl (fun s x => ((s.resetQueues x.1 x.2).clearVectors x.1 x.2).wr (htBind x.1 x.2) 0) s
  let s := (s.clearRegs (trnE u 0 0) (trnE u 0 0 + 0x1000)).clearRegs (tenPerm u 0) (tenPerm u 0 + 0x100)
  let s := (List.range 8).foldl (fun s k => s.wr (osGrant k u) 0) s
  let s := (List.range 128).foldl (fun s g => if s.flag (fSlgValid g) ∧ s.get (fSlgTenant g) = u then s.wr (slg g) 0 else s) s
  let s := (List.range 64).foldl (fun s n => (List.range 4).foldl (fun s j =>
    if s.flag (fLupTown n j) ∧ s.get (fLupOwner n j) = u then (s.set ⟨lupCtl n j, 1, 0⟩ 0).set (fLupTown n j) 0 else s) s) s
  let s := s.wr (grdFloor u) (regReset (grdFloor u))
  let rs := s.recordsOf u
  let ss := s.slotsOf u
  let s := ss.foldl (fun s n => s.clearRegs (seqSlot n 0) (seqSlot n 0 + 0x20)) s
  let s := { s with mem := s.mem.filter (fun x => !(decide (recKey 0 ≤ x.1) && rs.contains ((x.1 - recKey 0) / 1024))) }
  let s := s.emptyQueues u
  s.modSec (fun x => { x with
    reports := smErase x.reports u
    scrubs := x.scrubs ++ [⟨u, true, s.get (fTenConf u), rs.length, ss.length, s.get (fTenDgen u), s.get (fTenTiles u)⟩] })

/-- A teardown write: it is refused, or it starts the sequence of R513. -/
def State.tearWrite (s : State) (u : Nat) (w : Word) : State :=
  let s := s.checkReserved 16 (tenCfg u) w
  let r := s.tenRefusal u w
  if r ≠ 0 then s.tenRefuse u r
  else
    let tiles := s.tenTiles u
    let t := (s.teardown u).raiseX 16 0x72 [(u, 24)] (packW [(tilesMask tiles, 0)])
    let t := (t.writeFields (tenCfg u) (2 ^ 64 - 1) w).set (fTenState u) 2
    tiles.foldl State.leaveTile t

/-- A teardown write during a partition reset of the tenant waits for the reset to end (R516). -/
def State.tearLater (s : State) (u : Nat) (w : Word) : State :=
  if s.sec.tearWait.any (fun x => x.1 == u) then s else s.modSec (fun x => { x with tearWait := x.tearWait ++ [(u, w)] })

/-- The teardown write that waits for tenant u is carried out. -/
def State.tearResume (s : State) (u : Nat) : State :=
  match smLookup s.sec.tearWait u with
  | none => s
  | some w =>
    let s := s.modSec (fun x => { x with tearWait := x.tearWait.filter (fun y => y.1 != u) })
    if s.flag (fTenValid u) then s.tearWrite u w else s

/-- TENANT_TEARDOWN: a write of valid := 0. -/
def execTenantTeardown (u : Nat) (w : Word) (s : State) : Out :=
  .next (
    if s.inSafe then s else
    if 15 < u ∨ !(s.flag (fTenValid u)) ∨ bitsOf w 63 63 = 1 then s
    else if s.fencedTen.contains u then s.tearLater u w
    else s.tearWrite u w)

/-! ## Scrub (R513 steps 7 to 9, R514, R515) -/

/-- What task k's switch slot keeps of core c's scratchpad is gone: the core that stands in holds zeros (10 R356). -/
def State.dropPart (s : State) (k c : Nat) : State :=
  let r := ((s.group k).filter (fun x => decide (x < c))).length
  s.modTask k (fun t => { t with sw := t.sw.modify r (fun p => { p with spad := [] }) })

/-- A core is cleared: scratchpad and counters, and its reset state loaded (02 R45 step 4). -/
def State.clearCore (s : State) (c : Nat) : State :=
  let k := s.core c
  let s := match k.task with
    | some j => s.dropPart j c
    | none => s
  let fresh := { coreReset (s.cycles (tileDom (coreTile c))) with
    fenced := k.fenced, scrub := k.scrub }
  (s.setCore c fresh).loadSpad c []

/-- Logical cores of a tile. -/
def tileCores (t : Nat) : List Nat := (List.range 80).flatMap (fun y => (List.range 80).map (fun x => coreAddr t x y))

/-- Clears every core of a tile. -/
def State.clearTile (s : State) (t : Nat) : State :=
  let out (a : Nat) : Bool := decide (a < 0x100000000000 + t * 2 ^ 29 ∨ 0x100000000000 + (t + 1) * 2 ^ 29 ≤ a)
  let s := { s with mem := s.mem.filter (fun x => out x.1), badWords := s.badWords.filter (fun x => out x.1) }
  let touched := if s.cycles (tileDom t) = 0 then (tileCores t).filter (fun c => (smLookup s.cores c).isSome) else tileCores t
  touched.foldl State.clearCore s

/-- Whole zero bursts over a stack; a unit whose lost contents were being filled with poison is rewritten whole. -/
def State.zeroStack (s : State) (t : Nat) : State :=
  let out (a : Nat) : Bool := decide (a < t * 2 ^ 38 ∨ (t + 1) * 2 ^ 38 ≤ a)
  let s := { s with
    mem := s.mem.filter (fun x => out x.1), badBursts := s.badBursts.filter (fun x => out (256 * x.1))
    lines := s.lines.filter (fun x => out (64 * x.1)) }
  s.modStack t (fun k => { k with repair := k.repair.map (fun r => { r with dead := false, poisoned := [], wrote := [] }) })

/-- Physical channels of a stack in some state. -/
def State.chCount (s : State) (t : Nat) (p : Nat → Bool) : Nat := ((List.range 136).filter (fun c => p (s.get (fChState t c)))).length

/-- Bursts that the scrub of a stack writes: every row of every channel in service, copy source or target, and the spare layer's
part while a layer repair fills it (R513, R515). -/
def State.scrubBursts (s : State) (t : Nat) : Nat :=
  (s.chBursts + (if (s.layerRepairing t).isSome then s.chBursts / 16 else 0)) * s.chCount t (fun c => decide (1 ≤ c ∧ c ≤ 3))

/-- The bytes of a number, highest first. -/
def bytesBE (n v : Nat) : List Byte := (bytesLE n v).reverse

/-- Words of a byte sequence, little-endian. -/
def tenWords (n : Nat) (bs : List Byte) : List Word := (List.range n).map (fun i => BitVec.ofNat 64 (natLE ((bs.drop (8 * i)).take 8)))

/-! ### The keys (R498, R501) -/

/-- Measurement blocks 1 to 3: the boot ROM, the firmware image, its security version. -/
def State.codeBlock (s : State) (i : Nat) : List Byte :=
  let dig := match s.cro.image with
    | some x => x.digest
    | none => 0
  if i = 1 then bytesLE 32 Config.romDigest
  else if i = 2 then bytesLE 32 dig
  else bytesLE 4 (s.get fImgSvn) ++ Config.versionString dig

/-- The device identity key, and the alias key, which changes with the image or its security version. -/
def State.identityPrivate (s : State) : Nat := Config.identityKey s.sec.otp.fusedSecret
def State.aliasPrivate (s : State) : Nat :=
  Config.aliasKey s.identityPrivate ([1, 2, 3].flatMap (fun i => bytesLE 32 (Config.sm3 (s.codeBlock i))))

/-- A signature with the alias key: 64 bytes, r and s big-endian. -/
def State.signed (s : State) (bs : List Byte) : List Byte := bytesBE 64 (Config.sm2Sign s.aliasPrivate bs)

/-- The oldest scrub under way of tenant u. -/
def State.scrubOf (s : State) (u : Nat) : Option Scrub := s.sec.scrubs.find? (fun x => x.tenant == u)

/-- TEARDOWN_SCRUB_DONE of tenant u: the oldest scrub under way ends, its tiles are free, the report is signed (R515). -/
def execTeardownScrubDone (u : Nat) (s : State) : Out :=
  .next (if s.inSafe then s else match s.scrubOf u with
    | none => s
    | some r =>
      let mine := maskTiles r.tiles
      let scrub := mine.filter (fun t => s.get (fTileState t) == 2)
      -- a tile out of service keeps its owner until the tenant is torn down (R489)
      let kept := if r.torn then (s.sec.kept.filter (fun x => x.2 == u)).map Prod.fst else []
      let oos := (mine ++ kept.filter (fun t => !(mine.contains t))).filter (fun t => s.get (fTileState t) == 3)
      let freed := if r.torn then scrub ++ oos else scrub
      let gone := ((scrub.map (fun t => s.get (fTileAbsent t)))).foldl (· + ·) 0
      let sum (f : Nat → Nat) : Nat := (scrub.map f).foldl (· + ·) 0
      let ws : List Word := [packW [(1, 0), (0x10, 8), (if r.torn then 0x20 else 0x21, 16), (u, 24), (r.conf, 28)],
        s.ident.getD 1 0, packW [(tilesMask freed, 0)], packW [(s.tick32, 0), (r.dgen, 32)],
        packW [(sum s.scrubBursts % 2 ^ 48, 0)], packW [(6400 * scrub.length - gone, 0), (r.records, 32), (r.slots, 48)],
        packW [(sum (fun t => s.chCount t (fun c => c == 4)) % 512, 0), (sum (fun t => if s.get (fStkSpareFor t) = 0x1F then 0 else 1) % 128, 9),
          (oos.length, 16), (gone, 22)], 0]
      let report := ws ++ tenWords 8 (s.signed (ws.flatMap (fun w => bytesLE 8 w.toNat)))
      let s := scrub.foldl (fun s t => (s.clearTile t).zeroStack t) s
      let s := freed.foldl (fun s t => s.wr (tenTile t) 0) s
      let s := if r.torn then s.set (fTenState u) 0 else s
      let s := s.modSec (fun x => { x with
        scrubs := x.scrubs.erase r, reports := smInsert x.reports u report
        kept := x.kept.filter (fun y => !(freed.contains y.1)) })
      s.raiseX 16 0x73 [(u, 24)] (packW [(tilesMask freed, 0)]))

/-! ## Permits (R492) -/

/-- TEN_PERM_WRITE of entry i. -/
def execTenPermWrite (u i : Nat) (w : Word) (s : State) : Out :=
  .next (
    if s.inSafe then s else
    if 15 < u ∨ 31 < i then s
    else
      let s := s.checkReserved 16 (tenPerm u i) w
      let lo := bitsOf w 15 0
      let hi := bitsOf w 47 32
      if bitsOf w 63 63 = 1 ∧ (hi < lo ∨ lo = 0 ∨ hi = 0 ∨ lo = 0xFFFF ∨ hi = 0xFFFF) then s.refuseWrite (regAddr (tenPerm u i)) 1
      else s.writeFields (tenPerm u i) (2 ^ 64 - 1) w)

/-! ## The commons (R493 to R496) -/

/-- Valid entries of any context whose target meets the bytes from a to b: context, entry, what it holds. -/
def State.targeting (s : State) (a b : Nat) : List (Nat × Nat × TrnEntry) :=
  (List.range 24).flatMap (fun c => (List.range 128).filterMap (fun e => match s.trnEntry c e with
    | none => none
    | some x => if x.tgt < b ∧ a < x.tgt + (x.hi - x.lo) then some (c, e, x) else none))

/-- Device addresses of a region's granules. -/
def rgnLo (w : Word) : Nat := bitsOf w 61 56 * 2 ^ 38 + bitsOf w 55 38 * 2 ^ 20
def rgnHi (w : Word) : Nat := rgnLo w + bitsOf w 37 20 * 2 ^ 20

/-- The reason for which a write that leaves the region valid is refused with an event; 0: none (R493). -/
def State.rgnRefusal (s : State) (r : Nat) (w : Word) : Nat :=
  let t := bitsOf w 61 56
  let a := bitsOf w 55 38
  let n := bitsOf w 37 20
  let old := s.rd (comRgn r)
  if 47 < t ∨ n = 0 ∨ s.granules < a + n then 1
  else if (List.range 64).any (fun i => i != r && s.flag (fRgnValid i) && decide (s.get (fRgnStack i) = t
      ∧ a < s.get (fRgnFirst i) + s.get (fRgnNg i) ∧ s.get (fRgnFirst i) < a + n)) then 3
  else if (s.tileOwner t).isNone then 2
  else if bitsOf old 63 63 = 1 ∧ bitsOf old 61 20 ≠ bitsOf w 61 20 then 2
  else 0

/-- Entries of the contexts carry the commons mark while their region is sealed (R495). -/
def State.markCommons (s : State) (lo hi : Nat) (b : Bool) : State :=
  (s.targeting lo hi).foldl (fun s x => if x.1 < 16 then s.setB (fTrnCommons x.1 x.2.1) b else s) s

/-- COM_RGN_WRITE: the region is defined, sealed, unsealed or removed. -/
def execComRgnWrite (r : Nat) (w : Word) (s : State) : Out :=
  .next (
    if s.inSafe then s else
    if 63 < r then s
    else
      let s := s.checkReserved 16 (comRgn r) w
      let was := s.flag (fRgnValid r) && s.flag (fRgnSealed r)
      let will := bitsOf w 63 63 == 1
      let seals := bitsOf w 62 62 == 1
      let old := s.rd (comRgn r)
      let owner := s.tileOwner (s.get (fRgnStack r))
      if !will then (if was then s else s.writeFields (comRgn r) (2 ^ 64 - 1) w)
      else
        let c := s.rgnRefusal r w
        if c ≠ 0 then s.refuseWrite (regAddr (comRgn r)) c
        else if seals ∧ !was then
          if (s.targeting (rgnLo w) (rgnHi w)).any (fun x => x.2.2.w || x.2.2.a) then s
          else (s.writeFields (comRgn r) (2 ^ 64 - 1) w).markCommons (rgnLo w) (rgnHi w) true
        else if !seals ∧ was then
          if (s.targeting (rgnLo old) (rgnHi old)).any (fun x => some x.1 != owner) then s
          else (s.writeFields (comRgn r) (2 ^ 64 - 1) w).markCommons (rgnLo old) (rgnHi old) false
        else s.writeFields (comRgn r) (2 ^ 64 - 1) w)

/-- COM_RLD_WRITE: one granule of a stack is under reload at a time, so that the region's own reload cannot move to another
granule either (R496). -/
def execComRldWrite (r : Nat) (w : Word) (s : State) : Out :=
  .next (
    if s.inSafe then s else
    if 63 < r then s
    else
      let s := s.checkReserved 16 (comRld r) w
      let g := bitsOf w 17 0
      let base (g : Nat) : Nat := s.get (fRgnStack r) * 2 ^ 38 + g * 2 ^ 20
      if bitsOf w 63 63 = 1 then
        if !(s.flag (fRgnValid r)) ∨ g < s.get (fRgnFirst r) ∨ s.get (fRgnFirst r) + s.get (fRgnNg r) ≤ g
            ∨ (List.range 64).any (fun i => (i != r || s.get (fRldGranule r) != g) && s.flag (fRldActive i) && s.flag (fRgnValid i)
                && decide (s.get (fRgnStack i) = s.get (fRgnStack r))) then s
        else s.writeFields (comRld r) (2 ^ 64 - 1) w
      else if s.flag (fRldActive r) ∧ (s.targeting (base (s.get (fRldGranule r))) (base (s.get (fRldGranule r) + 1))).any
          (fun x => x.2.2.w) then s
      else s.writeFields (comRld r) (2 ^ 64 - 1) w)

/-! ## The configuration digest (R510) -/

/-- An item of the digest: offset and value. -/
def State.digItem (s : State) (off : Nat) : List Byte := bytesLE 4 off ++ bytesLE 8 (s.rd off).toNat

/-- The registers whose values the digest covers, in order. -/
def State.digRegs (s : State) (u : Nat) : List Nat :=
  [tenCfg u] ++ (List.range 4).map (tenKey u)
    ++ ((List.range 128).filter (fun e => s.flag (fTrnValid u e))).flatMap (fun e => [trnE u e 0, trnE u e 1, trnE u e 2])
    ++ ((List.range 32).filter (fun i => s.flag (fPermValid u i))).map (tenPerm u)
    ++ (List.range 8).map (fun k => osGrant k u)
    ++ (s.functionsOf u).map (fun x => htBind x.1 x.2)
    ++ ((List.range 64).filter (fun r => s.flag (fRgnValid r)
        && (s.get (fRgnMap r) / 2 ^ u % 2 == 1 || s.tileOwner (s.get (fRgnStack r)) == some u))).map comRgn
    ++ [grdFloor u]
    ++ ((List.range 128).filter (fun g => s.flag (fSlgValid g) && s.get (fSlgTenant g) == u)).map slg
    ++ ((List.range 8).filter (fun i => s.flag (fSealValid u i))).flatMap (fun i => [sealA u i, sealB u i])
    ++ (s.loadedTasks.filter (fun k => s.tdTenant k == u)).flatMap (fun k => (List.range 16).map (fun w => tsqTd k w))

/-- CONFIG_DIGEST_UPDATE: firmware forms the digest after a change. -/
def execConfigDigestUpdate (u : Nat) (s : State) : Out :=
  .next (
    if 15 < u ∨ !(s.flag (fTenValid u)) ∨ !s.cro.running then s
    else
      let d := Config.sm3 ((s.digRegs u).flatMap s.digItem)
      let s := (List.range 4).foldl (fun s j => s.wr (tenDig u j) (BitVec.ofNat 64 (d / 2 ^ (64 * j)))) s
      let n := (s.get (fTenDgen u) + 1) % 2 ^ 32
      (s.set (fTenDgen u) n).raiseTenancy u 0x70 (packW [(n, 0)]))

/-! ## Firmware space (R509) -/

/-- FIRMWARE_SPACE_REFUSED: another agent's access from `site`. -/
def execFirmwareSpaceRefused (site addr : Nat) (write : Bool) (s : State) : Out :=
  .next (
    if addr < 0x200000000000 ∨ 0x200100000000 ≤ addr then s
    else (s.raiseX 16 0x09 [] (packW [(addr, 0), (site % 64, 48), (if write then 1 else 0, 56)])).emit "address-error" [addr] [])

end Sys2Proof.Machine
end

