-- ==== Sys2Proof/Machine/Larkspur.lean ====
section
/-! DEFINITION. What the spare-repair manager, the regulators and the clock domains have in common: events of 17 R590 and 18
R621, absent cores and tiles out of service, the remap of a core, regulator phases, bond widths, and the clock of a domain
(02 R42 to R47, R74 to R77; 17 R566, R567; 18 R600 to R606). -/

namespace Sys2Proof.Machine

/-! ## Events -/

/-- A reliability event in queue `u` (17 R590). -/
def State.raiseRelTo (s : State) (u type flag unit good : Nat) (detail : Word) : State :=
  let who := if u < 16 then [(u, 24)] else [(1, 28)]
  s.raise u [packW ([(1, 0), (3, 8), (type, 16), (flag, 29), (unit % 2 ^ 32, 32)] ++ who),
    packW [(s.tick32, 0), (good % 2 ^ 32, 32)], detail]

/-- To the tenants named and to firmware. -/
def State.raiseRel (s : State) (us : List Nat) (type flag unit good : Nat) (detail : Word) : State :=
  us.foldl (fun s u => s.raiseRelTo u type flag unit good detail) (s.raiseRelTo 16 type flag unit good detail)

/-- The tenant that owns a compute site, or every tenant with a grant on an open site. -/
def State.siteTenants (s : State) (n : Nat) : List Nat :=
  if n % 16 ≤ 11 then (s.tileOwner (siteTile n)).toList
  else if n % 16 ≤ 13 then (List.range 16).filter (fun u => s.flag (fGrantEn (2 * (n / 16) + (n % 16 - 12)) u))
  else []

/-- A clock, power or heat event (18 R621): to firmware, and to the tenant that owns the site named. Site 0x3F: none. -/
def State.heatEvent (s : State) (type dom site n val kind : Nat) : State :=
  let x := [(dom, 32), (site, 37), (n % 32, 43)]
  let d := packW [(val % 2 ^ 16, 0), (kind, 16)]
  let us := if site < 64 ∧ site % 16 ≤ 11 then (s.tileOwner (siteTile site)).toList else []
  us.foldl (fun s u => s.raiseX u type x d) (s.raiseX 16 type x d)

/-! ## Clock domains (18 R595, R600, R602) -/

def isComp (m : Nat) : Bool := decide (5 ≤ m ∧ m ≤ 16)

/-- n_eff: the least of n_set and the loops' limits (R602). -/
def State.nEff (s : State) (m : Nat) : Nat :=
  let c := s.clk m
  min (min (s.get (fClkNset m)) (min c.therm (min c.cap c.pkg))) c.volt

/-- The floor of a compute domain (R602). -/
def State.nFloor (s : State) (m : Nat) : Nat := (s.get (fClkNset m) * (100 - s.get fTsqMargin) + 99) / 100

/-- CLK_DOMm shows the frequency in force, the floor and the limits; a fall of the frequency below the floor is a fall of
capacity, and so is the loss of the PLL, whatever the frequency was (R599, R602; 10 R364). -/
def State.showClk (s : State) (m : Nat) : State :=
  if !(isComp m) then s
  else
    let c := s.clk m
    let set := s.get (fClkNset m)
    let bit (b : Bool) (k : Nat) : Nat := if b then 2 ^ k else 0
    let lim := bit (decide (c.therm < set)) 0 + bit (decide (c.cap < set)) 1 + bit (decide (c.volt < set)) 2
      + bit (decide (c.pkg < set)) 3
    let old := s.get (fClkNcur m)
    let new := if s.flag (fClkSrc m) then 0 else c.n
    let f := s.nFloor m
    let s := ((s.set (fClkNcur m) new).set (fClkNfloor m) f).set (fClkLim m) lim
    if new < f ∧ (f ≤ old ∨ (new = 0 ∧ old ≠ 0)) then s.capacityFell (.dom m) else s

/-- What keeps the clock of domain m stopped: a trip, a bridge voltage, for a compute domain the safe state (R608, R613,
R620; 16 R551), for every domain but CD0 the CD0 hold, which no firmware or host action overrides (01 R23). -/
def State.clkHeld (s : State) (m : Nat) : Bool :=
  (s.clk m).trip || (s.clk m).vstop || (isComp m && s.inSafe) || (decide (s.get fBootMode = 2) && m != 0)

/-- A stopped domain has a clock to restart on: its locked PLL, or the crystal in bypass (R598). -/
def State.clkSource (s : State) (m : Nat) : Bool := (s.clk m).on && ((s.clk m).locked || s.flag (fClkSrc m))

/-- A domain runs from its locked PLL once nothing holds its clock; a compute domain begins at n = 8. -/
def State.runDomain (s : State) (m : Nat) : State :=
  let s := ((s.modClk m (fun c => { c with on := true, locked := true, relock := false, drain := false, n := 8 })).setB
    (fClkRun m) (!(s.clkHeld m))).set (fClkSrc m) 0
  s.showClk m

/-! ## Absent cores and tiles (02 R74 to R77; 13 R475) -/

/-- The absence event, and the notification of the tenant's host. -/
def State.tellAbsent (s : State) (u : Option Nat) (detail : Word) : State :=
  let s := s.raiseBoth u 0x03 [] detail
  match u with
  | none => s
  | some u => match s.bindingOf u with
    | none => s
    | some (q, f) => (s.set (fFstAbsent q f) 1).statusVector q f

/-- Tasks that hold a core of the tile in their group. -/
def State.tileTasks (s : State) (t : Nat) : List Nat := s.loadedTasks.filter (fun k => (s.tdTiles k).contains t)

/-- The task is stopped and runs again from committed state (10 R348). -/
def State.stopForRepair (s : State) (k : Nat) : State :=
  if s.tstate k = tsIdle ∨ s.tstate k = tsCommitted ∨ s.tstate k = tsAborted then s.discardStop k else s.abortTask k 2

/-- The cores of a tile are gone with what they held. -/
def State.dropTile (s : State) (t : Nat) : State :=
  ((s.cores.map Prod.fst).filter (fun c => coreTile c == t)).foldl (fun s c => s.modCore c (fun k => { coreReset k.cyc0 with
    mode := .idle })) s

/-- A whole tile goes out of service, with its stack (01 R27, R28; R77). DESIGN CHOICE (log 78): the bits of TILE_ABSLO and
TILE_ABSHI stay as they are; absent_cnt shows the whole tile. -/
def State.tileOut (s : State) (t : Nat) : State :=
  if s.get (fSiteState (tileSite t)) = 5 then s
  else
    let u := s.tileOwner t
    let s := ((s.tileTasks t).foldl State.stopForRepair s).dropTile t
    -- a tile that is being scrubbed keeps the owner that it is leaving (14 R489)
    let left := s.get (fTileOwner t)
    let s := if s.get (fTileState t) = 2 then { s with sec := { s.sec with kept := smInsert s.sec.kept t left } } else s
    let s := (s.set (fSiteState (tileSite t)) 5).set (fTileState t) 3
    let s := ((s.stackEnds t).set (fTileAbsent t) 6400).set (fStkState t) 5
    let s := (s.setDerate t).logNow 0x04 0x01 (t * 2 ^ 14) (2 ^ 32)
    s.tellAbsent u (packW [(t * 2 ^ 14, 0), (1, 32)])

/-- A host or peer tile is isolated (16 R547; 18 R606, R613). -/
def State.portOut (s : State) (n : Nat) : State :=
  if 63 < n ∨ n % 16 < 14 then s
  else
  let q := n / 16
  let s := s.set (fSiteState n) 4
  if n % 16 = 14 ∧ s.get (fPortState q) = 1 then s.freezePort q 0 0 0 else s

/-! ## The remap of a core (02 R42, R45, R47) -/

/-- The row spare takes the core over, or, where it is used up, the core becomes absent: the maps, and whether it is
absent (R42). -/
def State.substitute (s : State) (c : Nat) : State × Bool :=
  let t := coreTile c
  let y := coreY c
  let x := coreX c
  let b := x / 20
  if s.absent c then (s, true)
  else if s.flag (fRemapUsed t y b) ∨ s.cro.badSpares.contains (physCore t y (spareCol b)) then ((s.set (fAbsent t x y) 1).set (fTileAbsent t) (s.get (fTileAbsent t) + 1), true)
  else (((s.set (fRemapUsed t y b) 1).set (fRemapJ t y b) (x % 20)).set (fTileSpares t) (s.get (fTileSpares t) - 1), false)

/-- The logical core that a physical one serves. -/
def State.logicalOf (s : State) (p : Nat) : Option Nat :=
  let t := p / 8192
  let y := p % 8192 / 84
  let col := p % 8192 % 84
  let b := col / 21
  let used := s.flag (fRemapUsed t y b)
  let j := s.get (fRemapJ t y b)
  let x := if col % 21 = 20 then 20 * b + j else 20 * b + col % 21
  let serves := if col % 21 = 20 then used else !(used && j == col % 21)
  if serves ∧ !(s.absent (coreAddr t x y)) then some (coreAddr t x y) else none

/-- A free row spare that has not failed. -/
def State.freeRowSpare (s : State) (p : Nat) : Bool :=
  let t := p / 8192
  p % 8192 % 84 % 21 == 20 && !(s.flag (fRemapUsed t (p % 8192 / 84) (p % 8192 % 84 / 21)))
    && !(s.cro.badSpares.contains p) && s.get (fSiteState (tileSite t)) != 5

/-- A free spare core fails: its row has no substitute any more (R42). -/
def State.spareBad (s : State) (p : Nat) : State :=
  if s.cro.badSpares.contains p then s
  else
    let t := p / 8192
    (s.set (fTileSpares t) (s.get (fTileSpares t) - 1)).modCro (fun c => { c with badSpares := c.badSpares ++ [p] })

/-- A log unit for a core: address, part, physical column (17 R569). -/
def coreUnit (c part col : Nat) : Nat := c + part * 2 ^ 20 + col * 2 ^ 23

/-- The address that names a physical core in a log unit: the logical core served, or the band's first of the row. -/
def State.namedCore (s : State) (p : Nat) : Nat :=
  match s.logicalOf p with
  | some c => c
  | none => coreAddr (p / 8192) (20 * (p % 8192 % 84 / 21)) (p % 8192 / 84)

/-! ## Regulators (17 R566; 18 R606) -/

/-- What follows from `w` working phases of `p`, once the spares are spent. -/
def State.phaseOutcome (s : State) (r : Nat) : State :=
  let p := s.get (fRegP r)
  let w := s.get (fRegW r)
  let n := r / 4
  if p ≤ w then s
  else if 256 ≤ r then s.safeState 0x0A
  else if n % 16 ≤ 11 then
    if 2 * w < p then s.tileOut (siteTile n)
    else (s.set (fSitePwrCap n) (min (s.get (fSitePwrCap n)) (classBudget n * w / p))).settleRegs
  else if n % 16 ≤ 13 then
    let k := 2 * (n / 16) + (n % 16 - 12)
    if 2 * w < p then (if s.get (fOsLstate k) = 0 ∧ s.openCarries k then s.isolateBlank k 5 else s.isolate k 5)
    else (s.set (fSitePwrCap n) (min (s.get (fSitePwrCap n)) (s.get (fOsPwrDecl k) * w / p))).settleRegs
  else if 2 * w < p then s.portOut n
  else s

/-- Site of a regulator, 0x3F for VH; clock domain of its rail's load. -/
def regSite (r : Nat) : Nat := if 256 ≤ r then 0x3F else r / 4
def regDom (r : Nat) : Nat :=
  let n := r / 4
  if 256 ≤ r then 1 + (r - 256)
  else if n % 16 ≤ 11 then (if r % 4 = 0 then tileDom (siteTile n) else 17 + n / 16)
  else if n % 16 ≤ 13 then 21 else if n % 16 = 14 then 22 else 23

/-- One phase of regulator r has failed: a spare takes its share, or a working phase is lost. -/
def State.phaseFault (s : State) (r : Nat) : State :=
  if s.get (fRegP r) = 0 then s
  else if s.get (fRegS r) ≠ 0 then
    ((s.set (fRegS r) (s.get (fRegS r) - 1)).raiseRel [] 0x93 0 r 0 0).logLater 0x01 0x08 r 0
  else if s.get (fRegW r) = 0 then s
  else
    let w := s.get (fRegW r) - 1
    let m := regDom r
    let s := ((s.set (fRegW r) w).heatEvent 0xA4 m (regSite r) (s.clk m).n w 7).logLater 0x03 0x08 r w
    s.phaseOutcome r

/-- A site whose bond is out of service (01 R27). -/
def State.siteOut (s : State) (n : Nat) : State :=
  if n % 16 ≤ 11 then s.tileOut (siteTile n)
  else if n % 16 ≤ 13 then
    let k := 2 * (n / 16) + (n % 16 - 12)
    -- a site whose link is not in use has nothing to isolate; its state shows it all the same (01 R27)
    if s.get (fOsLstate k) = 0 then s.isolateBlank k 1 else (s.isolate k 1).set (fSiteState n) 4
  else s.portOut n

end Sys2Proof.Machine
end

