-- ==== Sys2Proof/Machine/Security.lean ====
section
/-! DEFINITION. Commands of the security engine: SPDM messages and measurements, bound sessions and sealed windows, and
life-cycle transitions (14 R499 to R508, R515; 15 R519 to R532). -/

namespace Sys2Proof.Machine

/-- The security engine has power. -/
def State.secOn (s : State) : Bool := s.cro.aux && s.cro.pwrgd

/-- The security engine has stopped, since its PLL lost lock: it refuses SPDM requests (18 R599). -/
def State.secStopped (s : State) : Bool := (s.clk 24).on && !((s.clk 24).locked)

/-- A response of the security engine on a session or, with 0, outside one. -/
def State.answer (s : State) (kind : String) (sid : Nat) (args : List Nat) (data : List Byte) : State := s.emit kind (sid :: args) data

def State.session (s : State) (sid : Nat) : Option Session := s.sec.sessions.find? (fun x => x.id == sid)

def State.modSession (s : State) (sid : Nat) (f : Session → Session) : State :=
  s.modSec (fun x => { x with sessions := x.sessions.map (fun y => if y.id = sid then f y else y) })

/-- The alias key exists, so SPDM signatures can be made (15 R520). -/
def State.aliasKey (s : State) : Bool := s.get fLcsState == 2 || s.get fLcsState == 3

/-! ## SPDM (R499 to R502) -/

/-- The transport of a session carries messages: a DOE mailbox with its port up, or MCTP. -/
def State.portCarries (s : State) (port : Nat) : Bool := decide (port = 4) || (decide (port < 4) && s.portUp port)

/-- Room for one more session on a transport (R499). -/
def State.sessionRoom (s : State) (port : Nat) : Bool :=
  decide ((s.sec.sessions.filter (fun x => x.port == port)).length < (if port = 4 then 8 else 4) ∧ s.sec.sessions.length < 24)

/-- What the responder answers to an SPDM request of a code that R499 settles, as numbers and data. PRESUMED (log 101): the
request codes, capability bits and algorithm bits are SPDM 1.3's. GET_VERSION: 1.3 alone. GET_CAPABILITIES: CERT, CHAL, MEAS
with signature, ENCRYPT, MAC, MUT_AUTH, KEY_EX, HBEAT, KEY_UPD, CHUNK. NEGOTIATE_ALGORITHMS: SM2, SM3-256 twice, SM2 key
exchange, SM4-GCM. GET_DIGESTS and GET_CERTIFICATE: slot 0 alone. -/
def State.spdmAnswer (s : State) (code slot : Nat) : Option (List Nat × List Byte) :=
  let chain := Config.certificates s.identityPrivate s.aliasPrivate
  if code = 0x84 then some ([0x13], [])
  else if code = 0xE1 then some ([2 ^ 1 + 2 ^ 2 + 2 ^ 4 + 2 ^ 6 + 2 ^ 7 + 2 ^ 8 + 2 ^ 9 + 2 ^ 13 + 2 ^ 14 + 2 ^ 17], [])
  else if code = 0xE3 then some ([2 ^ 9, 2 ^ 6, 2 ^ 7, 2 ^ 6, 2 ^ 3], [])
  else if code = 0x81 then some ([1], bytesLE 32 (Config.sm3 chain))
  else if code = 0x82 ∧ slot = 0 then some ([0], chain)
  else none

/-- SPDM_MESSAGE on transport `port` (0 to 3 DOE of host tile, 4 MCTP). `kind` is what the message brings about under
SPDM 1.3: 0 it is a supported request that is answered, 1 KEY_EXCHANGE and FINISH that establish session `sid`, 2 mutual
authentication of session `sid` with the leaf key's digest `key`; from 0x80 on it is the request's code, with the slot asked
for in `key`; any other value is a request that the device does not support. -/
def execSpdmMessage (port kind sid key : Nat) (s : State) : Out :=
  .next (
    if !s.secOn ∨ !(s.portCarries port) then s
    else if s.secStopped then s.answer "spdm-error" sid [port] []
    else if kind = 0 then s.answer "spdm-response" sid [port] []
    else if kind = 1 then
      if !s.aliasKey ∨ sid = 0 ∨ (s.session sid).isSome ∨ !(s.sessionRoom port) then s.answer "spdm-error" sid [port] []
      else
        let r := s.freeWord
        (r.2.modSec (fun x => { x with
          sessions := x.sessions ++ [⟨sid, port, false, 0, r.1.toNat, none⟩] })).answer "spdm-response" sid [port] []
    else if kind = 2 then
      match s.session sid with
      | none => s.answer "spdm-error" sid [port] []
      | some x =>
        if x.port ≠ port ∨ x.authed then s.answer "spdm-error" sid [port] []
        else (s.modSession sid (fun x => { x with authed := true, key := key })).answer "spdm-response" sid [port] []
    else match s.spdmAnswer kind key with
      | some a => if kind = 0x84 ∨ kind = 0xE1 ∨ kind = 0xE3 ∨ s.aliasKey then s.answer "spdm-response" sid (port :: kind :: a.1) a.2
          else s.answer "spdm-error" sid [port] []
      | none => s.answer "spdm-error" sid [port] [])

/-- Bytes of words. -/
def wordBytes (l : List Word) : List Byte := l.flatMap (fun w => bytesLE 8 w.toNat)

def digestBytes (bs : List Byte) : List Byte := bytesLE 32 (Config.sm3 bs)

/-- The measurement block of an index; none where the device has no such block (R501, R522). -/
def State.measurement (s : State) (bound : Option Nat) (i : Nat) : Option (List Byte) :=
  if 1 ≤ i ∧ i ≤ 3 then some (s.codeBlock i)
  else if i = 4 then some [BitVec.ofNat 8 (s.get fLcsState), BitVec.ofNat 8 (s.get fLcsPos), BitVec.ofNat 8 (s.get fLcsOpens)]
  else if i = 5 then some (bytesLE 8 (s.rd devId).toNat ++ digestBytes (wordBytes s.ident))
  else if i = 6 then
    let ks := (List.range 8).filter (fun k => s.get (fOsLstate k) == 3 || s.get (fOsLstate k) == 4)
    some (digestBytes (wordBytes (ks.flatMap (fun k => (List.range 256).map (fun j => s.rd (osDesc k j))))))
  else if i = 7 then
    some (digestBytes (wordBytes ((s.program (s.get fTsqBank)).map Prod.snd)) ++ bytesLE 8 (s.rd tsqPeriod).toNat)
  else if i = 8 then
    some (((List.range 16).filter (fun u => s.flag (fTenValid u))).flatMap (fun u =>
      bytesLE 1 u ++ bytesLE 6 (s.get (fTenTiles u)) ++ bytesLE 1 (s.get (fTenConf u))))
  else if i = 0x10 then
    bound.map (fun u => wordBytes ((List.range 4).map (fun j => s.rd (tenDig u j))) ++ bytesLE 4 (s.get (fTenDgen u)))
  else none

/-- GET_MEASUREMENTS of block `i` (0xFF: every block) in session `sid`, or outside any with an unknown number. -/
def execGetMeasurements (sid i : Nat) (s : State) : Out :=
  .next (
    if !s.secOn then s
    else if !s.aliasKey ∨ s.secStopped then s.answer "spdm-error" sid [] []
    else
      let bound := (s.session sid).bind (fun x => x.bound)
      let want := if i = 0xFF then [1, 2, 3, 4, 5, 6, 7, 8, 0x10] else [i]
      let bs := want.filterMap (fun j => (s.measurement bound j).map (fun d => (j, d)))
      if bs = [] then s.answer "spdm-error" sid [] []
      else
        let data := bs.flatMap (fun x => BitVec.ofNat 8 x.1 :: x.2)
        s.answer "spdm-measurements" sid [] (data ++ s.signed data))

/-! ## Vendor-defined requests (R502 to R504) -/

/-- A vendor error response; which number stands for which reason the spec does not say. -/
def State.vendorError (s : State) (sid : Nat) : State :=
  let r := s.freeWord
  r.2.answer "vendor-error" sid [r.1.toNat] []

/-- The session in which a vendor-defined request is served; a stopped engine refuses the request. -/
def State.inSession (s : State) (sid : Nat) (go : Session → State) : State :=
  match s.session sid with
  | none => s
  | some x => if s.secStopped then s.vendorError sid else go x

/-- The digest that TEN_KEYu holds. -/
def State.tenKeyDigest (s : State) (u : Nat) : Nat :=
  ((List.range 4).map (fun j => (s.rd (tenKey u j)).toNat * 2 ^ (64 * j))).foldl (· + ·) 0

/-- BIND of session `sid` to tenant `u`. -/
def execBindSession (sid u : Nat) (s : State) : Out :=
  .next (s.inSession sid (fun x =>
      if 15 < u ∨ !x.authed ∨ x.bound ≠ none ∨ !(s.flag (fTenValid u)) ∨ s.get (fTenState u) ≠ 1 ∨ x.key ≠ s.tenKeyDigest u then
        s.vendorError sid
      else (s.modSession sid (fun x => { x with bound := some u })).answer "vendor-response" sid [0x01] []))

/-- "K64seal", u, i, gen (R504). -/
def sealInfo (u i gen : Nat) : List Byte :=
  [0x4B, 0x36, 0x34, 0x73, 0x65, 0x61, 0x6C] ++ bytesLE 1 u ++ bytesLE 1 i ++ bytesLE 4 gen

/-- Key and initial value of a window: byte i of okm is at bits [8i+7:8i]. -/
def sealKeyOf (x : Session) (u i gen : Nat) : Nat × Nat :=
  let okm := Config.hkdf x.secret (sealInfo u i gen)
  (okm % 2 ^ 128, okm / 2 ^ 128 % 2 ^ 52)

/-- OPEN of window `i` over `npages` pages from byte DVA `dva`. -/
def execOpenWindow (sid i dva npages gen : Nat) (s : State) : Out :=
  .next (s.inSession sid (fun x => match x.bound with
      | none => s.vendorError sid
      | some u =>
        let p := dva / 4096
        let meets (j : Nat) : Bool := j != i && s.flag (fSealValid u j)
          && decide (s.get (fSealDva u j) < p + npages ∧ p < s.get (fSealDva u j) + s.get (fSealPages u j))
        if s.get (fTenConf u) ≠ 1 ∨ 7 < i ∨ dva % 4096 ≠ 0 ∨ npages = 0 ∨ 2 ^ 32 ≤ npages ∨ 2 ^ 36 < p + npages ∨ 2 ^ 32 ≤ gen
            ∨ (List.range 8).any meets then s.vendorError sid
        else
          let s := ((s.wr (sealA u i) (packW [(1, 63), (p, 12)])).wr (sealB u i) (packW [(npages, 0), (gen, 32)]))
          let s := { s with sealKeys := smInsert s.sealKeys (8 * u + i) (sealKeyOf x u i gen) }
          (s.modSec (fun y => { y with opener := smInsert y.opener (8 * u + i) sid })).answer "vendor-response" sid [0x02] []))

/-- REGEN of window `i`. -/
def execRegen (sid i gen : Nat) (s : State) : Out :=
  .next (s.inSession sid (fun x => match x.bound with
      | none => s.vendorError sid
      | some u =>
        if 7 < i ∨ !(s.flag (fSealValid u i)) ∨ smLookup s.sec.opener (8 * u + i) ≠ some sid ∨ gen ≤ s.get (fSealGen u i)
            ∨ 2 ^ 32 ≤ gen then s.vendorError sid
        else
          let s := s.set (fSealGen u i) gen
          ({ s with sealKeys := smInsert s.sealKeys (8 * u + i) (sealKeyOf x u i gen) }).answer "vendor-response" sid [0x03] []))

/-- CLOSE of window `i`. -/
def execCloseWindow (sid i : Nat) (s : State) : Out :=
  .next (s.inSession sid (fun x => match x.bound with
      | none => s.vendorError sid
      | some u =>
        if 7 < i ∨ !(s.flag (fSealValid u i)) then s.vendorError sid
        else
          let s := (s.wr (sealA u i) 0).wr (sealB u i) 0
          let s := { s with sealKeys := smErase s.sealKeys (8 * u + i) }
          (s.modSec (fun y => { y with opener := smErase y.opener (8 * u + i) })).answer "vendor-response" sid [0x04] []))

/-- GET_SCRUB_REPORT of tenant number `u`. -/
def execGetScrubReport (sid u : Nat) (s : State) : Out :=
  .next (s.inSession sid (fun _ => match smLookup s.sec.reports u with
      | none => s.vendorError sid
      | some ws => s.answer "vendor-response" sid [0x05] (wordBytes ws)))

/-- SPDM_SESSION_END: END_SESSION, or the heartbeat is lost. -/
def execSpdmSessionEnd (sid : Nat) (s : State) : Out := .next (s.endSession sid 1)

/-! ## Life-cycle transitions (15 R519, R525 to R528) -/

/-- GET_LC_NONCE in session `sid`, or over MCTP with 0. -/
def execGetLcNonce (sid : Nat) (s : State) : Out :=
  .next (if !s.secOn ∨ (sid ≠ 0 ∧ (s.session sid).isNone) then s
    else if s.secStopped then s.vendorError sid
    else s.answer "vendor-response" sid [0x10] (bytesLE 8 (s.rd lcsNonce).toNat))

/-- A new nonce. -/
def State.newNonce (s : State) : State :=
  { s.wr lcsNonce (Config.nonce s.freeCtr) with freeCtr := s.freeCtr + 1 }

/-- The target is permitted from position p (R519). -/
def lcAllowed (p t : Nat) : Bool :=
  if p = 0 then t == 1 else if p = 1 then t == 2 || t == 16 else if p ≤ 13 then t == p + 1 || t == 15 || t == 16
  else if p = 14 then t == 15 || t == 16 else p == 15 && t == 16

/-- The first check of R527 that a request fails; 0: accepted. `erased`: the read-back of R528 step 1 passes. -/
def State.lcCode (s : State) (ws : List Word) (erased : Bool) : Nat :=
  let w (i : Nat) : Word := ws.getD i 0
  let ver := bitsOf (w 0) 7 0
  let t := bitsOf (w 0) 20 16
  let kind := bitsOf (w 0) 31 24
  let key := if kind = 1 then Config.lcManufKey else Config.lcServiceKey
  let any (p : Nat → Bool) : Bool := (List.range 16).any (fun u => s.flag (fTenValid u) && p u)
  -- until the reset that ends a transition, a request is judged from the position before it (R533)
  let p := if s.cro.lcDelay then s.get fLcsPos else s.sec.otp.pos
  if ver = 0 ∨ bitsOf (w 0) 15 8 < 0x0C ∨ kind = 0 ∨ 2 < kind ∨ bitsOf (w 0) 23 21 ≠ 0 ∨ bitsOf (w 0) 63 32 ≠ 0 ∨ w 3 ≠ 0 then 1
  else if !(Config.sm2Verify key (wordBytes ((List.range 4).map w)) (wordBytes ((List.range 8).map (fun i => w (4 + i)))))
      ∨ (kind = 1 ∧ ¬ (t = 1 ∨ t = 2)) ∨ (kind = 2 ∧ (t = 1 ∨ t = 2 ∨ !s.sec.otp.fused)) then 2
  else if w 1 ≠ s.ident.getD 1 0 ∨ w 2 ≠ s.rd lcsNonce then 3
  else if !(lcAllowed p t) ∨ (s.flag fLcsTorn ∧ t < 15) then 4
  else if t ≠ 16 ∧ ((3 ≤ t ∧ any (fun _ => true)) ∨ any (fun u => s.flag (fTenConf u))) then 5
  else if !(s.sec.otp.slots.any OtpSlot.free) then 6
  else if s.flag fLcsBusy ∨ s.cro.lcDelay then 7
  else if 3 ≤ t ∧ !erased then 8
  else 0

/-- Step 1 of R528: the user secrets that the security engine holds are erased. -/
def State.eraseSecrets (s : State) : State :=
  let s := s.sec.sessions.foldl (fun s x => s.endSession x.id 3) s
  let s := (List.range 16).foldl (fun s u => (List.range 4).foldl (fun s j => s.wr (tenKey u j) 0) s) s
  { s with sealKeys := [] }

/-- LC_TRANSITION of a request of 12 words; a 13th names the SPDM session that carries it, else it comes over MCTP (R526). With
`regs` the request stands in LCS_REQ0 to 11 instead, and LCS_RESULT alone answers. `cut`: power fails after so many bits are
burned. `erased`: as for `lcCode`. The nonce stays until the reset that ends an accepted request (R527, R533). -/
def execLcTransition (ws : List Word) (regs : Bool) (cut : Option Nat) (erased : Bool) (s : State) : Out :=
  .next (
    let sid := (ws.getD 12 0).toNat
    let reply (s : State) (kind : String) (a : List Nat) : State := if regs then s else s.answer kind sid a []
    if !s.secOn ∨ (!regs ∧ sid ≠ 0 ∧ (s.session sid).isNone) then s
    else if s.secStopped then (if regs then s else s.vendorError sid)
    else
      let ws := if regs then (List.range 12).map (fun i => s.rd (lcsReq i)) else ws.take 12
      let code := s.lcCode ws erased
      if code ≠ 0 then
        reply ((s.set fLcsCode code).set fLcsErr 1).newNonce "lc-refused" [code]
      else
        let t := bitsOf (ws.getD 0 0) 20 16
        let i := (s.sec.otp.slots.findIdx? OtpSlot.free).getD 0
        let n := cut.getD (2 ^ 16)
        let s := (if 3 ≤ t then s.eraseSecrets else s).set fLcsBusy 1
        let s := s.modSec (fun x => { x with otp := (x.otp.burnSlot i (Config.sm3 (wordBytes ws)) t n).burnTo t (n - 296) })
        if cut.isSome then s
        else
          let s := (((s.set fLcsBusy 0).set fLcsCode 0).set fLcsErr 0).set fLcsDone 1
          reply (s.modCro (fun c => { c with lcDelay := true })) "lc-done" [t])

/-- What OBS[15:0] carry: low in SCRAPPED, group 0 in FIELD, else the selected group; the signals of groups 1 to 5 stand for
what the logic shows (R531, R532). -/
def State.obsPins (s : State) : BitVec 16 :=
  let st := s.get fLcsState
  let g := if st = 2 then 0 else s.get fObsGrp
  let bit (b : Bool) (k : Nat) : Nat := if b then 2 ^ k else 0
  if st = 5 then 0
  else if g = 0 then
    BitVec.ofNat 16 (s.get fTsqPhase + bit s.cro.faultN 3 + bit s.cro.thermN 4 + bit s.inSafe 5 + bit s.cro.crystal 6)
  else Config.obsSignals g (s.get fObsUnit) s.now

/-- A write of TST_OBSSEL by the service domain or the debug port (R531, R532). -/
def State.obsWrite (s : State) (w : Word) : State :=
  let s := s.checkReserved 16 tstObssel w
  let st := s.get fLcsState
  if (st = 2 ∨ st = 5) ∨ 5 < bitsOf w 2 0 then s
  else
    let s := (s.set fObsUnit (bitsOf w 13 8)).set fObsGrp (bitsOf w 2 0)
    s.emit "obs-pins" [s.obsPins.toNat] []

/-- TST_OBSSEL_WRITE. -/
def execTstObsselWrite (w : Word) (s : State) : Out := .next (if s.inSafe then s else s.obsWrite w)

end Sys2Proof.Machine
end

