-- ==== Sys2Proof/Machine/Reset.lean ====
section
/-! DEFINITION. Power-on, whole-device reset and the first steps of Crocus: what is kept, the life cycle read from the OTP,
CD0 hold, and the maps that the fault history log restores (15 R518 to R529; 16 R534 to R539, R556; 02 R43, R47; 08 R274,
R303; 19 R626). -/

namespace Sys2Proof.Machine

/-! ## What a reset leaves -/

/-- Crocus at reset: pins, crystal, strap check, log, bring-up counts and delays' causes as given. -/
def Crocus.fresh (c : Crocus) : Crocus :=
  { c with
    good := 0, lastCount := none, ended := [0], faultN := true, thermN := false, image := none, running := false
    recBuf := [], recSeed := 0, retry := [], lcDelay := false, recDelay := false, resetOf := none, absorbed := 0, kat := [], retire := [], flashHeld := none
    katNext := [], katHeld := [], katAgain := [], katPass := [], katBase := 0, badSpares := [], passThrough := [], limits := [], railOut := []
    lanes := [], cc := [], ccFree := List.range 18, reported := [], coolAt := none }

/-- Fused registers, which keep their values: DEV_ID, HUB_DIEk, the slot straps. -/
def fusedRegs : List Nat := [devId, hubDie 0, hubDie 1, hubDie 2, hubDie 3]

/-- The registers after a reset: the fused ones, the types of the open sites, the rest at their reset values (01 R26). -/
def State.regsAfter (s : State) : List (Nat × Word) :=
  let keep := s.regs.filter (fun x => fusedRegs.contains x.1)
  let t : State := { s with regs := keep }
  let t := t.wr mgtStat (packW [(s.get fMgtSlot, 0)])
  ((List.range 8).foldl (fun t k =>
    if bitsOf (t.rd devId) 23 16 / 2 ^ k % 2 = 1 then (t.set (fSiteType (openSite k)) 1).set (fSiteState (openSite k)) 1 else t) t).regs

/-- Everything that a whole-device reset clears (16 R556): registers, cores, queues, sessions; C-space. What stacks and
scratchpads hold stays until C8 writes it. -/
def State.cleared (s : State) : State :=
  { s with
    regs := s.regsAfter, mem := s.mem.filter (fun x => decide (x.1 < recKey 0)), bks := [], ueWait := [], cores := []
    net := [], dma := [], dmaLast := [], logWait := [], tasks := [], seq := Seq.init, hubTime := 0, faultSeq := [], trnUpd := none
    hosts := s.hosts.filterMap (fun h => if h.2.perstHigh then some (h.1, { HostTile.fresh with perstHigh := true }) else none)
    cuts := [], recHold := none, sealKeys := [], fell := [], caps := [], labels := [], paused := [], shadow := []
    faultWait := [], fullTold := [], evSeq := [], fencedTen := [], floors := [], domCyc := [], lines := [], cmo := []
    hub := HubNet.init, opens := [], sec := Security.fresh s.sec.otp, cro := s.cro.fresh, clks := [], badSensor := [], coarse := []
    peers := Peers.init }

/-! ## Step C1: the OTP (15 R523, R524, R529; 16 R542) -/

/-- LCS_STATE, LCS_NONCE and BOOT_IMG.floor show the OTP. -/
def State.showOtp (s : State) : State :=
  let o := s.sec.otp
  let s := ((s.set fLcsState (lcsOf o.pos)).set fLcsPos o.pos).set fLcsOpens o.opens
  (((s.set fLcsSlots o.used).setB fLcsTorn (o.torn && decide (o.goal ≤ o.pos))).set fImgFloor o.floorN).newNonce

/-- The OTP contents as log details: steps, slots, floor steps; the fused secret is not read out (15 R521). -/
def Otp.words (o : Otp) : List Nat :=
  let copies (l : List Nat) : Nat := l.foldr (fun c a => c + 2 ^ 16 * a) 0
  o.steps.map copies
    ++ o.slots.flatMap (fun x => (List.range 4).map (fun j => x.digest / 2 ^ (64 * j) % 2 ^ 64) ++ [x.target + 2 ^ 24 * x.sealed])
    ++ o.floor.map copies

/-- Crocus holds the package in CD0 (16, CD0 hold). -/
def State.hold (s : State) (cause : Nat) (details : List Nat) : State :=
  -- only management is left: every domain other than CD0 stands still (R536, R537)
  let s := (List.range 24).foldl (fun s i => (s.modClk (i + 1) (fun c => { c with on := false, locked := false })).set
    (fClkRun (i + 1)) 0) s
  let s := (s.set fBootMode 2).set fBootCause cause
  let s := details.foldl (fun s d => s.logNow 0x09 0x0A 0 d) s
  (s.modCro (fun c => { c with running := false })).pins

/-- The steps that must have ended before step n of R538 starts. -/
def stepStarts (n : Nat) : List Nat :=
  if n = 0 then [] else if n = 7 then [5] else if n = 8 then [7] else if n = 10 then [6, 9] else [n - 1]

/-- The last step that has started (BOOT_STAT.step). -/
def stepReached (ended : List Nat) : Nat :=
  ((List.range 12).filter (fun n => (stepStarts n).all ended.contains)).foldl max 0

/-- BOOT_STAT.step shows the last step reached. -/
def State.showStep (s : State) : State := s.set fBootStep (stepReached s.cro.ended)

/-- A step of R538 has ended. -/
def State.endStep (s : State) (n : Nat) : State := (s.modCro (fun c => { c with ended := c.ended ++ [n] })).showStep

/-- The details that a strap mismatch leaves in the log (01 R23). -/
def State.dieWords (s : State) : List Nat := (List.range 4).map (fun k => (s.rd (hubDie k)).toNat)

/-- The strap read and the seam check of this power-on are done, with what result (01 R22, R23). -/
def State.judgeStraps (s : State) (ok : Bool) : State :=
  let s := s.modCro (fun c => { c with straps := some ok })
  if ok then s.endStep 4 else s.hold 0x01 s.dieWords

/-- Each hub die sends its strap value across its Ed and Sd seams (01 R22). -/
def State.sendStraps (s : State) : State :=
  (List.range 4).foldl (fun s k => (s.emit "seam-e-strap" [k, s.get (fDieStrap k)] []).emit "seam-s-strap" [k, s.get (fDieStrap k)] []) s

/-- Steps that need nothing more are passed: C2 on a qualified crystal, C3 while PWRGD and RST_N are high, and the strap
check of C4 by its kept result (R539). -/
def State.advance (s : State) : State :=
  let s := if s.cro.crystal ∧ s.cro.ended.contains 1 ∧ !(s.cro.ended.contains 2) then s.endStep 2 else s
  if s.cro.ended.contains 2 ∧ !(s.cro.ended.contains 3) ∧ s.cro.pwrgd ∧ s.cro.rstN then
    let s := (s.endStep 3).modCro (fun c => { c with readyFrom := s.now })
    match s.cro.straps with
    | some ok => s.judgeStraps ok
    | none => s.sendStraps
  else s

/-- Step C1 on what the OTP reads: a torn step holds the package, a scrapped unit holds too (R529, 15 R520). -/
def State.stepC1 (s : State) : State :=
  let s := s.showOtp
  let o := s.sec.otp
  if o.torn then s.hold 0x02 ((s.rd lcsState).toNat :: o.words)
  else if o.pos = 16 then s.hold 0x00 []
  else (s.endStep 1).advance

/-- A completed seal asks for more than the fuses hold: steps above the position, or the erasure for target 16 (R529, R533). -/
def Otp.ahead (o : Otp) : Bool := decide (o.pos < o.goal) || (decide (o.goal = 16) && !o.erased)

/-- Crocus starts at C1. An intent ahead is completed first: LCS_RESULT shows done, and 1 ms later a whole-device reset follows
(R528, R529). -/
def State.crocusStart (s : State) : State :=
  let s := (s.modCro (fun c => { c with boots := c.boots + 1, bootAt := s.now })).showStep
  let o := s.sec.otp
  if o.ahead then
    let s := s.showOtp.modSec (fun x => { x with otp := x.otp.burnTo x.otp.goal (2 ^ 16) })
    (s.set fLcsDone 1).modCro (fun c => { c with lcDelay := true })
  else s.stepC1

/-- A whole-device reset: the twin is told, every host link goes down, and Crocus restarts at C1 (R539, R556). -/
def State.wholeReset (s : State) : State :=
  let s := s.notice 2
  -- an image write under way ends torn (19 R640)
  let s := if s.cro.flashHeld.isSome then s.emit "flash-torn" [] [] else s
  let s := (List.range 4).foldl (fun s q => if (s.host q).linkUp then s.emit "surprise-down" [q] [] else s) s
  (s.cleared.set (fClkRun 0) 1).crocusStart

/-! ## What the fault history log restores (C5) -/

/-- One record of the state part. -/
def State.restoreOne (s : State) (r : List Word) : State :=
  let w := r.headD 0
  let kind := bitsOf w 23 16
  let cls := bitsOf w 31 24
  let unit := bitsOf w 63 32
  let d := r.getD 3 0
  let t := unit % 64
  let p := unit / 64 % 256
  if cls = 0x01 ∧ (kind = 0x01 ∨ kind = 0x04) then
    let c := unit % 2 ^ 20
    if bitsOf d 32 32 = 1 then ((s.set (fSiteState (tileSite (coreTile c))) 5).set (fTileAbsent (coreTile c)) 6400).set
      (fStkState (coreTile c)) 5
    else (s.substitute c).1
  else if cls = 0x01 ∧ kind = 0x03 then
    -- a spare core that was free when it failed
    let c := unit % 2 ^ 20
    let col := unit / 2 ^ 23 % 256
    if col % 21 = 20 ∧ !(s.flag (fRemapUsed (coreTile c) (coreY c) (col / 21))) then
      s.spareBad (physCore (coreTile c) (coreY c) col)
    else s
  else if cls = 0x02 ∧ kind = 0x05 then s.set (fChErase t p) (bitsOf d 4 0)
  else if cls = 0x02 ∧ kind = 0x06 then
    let k := bitsOf d 31 24
    ((s.set (fRetRetired t k) (bitsOf d 17 0)).set (fRetRepl t k) (bitsOf d 49 32)).set (fRetValid t k) 1
  else if cls = 0x02 ∧ kind = 0x01 then
    let c := s.get (fChLch t p)
    let n := bitsOf d 7 0
    (((((s.set (fChState t p) 4).set (fChLch t p) 0).set (fChState t n) 1).set (fChLch t n) c).set (fStkIlv t c) n).set
      (fStkSpareFree t) (s.get (fStkSpareFree t) - 1)
  else if cls = 0x02 ∧ kind = 0x03 then
    -- a spare channel that was free when it failed
    (s.set (fChState t p) 4).set (fStkSpareFree t) (s.get (fStkSpareFree t) - 1)
  else if cls = 0x03 ∧ kind = 0x01 then s.set (fStkSpareFor t) (p % 32)
  else if cls = 0x06 ∧ kind = 0x04 then s.set (fXwgState (unit % 16)) 3
  else if cls = 0x03 ∧ kind = 0x03 then s.modStack t (fun k => { k with spareBad := true })
  else if cls = 0x07 ∧ (kind = 0x01 ∨ kind = 0x03) then
    s.modCro (fun c => { c with ccFree := c.ccFree.filter (fun x => x != unit % 32) })
  else if cls = 0x08 ∧ kind = 0x01 then s.set (fRegS (unit % 512)) (s.get (fRegS (unit % 512)) - 1)
  else if cls = 0x08 ∧ kind = 0x03 then s.set (fRegW (unit % 512)) (s.get (fRegW (unit % 512)) - 1)
  else if cls = 0x0A ∧ kind = 0x04 ∧ 14 ≤ t % 16 then s.set (fSiteState t) 4
  else if cls = 0x09 ∧ kind = 0x03 then s.modPeers (fun x => { x with lost := x.lost ++ [t] })
  else s

/-- The maps in force, from the valid half with the higher sequence number (19 R630). -/
def State.restoreMaps (s : State) : State := s.cro.stateRecords.foldl State.restoreOne s

end Sys2Proof.Machine
end

