-- ==== Sys2Proof/Machine/BringUp.lean ====
section
/-! DEFINITION. Commands of bring-up: power, the crystal, the strap check, self-test and training, the firmware image,
ready, and recovery mode (16 R534 to R550; 01 R17, R22, R23). -/

namespace Sys2Proof.Machine

/-- The package is bringing up, and step `n` has ended while step `m` has not. -/
def State.atStep (s : State) (n m : Nat) : Bool :=
  decide (s.get fBootMode = 0) && s.cro.aux && s.cro.ended.contains n && !(s.cro.ended.contains m)

/-! ## Power and crystal (R534 to R537) -/

/-- AUX_POWER_ON: CD0 leaves power-on reset (C0), and fuses and OTP are read (C1). The first power-on after integration
fuses the package identity record of 18 words and the hub dies' identifiers; `slot` is BRD_SLOT (12 R443; 19 R626). -/
def execAuxPowerOn (record dies : List Word) (slot : Nat) (s : State) : Out :=
  .next (
    let s :=
      if s.ident ≠ [] then s
      else
        let w := record.headD 0
        let s := { s with ident := (List.range 18).map (fun i => record.getD i 0) }
        let s := ((s.set fDevStackCap (bitsOf w 31 24)).set fDevOint (bitsOf w 39 32)).set fDevOpenPop (bitsOf w 47 40)
        (s.set fDevStepping (bitsOf (dies.headD 0) 39 32))
    let s := (List.range 4).foldl (fun s k =>
      let w := if dies = [] then s.rd (hubDie k) else dies.getD k 0
      s.wr (hubDie k) (packW [(bitsOf w 55 32, 32)])) s
    let s := { s with cro := { s.cro with aux := true, pwrgd := false, rstN := true, crystal := false, straps := none, strapsRead := false } }
    let s := (s.set fMgtSlot slot).cleared
    ((({ s with mem := [], badBursts := [], badWords := [] }).set (fClkSrc 0) 1).set (fClkRun 0) 1).crocusStart)

/-- CRYSTAL_QUALIFY_WINDOW: `n` crystal cycles in 40,000 of the internal oscillator. -/
def execCrystalQualifyWindow (n : Nat) (s : State) : Out :=
  .next (
    if !(s.atStep 1 2) then s
    else
      let near := match s.cro.lastCount with
        | some m => decide (n ≤ m + 4 ∧ m ≤ n + 4)
        | none => true
      let good := if n < 38800 ∨ 41200 < n then 0 else if s.cro.good = 0 ∨ !near then 1 else s.cro.good + 1
      let s := s.modCro (fun c => { c with good := good, lastCount := some n })
      if good < 8 then s
      else
        -- the hand-over stops CD0 for 110 ns: 4 cycles of the internal oscillator (18 R598)
        let s := s.modCro (fun c => { c with crystal := true })
        ((s.set (fClkSrc 0) 0).set (fClkLost 0) 4).advance)

/-- CRYSTAL_QUALIFY_TIMEOUT: 50 ms after C0. -/
def execCrystalQualifyTimeout (s : State) : Out := .next (if s.atStep 1 2 then s.hold 0x03 [] else s)

/-- The crystal is lost (R537); in CD0 hold no host tile runs, so that every host link is down. -/
def State.crystalLost (s : State) : State :=
  let s := s.modCro (fun c => { c with crystal := false, good := 0, lastCount := none })
  let m := s.get fBootMode
  if m = 0 ∨ m = 3 then (List.range 4).foldl (fun s q => if (s.host q).linkUp then s.linkFalls q 0 0 0 else s) (s.hold 0x03 [])
  else if m = 1 then s.safeState 0x03 else s

/-- CRYSTAL_MONITOR_WINDOW: `n` crystal cycles in one 1 ms window. -/
def execCrystalMonitorWindow (n : Nat) (s : State) : Out :=
  .next (if s.cro.aux ∧ s.cro.crystal ∧ (n < 38800 ∨ 41200 < n) then s.crystalLost else s)

/-- PWRGD_RISE: PWRGD and RST_N read high: the dies read their straps, once in a power-on (01 R17), the hub regulators come up
with `phases` failed phases, and C3 ends once C2 has. -/
def execPwrgdRise (phases straps : List Nat) (s : State) : Out :=
  .next (
    if !s.cro.aux then s
    else
      let s := if s.cro.strapsRead then s
        else ((List.range 4).foldl (fun s k => s.set (fDieStrap k) (straps.getD k 0)) s).modCro (fun c => { c with strapsRead := true })
      let s := s.modCro (fun c => { c with pwrgd := true, rstN := true })
      if s.get fBootMode ≠ 0 ∨ !(s.cro.ended.contains 1) ∨ s.cro.ended.contains 3 then s
      else (phases.foldl State.phaseFault s).advance)

/-- PWRGD_FALL: every domain other than CD0 stops, the peers are told; Crocus waits in C3 again (R535; 17 R585). -/
def execPwrgdFall (s : State) : Out :=
  .next (
    if !s.cro.aux ∨ !s.cro.pwrgd then s
    else
      let s := s.notice 3
      let s := (List.range 8).foldl (fun s k => if (s.opn k).rails then (s.siteDown k).set (fOsLstate k) 0 else s) s
      let kept := (s.get fBootMode, s.get fBootCause)
      let s := (s.cleared.modCro (fun c => { c with pwrgd := false })).set (fClkRun 0) 1
      let restart (s : State) : State := (s.modCro (fun c => { c with boots := c.boots + 1, bootAt := s.now })).showOtp
      if kept.1 = 2 then (restart s).hold kept.2 []
      -- the safe state is left by a whole-device reset alone (R551)
      else if kept.1 = 4 then (((restart s).set fBootMode 4).set fBootCause kept.2).pins
      else s.crocusStart.pins)

/-! ## The strap check of C4 (01 R22, R23) -/

/-- The straps of this power-on are being checked. -/
def State.checking (s : State) : Bool := s.atStep 3 4 && s.cro.straps.isNone

/-- Whether every die has its right strap and neighbours. -/
def State.strapsOk (s : State) : Bool := (List.range 4).all (fun k => s.flag (fDieRotValid k))

/-- STRAP_VALUE_RECEIVED by die k across its Sd seam (`south`) or its Ed seam. -/
def execStrapValueReceived (k v : Nat) (south : Bool) (s : State) : Out :=
  .next (
    if 3 < k ∨ !s.checking then s
    else
      let q := s.get (fDieStrap k)
      let want := if south then (q + 3) % 4 else (q + 1) % 4
      let s := s.set (if south then fDieNbrS k else fDieNbrE k) v
      let s := s.set (if south then fDieRxS k else fDieRxE k) 1
      let s := s.setB (if south then fDieSeamS k else fDieSeamE k) (decide (v % 4 = want))
      let s := s.setB (fDieRotValid k) (decide (q = k) && s.flag (fDieSeamE k) && s.flag (fDieSeamS k))
      if (List.range 4).all (fun j => s.flag (fDieRxS j) && s.flag (fDieRxE j)) then s.judgeStraps s.strapsOk else s)

/-- STRAP_CHECK_TIMEOUT: 1 ms has passed. -/
def execStrapCheckTimeout (s : State) : Out := .next (if s.checking then s.judgeStraps s.strapsOk else s)

/-! ## C5, C7 to C9 (R538, R547, R641) -/

/-- Guests' test ports join the package chain in the life-cycle states that list guest access; else GTRST_N is held low and
the guest is bypassed (12 R423; 15 R520). -/
def State.linkTaps (s : State) : State :=
  (List.range 8).foldl (fun s k =>
    let on := [0, 1, 3, 4].contains (s.get fLcsState) && s.get (fSiteType (openSite k)) == 1
    (s.modOpen k (fun o => { o with tap := on })).emit "guest-test-port" [k, if on then 1 else 0] []) s

/-- HUB_RELEASE_AND_SELF_TEST: whether the hub and the security engine pass, the control cores that pass as a mask, whether
the fault history log is writable. -/
def execHubReleaseAndSelfTest (hub sec : Bool) (cores : Nat) (logok : Bool) (s : State) : Out :=
  .next (
    if !(s.atStep 4 5) then s
    else
      let s := ([1, 2, 3, 4, 24].foldl State.runDomain s).linkTaps
      let s := (s.endStep 5).setB fBootLogok logok
      -- what restored regulators cost is judged as at C4 (R547; 18 R606)
      let s := (List.range 260).foldl State.phaseOutcome s.restoreMaps
      let ok := s.cro.ccFree.filter (fun p => cores / 2 ^ p % 2 == 1)
      let s := s.modCro (fun c => { c with cc := (ok.take 16).map some, ccFree := ok.drop 16 })
      let s := s.set fCcSpares (ok.length - 16)
      if !hub then s.safeState 0x08
      else if ok.length < 16 then s.safeState 0x09
      else if !sec then s.safeState 0x0C
      else s)

/-- One core that self-test has found bad: remapped or absent, and logged. -/
def State.coreBad (s : State) (c : Nat) : State :=
  if !(isCore c) ∨ s.absent c then s
  else
    let col := s.servedBy c
    let r := s.substitute c
    r.1.logLater (if r.2 then 0x04 else 0x01) 0x01 (coreUnit c 0 col) 0

/-- A physical core that self-test has found bad: the logical core that it serves is replaced, or a free row spare is lost
(R547; 02 R42). -/
def State.physBad (s : State) (p : Nat) : State :=
  match s.logicalOf p with
  | some c => s.coreBad c
  | none => if s.freeRowSpare p then (s.spareBad p).logLater 0x03 0x01 (coreUnit (s.namedCore p) 0 (p % 8192 % 84)) 0 else s

/-- A host or peer tile that fails self-test or training is isolated, which the next bring-up restores (R547). -/
def State.portBad (s : State) (n : Nat) : State :=
  if 63 < n ∨ n % 16 < 14 then s else (s.portOut n).logLater 0x04 0x0A n 0

/-- What training found of a site's bond: failed lanes whose group's spare takes over, and a narrower width; each raises event
0x91 and is logged (17 R566, R567). -/
def State.bondTrained (s : State) (n : Nat) : State :=
  let s := (List.range 2).foldl (fun s d =>
    let l := s.bondLanes n d
    (l.filter (fun i => (l.filter (fun x => x / 33 == i / 33)).length == 1)).foldl (fun s i =>
      (s.raiseRel (s.siteTenants n) 0x91 0 n 0 0).logLater 0x01 0x04 n (i + 2048 * d)) s) s
  (List.range (s.bondCode n)).foldl (fun s i =>
    (s.raiseRel (s.siteTenants n) 0x91 0 n 0 (BitVec.ofNat 64 (i + 1))).logLater 0x07 0x04 n (i + 1)) s

/-- A channel that serves is replaced without a copy, since nothing is stored yet; with no spare the stack fails (R538; 08
R275, R283, R294). -/
def State.channelLost (s : State) (t p : Nat) : State :=
  let st := s.get (fChState t p)
  if st = 0 then s.spareChannelBad t p
  else if st ≠ 1 then s
  else match s.freeSpare t with
    | none => s.stackFails t
    | some n =>
      let c := s.get (fChLch t p)
      let s := (((s.set (fChState t p) 4).set (fChLch t p) 0).set (fChState t n) 1).set (fChLch t n) c
      (((s.set (fStkIlv t c) n).set (fStkSpareFree t) (s.get (fStkSpareFree t) - 1)).raiseStk 16 0x21 t p 0x1F 0 0x1F 0
        false).logLater 0x01 0x02 (t + p * 64) n

/-- Training's findings for one channel: its first failed pin is marked erased, a second one, or a path that does not train,
costs the channel (08 R274, R275, R283). -/
def State.channelTrained (s : State) (t p : Nat) (found : Option (List Eye)) : State :=
  match found with
  | none => s.channelLost t p
  | some es =>
    (((es.filter (fun e => e.fails && decide (e.pin < 18))).map Eye.pin).eraseDups).foldl (fun s pin =>
      let cur := s.get (fChErase t p)
      if cur = pin then s else if cur = 0x1F then s.pinFails t p pin else s.channelLost t p) s

/-- Training's findings for one layer: the spare takes its place without a copy; with no spare the stack fails (R547; 08 R287,
R294). -/
def State.layerTrained (s : State) (t l : Nat) : State :=
  if l = 16 ∧ s.get (fStkSpareFor t) = 0x1F then
    (s.modStack t (fun k => { k with spareBad := true })).logLater 0x03 0x03 (t + 16 * 64) 0
  else if 16 < l ∨ s.get (fStkSpareFor t) = l then s
  else if s.get (fStkSpareFor t) ≠ 0x1F ∨ (s.stack t).spareBad then s.stackFails t
  else ((s.set (fStkSpareFor t) l).raiseStk 16 0x22 t 0xFF 0x1F 0 l 0 false).logLater 0x01 0x03 (t + l * 64) 0

/-- A site that carries no chiplet reads blank (R641). -/
def State.blankSites (s : State) : State :=
  (List.range 8).foldl (fun s k => if s.openCarries k then s
    else (s.set (fOsLstate k) 6).modOpen k (fun o => { o with due := false })) s

/-- A site's width and state after training. -/
def State.siteTrained (s : State) (n : Nat) : State :=
  if s.get (fSiteType n) = 4 ∨ s.get (fSiteState n) = 5 ∨ (12 ≤ n % 16 ∧ s.get (fSiteState n) = 4) then s
  else
    let w := s.bondCode n
    let s := ((s.set (fSiteWidth n) w).set (fSiteSpareUsed n) (s.bondSpares n)).bondTrained n
    if w = 3 then (if n % 16 ≤ 11 then s.tileOut (siteTile n)
      else if n % 16 ≤ 13 then (s.isolateBlank (2 * (n / 16) + (n % 16 - 12)) 1).logLater 0x04 0x0A n 0
      else s.portBad n)
    else if s.get (fSiteType n) = 1 then s
    else s.set (fSiteState n) (if w = 0 then 2 else 3)

/-- A tile router has failed: it passes traffic straight on and neither injects nor ejects, so that the logical core behind
it is replaced, or a spare behind it is lost (02 R44; 16 R547). -/
def State.routerBad (s : State) (p : Nat) : State :=
  if s.cro.passThrough.contains p then s
  else
    (s.modCro (fun c => { c with passThrough := c.passThrough ++ [p] })).physBad p

/-- What training found of one link: spare wires in use, and a narrower width; each step raises event 0x41 and is logged
(11 R385; 17 R566). -/
def State.linkTrained (s : State) (l : Nat × Nat × Nat) : State :=
  let n := l.1 / 4
  let d := l.1 % 4
  let s := (s.set (fWid n d) 0).set (fSpw n d) (min l.2.2 8)
  let step (k w : Nat) (s : State) : State :=
    (s.raiseX 16 0x41 [(n, 32), (d, 38)] (packW [(w, 0)])).logLater k 0x05 (8 * n + d) w
  let s := (List.range (min l.2.2 8)).foldl (fun s _ => step 0x01 0 s) s
  (List.range (min l.2.1 2)).foldl (fun s i => step 0x07 (i + 1) (s.set (fWid n d) (i + 1))) s

/-- A peer tile's port status takes each lane's received laser power (19 R636); the spec gives the status no layout. -/
def State.laserReport (s : State) (q : Nat) (power : List Nat) : State :=
  if power = [] then s
  else
    (s.modPeers (fun p => { p with laser := (List.range 8).foldl (fun l i => smSetD l 0 (8 * q + i) (power.getD i 0)) p.laser })).emit
      "peer-port-status" (q :: (List.range 8).map (fun i => power.getD i 0)) []

/-- Waveguide w is out of service. -/
def State.guideOut (s : State) (w : Nat) : Bool := s.get (fXwgState w) == 3

/-- SITE_RELEASE_AND_TRAIN. -/
def execSiteReleaseAndTrain (x : Training) (s : State) : Out :=
  .next (
    if !(s.atStep 5 7) then s
    else
      let s := ((List.range 19).map (· + 5)).foldl State.runDomain s
      let s := (s.modCro (fun c => { c with lanes := x.lanes })).modPeers (fun p => { p with
        lanes := (List.range 4).map (fun q => x.peers.getD q 8) })
      let s := (List.range 4).foldl (fun s q => s.laserReport q (x.laser.getD q [])) s
      let s := (List.range 48).foldl (fun s t =>
        if s.get (fSiteState (tileSite t)) = 5 then (s.set (fStkState t) 5).setDerate t
        else
          let tmp := (smLookup x.temps t).getD 0
          let s := (List.range 136).foldl (fun s p => s.set (fChTtrain t p) tmp) s
          (s.set (fStkState t) 1).setDerate t) s
      -- spares first, so that none that fails is taken
      let s := ((x.chans.filter (fun y => s.get (fChState (y.1 / 136) (y.1 % 136)) == 0))
          ++ x.chans.filter (fun y => s.get (fChState (y.1 / 136) (y.1 % 136)) != 0)).foldl (fun s y =>
        if s.get (fStkState (y.1 / 136)) = 1 ∧ y.1 / 136 < 48 then s.channelTrained (y.1 / 136) (y.1 % 136) y.2 else s) s
      let s := x.layers.foldl (fun s y => if s.get (fStkState y.1) = 1 ∧ y.1 < 48 then s.layerTrained y.1 y.2 else s) s
      let s := (List.range 12).foldl (fun (s : State) (w : Nat) =>
        -- a waveguide that the log keeps out of service stays so (R547)
        let lost : Bool := s.guideOut w
        let g : Nat × Nat × Nat := (x.guides.find? (fun y => y.1 == w)).getD (w, 0x3FFFFFFF, 0)
        let n := bitCount g.2.1 32
        let s := ((s.set (fXwgLmap w) g.2.1).set (fXwgTtrain w) g.2.2).set (fXwgState w) (if lost then 3 else if 30 ≤ n then 1 else if 15 ≤ n then 2 else 3)
        if g.2.1 = 0x3FFFFFFF ∨ lost = true then s
        else (s.raiseX 16 0x41 [(station (w / 3), 32), (5, 38), (w, 48)] (packW [(n, 0)])).logLater (if n < 15 then 0x04 else if n < 30 then 0x07 else 0x01)
          0x06 w n) s
      let s := (List.range 64).foldl State.siteTrained s
      let s := x.tiles.foldl State.tileOut s
      let s := x.ports.foldl State.portBad s
      let s := x.routers.foldl State.routerBad s
      let s := x.cores.foldl State.physBad s
      let s := x.linkTemps.foldl (fun s l => s.modHub (fun h => { h with temps := smSetD h.temps 0 l.1 (l.2 % 256) })) s
      let s := x.links.foldl State.linkTrained s
      -- a link that cannot sustain quarter width (R547; 11 R386)
      match x.links.find? (fun l => decide (3 ≤ l.2.1)) with
      | some l => s.hubFails (l.1 / 4) (l.1 % 4)
      | none => s.blankSites.endStep 7)

/-- BRINGUP_ZERO_FILL: every burst of every stack in service is zero, every scratchpad clear; C8 ends once every open site has
been negotiated with, is isolated or is blank (R641). -/
def execBringupZeroFill (s : State) : Out :=
  .next (
    if !(s.atStep 7 8) ∨ (List.range 8).any (fun k => decide (s.get (fOsLstate k) < 3)) then s
    else ({ s with
      mem := s.mem.filter (fun x => decide (0x200000000000 ≤ x.1)), badBursts := [], badWords := [], lines := [] }).endStep 8)

/-- BRINGUP_KNOWN_ANSWER: the physical cores that fail the known-answer test. -/
def execBringupKnownAnswer (bad : List Nat) (s : State) : Out :=
  .next (if !(s.atStep 8 9) then s else ((bad.foldl State.physBad s).modCro (fun c => { c with katBase := s.now })).endStep 9)

/-! ## The image (R540 to R543) -/

/-- The number that bytes from `a` form. -/
def numAt (b : Nat → Byte) (a n : Nat) : Nat := natLE ((List.range n).map (fun i => b (a + i)))

/-- Word i of an image header. -/
def hdrWord (b : Nat → Byte) (i : Nat) : Word := BitVec.ofNat 64 (numAt b (8 * i) 8)

/-- The header breaks R540. -/
def hdrBad (b : Nat → Byte) : Bool :=
  let w := hdrWord b
  let ver := bitsOf (w 0) 7 0
  let fw := bitsOf (w 1) 31 0
  let pat := bitsOf (w 1) 63 32
  decide (ver = 0 ∨ bitsOf (w 0) 15 8 < 0x18 ∨ (ver = 1 ∧ bitsOf (w 0) 15 8 ≠ 0x18)) || !([1, 2].contains (bitsOf (w 0) 23 16))
    || decide (fw % 64 ≠ 0 ∨ fw < 64 ∨ 0x400000 < fw ∨ 0x240000 < pat ∨ fw ≤ bitsOf (w 2) 31 0 ∨ 64 < bitsOf (w 2) 38 32)
    || (pat == 0 && [8, 9, 10, 11].any (fun i => w i != 0))
    || (ver == 1 && (bitsOf (w 0) 31 24 != 0 || bitsOf (w 2) 63 39 != 0 || [3, 12, 13, 14, 15].any (fun i => w i != 0)))

/-- Keys that a life-cycle state permits (15 R520). -/
def keyPermitted (lcs key : Nat) : Bool :=
  if lcs ≤ 1 then key == 1 else if lcs ≤ 3 then key == 2 else lcs == 4

/-- What the check of an image gives: BOOT_STAT's cause, or the image, whether its pattern store is absent or wrong, and
its length in 64 B. The body begins at `body`, the pattern store at `pat` + the body's length rounded as `up`. -/
def State.imageCheck (s : State) (b : Nat → Byte) (body up : Nat) : Except Nat (Image × Bool × Nat) :=
  let w := hdrWord b
  let key := bitsOf (w 0) 23 16
  let fw := bitsOf (w 1) 31 0
  let pat := bitsOf (w 1) 63 32
  let bytes (a n : Nat) : List Byte := (List.range n).map (fun i => b (a + i))
  let dig := Config.sm3 (bytes body fw)
  let svn := bitsOf (w 0) 63 32
  if hdrBad b then .error 0x04
  else if !(keyPermitted (s.get fLcsState) key)
      ∨ !(Config.sm2Verify (if key = 1 then Config.fwManufKey else Config.fwProdKey) (bytes 0 128) (bytes 128 64))
      ∨ dig ≠ numAt b 32 32 then .error 0x05
  else if svn < s.sec.otp.floorN then .error 0x06
  else
    let p := body + (fw + up - 1) / up * up
    .ok (⟨svn, bitsOf (w 2) 38 32, bitsOf (w 2) 31 0, dig, bytes body fw⟩, decide (pat = 0 ∨ Config.sm3 (bytes p pat) ≠ numAt b 64 32),
      3 + fw / 64 + (pat + 63) / 64)

/-- Recovery mode: only the host tiles are released (R544). -/
def State.enterRecovery (s : State) (cause : Nat) : State :=
  let s := (s.set fBootMode 3).set fBootCause cause
  let s := (((List.range 17).map (· + 5)) ++ [23]).foldl (fun (s : State) m => (s.modClk m (fun _ => ClkDomain.init)).set (fClkRun m) 0) s
  let s := (List.range 8).foldl (fun s k => if (s.opn k).rails then (s.siteDown k).set (fOsLstate k) 0 else s) s
  let s := if s.flag (fClkRun 22) then s else s.runDomain 22
  (s.blankBuf.modCro (fun c => { c with retry := [] })).pins

/-- IMAGE_VERIFY on what the boot flash holds; none: it does not answer (19 R629 gives the places). -/
def execImageVerify (flash : Option (List Byte)) (s : State) : Out :=
  .next (
    if !(s.atStep 5 6) then s
    else match flash with
    | none => s.enterRecovery 0x07
    | some l => match s.imageCheck (fun i => l.getD i 0) 0x1000 0x1000 with
      | .error c => s.enterRecovery c
      | .ok (x, nostore, len) =>
        let s := ((s.set fImgSvn x.svn).set fImgLen64 len).setB fBootNostore nostore
        ((s.setB fFscanNostore nostore).modCro (fun c => { c with image := some x })).endStep 6)

/-! ## Firmware and ready (R538, R548 to R550) -/

/-- FIRMWARE_START: C6 and C9 have ended. -/
def execFirmwareStart (s : State) : Out :=
  .next (
    if !(s.atStep 6 10) ∨ !(s.cro.ended.contains 9) ∨ s.cro.running then s
    else
      let act := (s.cro.cc.map (fun p => match p with
        | some p => 2 ^ p
        | none => 0)).foldl (· + ·) 0
      (s.set fDomActive act).modCro (fun c => { c with running := true }))

/-- Firmware runs and has not declared itself initialised. -/
def State.starting (s : State) : Bool := decide (s.get fBootMode = 0) && s.cro.running && s.cro.ended.contains 9

/-- Crocus declares ready. -/
def State.declareReady (s : State) : State :=
  let s := (s.endStep 10).endStep 11
  let ms := (s.now - s.cro.readyFrom) / 100000
  let s := ((s.set fBootMode 1).set fBootTime ms).modCro (fun c => { c with retry := [] })
  let s := (s.pins).raiseX 16 0x82 [] (packW [(ms % 2 ^ 32, 0)])
  match s.cro.image with
  | some x =>
    if s.sec.otp.floorN < x.floor ∧ x.floor ≤ x.svn then
      let s := s.modSec (fun y => { y with otp := y.otp.burnFloor x.floor })
      s.set fImgFloor s.sec.otp.floorN
    else s
  | none => s

/-- FWREADY: a write of BOOT_CTL. -/
def execFwready (w : Word) (s : State) : Out :=
  .next (
    let s := s.checkReserved 16 bootCtl w
    if bitsOf w 0 0 = 1 ∧ s.starting then s.declareReady else s)

/-- FWREADY_TIMEOUT: 300 ms after the firmware's start. -/
def execFwreadyTimeout (s : State) : Out := .next (if s.starting then s.safeState 0x0E else s)

/-- PERST_N_DEASSERT at host tile q: the pin is high, link training begins, and the 900 ms window. -/
def execPerstNDeassert (q : Nat) (s : State) : Out :=
  .next (if 3 < q then s
    else
      let s := s.modHost q (fun h => { h with perstHigh := true })
      if s.get fBootMode ≠ 0 ∨ s.cro.retry.contains q then s
      else s.modCro (fun c => { c with retry := c.retry ++ [q] }))

/-- CONFIG_RETRY_TIMEOUT at host tile q. -/
def execConfigRetryTimeout (q : Nat) (s : State) : Out :=
  .next (s.modCro (fun c => { c with retry := c.retry.filter (fun x => x != q) }))

/-! ## Recovery mode (R544 to R546) -/

/-- A write of HEP_RECOV with claim. -/
def State.claimBuf (s : State) (q : Nat) : State :=
  if 3 < q ∨ !s.inRecovery ∨ s.recHold.isSome then s
  else ({ s with recHold := some q }).showRecov.set (fRecState q) 0

def execRecoveryClaim (q : Nat) (s : State) : Out := .next (s.claimBuf q)

/-- A write of HEP_RECOV with go: the image of `len` 64 B units is checked; `flashOk`: writing it and reading it back
succeed. -/
def State.goBuf (s : State) (q len : Nat) (flashOk : Bool) : State :=
  if 3 < q ∨ !s.inRecovery then s
  else
    let s := s.set (fRecLen64 q) len
    if s.recHold ≠ some q ∨ s.cro.recDelay then s
    else
      let w1 := hdrWord s.bufByte 1
      let fits := decide (1 ≤ len ∧ len ≤ 131072 ∧ 192 + bitsOf w1 31 0 + bitsOf w1 63 32 ≤ 64 * len)
      match (if fits then s.imageCheck s.bufByte 192 1 else .error 0x04) with
      | .error c => s.releaseBuf.set (fRecState q) c
      | .ok _ =>
        if !flashOk then s.set (fRecState q) 7
        else ((s.set (fRecState q) 3).modCro (fun c => { c with recDelay := true })).emit "flash-write" []
          ((List.range (64 * len)).map s.bufByte)

def execRecoveryGo (q len : Nat) (flashOk : Bool) (s : State) : Out := .next (s.goBuf q len flashOk)

/-- RECOVERY_IDLE_TIMEOUT: 10 s without a write from the holder. -/
def execRecoveryIdleTimeout (s : State) : Out :=
  .next (match s.recHold with
    | some q => if q < 4 ∧ !s.cro.recDelay then s.releaseBuf else s
    | none => s)

end Sys2Proof.Machine
end

