-- ==== Sys2Proof/Machine/Caches.lean ====
section
/-! DEFINITION. Commands of the control caches (07 R244 to R262). A line is named by its device address / 64. -/

namespace Sys2Proof.Machine

def State.line (s : State) (l : Nat) : Option CacheLine := smLookup s.lines l
def State.putLine (s : State) (l : Nat) (x : CacheLine) : State := { s with lines := smInsert s.lines l x }
def State.dropLine (s : State) (l : Nat) : State := { s with lines := smErase s.lines l }

/-- The storage address of a cached line's stack bytes. -/
def State.lineKey (s : State) (l : Nat) : Nat := s.stackKey (64 * l / 2 ^ 38) (64 * l % 2 ^ 38)

/-- The run lies wholly within populated S-space (R250); the slot of a stack out of service is none (08 R294, 01 R28). -/
def State.populated (s : State) (a n : Nat) : Bool :=
  match s.place a with
  | .stack t o => decide (o + n ≤ s.stackBytes) && !(s.stackOut t)
  | _ => false

/-- The line's bytes answer under their own address: the stack serves, the granule is no stand-in (00 R9). -/
def State.lineServes (s : State) (l : Nat) : Bool :=
  match s.place (64 * l) with
  | .stack t o => s.stackServes t o
  | _ => false

/-- Writes a dirty line back, as a read-modify-write of its burst (R247). A burst that cannot be read takes no byte
(08 R297), and an address without a resource behind it takes none either (00 R9); the line is then marked poison. -/
def State.writeBackLine (s : State) (l : Nat) : State :=
  match s.line l with
  | none => s
  | some x =>
    if !x.dirty then s
    else if !(s.lineServes l) then (s.emit "address-error" [64 * l] []).putLine l { x with dirty := false, poison := true }
    else
      let r := s.putPart (s.lineKey l) x.data
      r.1.putLine l { x with dirty := false, poison := !r.2 }

/-- Accesses to the line's burst wait now. -/
def State.lineWaits (s : State) (l : Nat) (write : Bool) : Bool :=
  s.lineServes l && (if write then s.writeWaits (s.lineKey l) else s.stackWaits (s.lineKey l))

/-! ## Maintenance (R249 to R252) -/

/-- A write of CCX_CMOCTLc. -/
def State.cmoStart (s : State) (c : Nat) (w : Word) : State :=
  let s := s.checkReserved 16 (cmoCtl c) w
  let op := bitsOf w 2 1
  let all := bitsOf w 3 3 == 1
  let a := 64 * s.get (fCmoAddr c)
  let n := 64 * s.get (fCmoLen c)
  if 15 < c ∨ bitsOf w 0 0 = 0 ∨ s.inSafe then s
  else if s.flag (fCmoBusy c) then s.set (fCmoRej c) 1
  else if op = 0 ∨ (!all && (n == 0 || !(s.populated a n))) then s.set (fCmoErr c) 1
  else
    let m : Cmo := if all then ⟨op, 0, 2 ^ 42, []⟩ else ⟨op, a / 64, (a + n) / 64, []⟩
    let s := (((s.set (fCmoBusy c) 1).set (fCmoDone c) 0).set (fCmoWb c) 0).set (fCmoDropped c) 0
    { s with cmo := smInsert s.cmo c m }

/-- CMO_CLEAN: a start with op clean, or with the reserved op, which is refused. -/
def execCmoClean (c : Nat) (w : Word) (s : State) : Out :=
  .next (if s.inSafe then s else if bitsOf w 2 1 = 1 ∨ bitsOf w 2 1 = 0 then s.cmoStart c w else s)

def execCmoInvalidate (c : Nat) (w : Word) (s : State) : Out :=
  .next (if s.inSafe then s else if bitsOf w 2 1 = 2 then s.cmoStart c w else s)

def execCmoCleanInvalidate (c : Nat) (w : Word) (s : State) : Out :=
  .next (if s.inSafe then s else if bitsOf w 2 1 = 3 then s.cmoStart c w else s)

/-- The lines that an operation acts on. A line that a control core has accessed since the start may be passed over: a free
word says whether (R251). -/
def State.cmoLines (s : State) (m : Cmo) : State × List (Nat × CacheLine) :=
  (s.lines.filter (fun x => decide (m.lo ≤ x.1 ∧ x.1 < m.hi))).foldl (fun r x =>
    if m.touched.contains x.1 then
      let w := r.1.freeWord
      (w.2, if w.1.getLsbD 0 then r.2 else r.2 ++ [x])
    else (r.1, r.2 ++ [x])) (s, [])

/-- Carries out an operation on those lines. -/
def State.cmoRun (s : State) (c : Nat) (m : Cmo) (ls : List (Nat × CacheLine)) : State :=
  let dirty := (ls.filter (fun x => x.2.dirty)).length
  let s := if m.op % 2 = 1 then (ls.foldl (fun s x => s.writeBackLine x.1) s).addSat (fCmoWb c) dirty else s
  if m.op < 2 then s
  else
    let s := if m.op = 2 then s.addSat (fCmoDropped c) dirty else s
    ls.foldl (fun s x => s.dropLine x.1) s

/-- A control core accesses the line: operations under way may pass over it (R251). -/
def State.touchLine (s : State) (l : Nat) : State :=
  { s with cmo := s.cmo.map (fun x =>
      if x.2.lo ≤ l ∧ l < x.2.hi ∧ !(x.2.touched.contains l) then (x.1, { x.2 with touched := x.2.touched ++ [l] }) else x) }

/-- CMO_DONE of slot c; a write-back that the stack does not admit yet delays it. -/
def execCmoDone (c : Nat) (s : State) : Out :=
  .next (match smLookup s.cmo c with
    | none => s
    | some m =>
      if s.inSafe ∨ (m.op % 2 = 1 ∧ s.lines.any (fun x =>
          decide (m.lo ≤ x.1 ∧ x.1 < m.hi) && x.2.dirty && s.lineWaits x.1 true)) then s
      else
        let r := s.cmoLines m
        let s := (r.1.cmoRun c m r.2).set (fCmoBusy c) 0
        let s := { s with cmo := smErase s.cmo c }.set (fCmoDone c) 1
        let d := s.get (fCmoDropped c)
        if d = 0 then s else s.raiseG 16 0x06 (packW [(c, 0), (d, 16)]))

/-! ## Fills, stores, write-backs (R246, R247, R257) -/

/-- Lines of S-space that the caches hold at most. -/
def cacheLines : Nat := 196608

/-- CONTROL_CACHE_FILL of the line at a device address; `stores` are the bytes, by offset in the line, that control cores
then store into it. -/
def execControlCacheFill (addr : Nat) (stores : List (Nat × Byte)) (s : State) : Out :=
  .next (
    let l := addr / 64
    let store (s : State) : State :=
      match s.line l with
      | none => s
      | some x =>
        if x.poison ∨ stores = [] then s
        else s.putLine l { x with
          data := stores.foldl (fun d y => d.set y.1 y.2) x.data
          dirty := x.dirty || stores.any (fun y => decide (y.1 < 64)) }
    if !s.cro.running then s
    else if (s.line l).isSome then (store s).touchLine l
    else if !(s.lineServes l) then s.emit "address-error" [64 * l] []
    else if cacheLines ≤ s.lines.length ∨ s.lineWaits l false then s
    else
      let s := s.touchLine l
      let r := s.readBurst (s.lineKey l) 0x3
      match r.2 with
      | none => r.1.putLine l ⟨List.replicate 64 0, false, true⟩
      | some bs => store (r.1.putLine l ⟨(bs.drop (64 * l % 256)).take 64, false, false⟩))

/-- CONTROL_CACHE_WRITEBACK of the line at a device address; `evict` marks an eviction. -/
def execControlCacheWriteback (addr : Nat) (evict : Bool) (s : State) : Out :=
  .next (
    let l := addr / 64
    if (s.line l).isNone ∨ s.inSafe ∨ s.lineWaits l true then s
    else
      let s := s.writeBackLine l
      if evict then s.dropLine l else s)

/-- POISON_LINE_TRAP: a control core's load from a poison-marked line traps with the address. -/
def execPoisonLineTrap (addr : Nat) (s : State) : Out :=
  .next (match s.line (addr / 64) with
    | some x => if x.poison ∧ s.cro.running then s.emit "control-core-trap" [1, addr] [] else s
    | none => s)

/-! ## Errors (R258 to R260) -/

/-- An uncontained error: recorded in CCX_DOMST; the package enters its safe state. -/
def State.uncontained (s : State) (cause dead : Nat) : State :=
  if s.inSafe then s else ((s.set fDomCause cause).set fDomDead dead).enterSafe none (2 ^ 8 + cause)

/-- CONTROL_CACHE_ERROR: `kind` 0 correctable, 1 a data line, 2 an instruction L1 line, 3 a tag or directory entry, 4 a
coherence message. -/
def execControlCacheError (kind addr : Nat) (s : State) : Out :=
  .next (
    let l := addr / 64
    if !s.cro.running then s
    else if kind = 0 then s.addSat fDomCe 1
    else if kind = 1 then
      match s.line l with
      | none => s
      | some x =>
        if x.dirty then s.uncontained 0x01 0
        else if s.lineWaits l false then s
        else
          let s := (s.dropLine l).raiseG 16 0x0A (packW [(64 * l, 0), (1, 48)])
          if !(s.lineServes l) then s.emit "address-error" [64 * l] []
          else
          let r := s.readBurst (s.lineKey l) 0x3
          match r.2 with
          | none => r.1.putLine l ⟨List.replicate 64 0, false, true⟩
          | some bs => r.1.putLine l ⟨(bs.drop (64 * l % 256)).take 64, false, false⟩
    else if kind = 2 then s.raiseG 16 0x0A (packW [(64 * l, 0), (2, 48)])
    else if kind = 3 then s.uncontained 0x02 0
    else if kind = 4 then s.uncontained 0x04 0
    else s)

/-- DIRECTORY_PROBE_TIMEOUT of physical control core p. -/
def execDirectoryProbeTimeout (p : Nat) (s : State) : Out :=
  .next (if s.get fDomActive / 2 ^ p % 2 = 1 ∧ p < 18 then s.uncontained 0x03 p else s)

end Sys2Proof.Machine
end

