-- ==== Sys2Proof/Machine/Flags.lean ====
section
/-! DEFINITION. Status flags and guard counters of a core: CORE_CVTST, CORE_GSTAT, CORE_GCNT, the estimates, and the
guard events (03 R118; 06 R199, R202 to R221). -/

namespace Sys2Proof.Machine

/-! ## Guard registers -/

def gMode (cls : Nat) : Fld := ⟨0x030, 2 * cls + 1, 2 * cls⟩
def gE3 : Fld := ⟨0x039, 31, 16⟩
def gCbad : Fld := ⟨0x039, 5, 5⟩
def gNocomp : Fld := ⟨0x039, 4, 4⟩
def gMism : Fld := ⟨0x039, 3, 3⟩
def gProm : Fld := ⟨0x039, 2, 2⟩
def gOver3 : Fld := ⟨0x039, 1, 1⟩
def gOver : Fld := ⟨0x039, 0, 0⟩
def gCompEn : Fld := ⟨0x038, 16, 16⟩
def gDelta : Fld := ⟨0x038, 14, 0⟩
def gThr (cls : Nat) : Fld := if cls = 3 then ⟨0x03C, 15, 0⟩ else ⟨0x031 + cls, 15, 0⟩
/-- Error estimate of tile k (R209). -/
def gEst (k : Nat) : Fld := ⟨0x03A + k / 4, 16 * (k % 4) + 15, 16 * (k % 4)⟩
def gSat3 : Fld := ⟨0x03D, 63, 48⟩
def gSovf3 : Fld := ⟨0x03D, 47, 32⟩
def gSdrop3 : Fld := ⟨0x03D, 31, 16⟩
def gAsat : Fld := ⟨0x03D, 15, 0⟩
def gSmax (cls : Nat) : Fld := ⟨0x03E, 63 - 16 * cls, 48 - 16 * cls⟩
def gPromCnt : Fld := ⟨0x03E, 15, 0⟩
def gSamples : Fld := ⟨0x03F, 63, 32⟩
def gSupp : Fld := ⟨0x03F, 31, 16⟩
def gMismCnt : Fld := ⟨0x03F, 15, 0⟩

/-- The floors in force of a core's partition, 8 bits (R224). -/
def State.coreFloors (s : State) (c : Nat) : Nat :=
  match s.coreTenant c with
  | some u => smGetD s.floors 0x55 u
  | none => 0x55

/-- The effective mode of an instruction of a class (R199). -/
def State.effMode (s : State) (c cls gov : Nat) : Nat :=
  let fl := s.coreFloors c / 4 ^ cls % 4
  let m := max (max (s.cget c (gMode cls)) gov) fl
  if 2 ≤ cls then min m 1 else m

/-! ## Guard events (R218 to R221) -/

/-- What a guard event says beside its type. -/
structure GuardEv where
  cls : Nat
  tile : Nat
  est : Nat
  thr : Nat
  phase : Nat
  pc : Nat
  sample : Nat
  deriving DecidableEq, Repr

/-- The record of a guard event; `more` are words 3 to 21 of a mismatch record (R219). -/
def State.guardRecord (s : State) (c type : Nat) (g : GuardEv) (more : List Word) : List Word :=
  let u := (s.coreTenant c).getD 0
  [packW [(1, 0), (if more.isEmpty then 3 else 0x16, 8), (type, 16), (g.cls, 24), (g.tile, 29), (c, 32), (u, 52)],
   packW [(((s.core c).task).getD 0, 0), (g.est, 16), (g.thr, 32), (g.phase, 48)],
   packW [(s.tick32, 0), (g.pc, 32), (g.sample, 48)]] ++ more

/-- A guard event goes to the tenant's queue, and no more of its type and class follow in the tick (R220, R221). -/
def State.sendGuard (s : State) (c type : Nat) (g : GuardEv) : State :=
  let s := match s.coreTenant c with
    | some u => s.raise u (s.guardRecord c type g [])
    | none => s
  s.modCore c (fun k => { k with evs := k.evs ++ [(type, g.cls)] })

/-- Adds to a guard count, and whether it has come to its maximum for the first time in the tick (R203). -/
def State.countGuard (s : State) (c : Nat) (f : Fld) (n : Nat) : State × Bool :=
  let t := s.caddSat c f n
  let hit := decide (s.cget c f ≠ 2 ^ f.width - 1 ∧ t.cget c f = 2 ^ f.width - 1) && !((s.core c).sats.contains (f.off, f.lo))
  (if hit then t.modCore c (fun k => { k with sats := k.sats ++ [(f.off, f.lo)] }) else t, hit)

/-- The counter-saturated event of a field: its sample is the field's lowest bit, its pc the register's number (R219). -/
def satEv (f : Fld) (cls tile phase : Nat) : GuardEv := ⟨cls, if cls = 3 then 0 else tile, 0, 0, phase, f.off, f.lo⟩

/-- Raises a guard event, at most one of each type and class in a tick; the rest are counted in supp (R221), whose
saturation is an event too (R203). -/
def State.guardEvent (s : State) (c type : Nat) (g : GuardEv) : State :=
  if (s.core c).evs.contains (type, g.cls) then
    let r := s.countGuard c gSupp 1
    if r.2 && !((s.core c).evs.contains (0x15, g.cls)) then r.1.sendGuard c 0x15 (satEv gSupp g.cls g.tile g.phase) else r.1
  else s.sendGuard c type g

/-- The first shadow mismatch of a tick carries its record to the tenant's and the firmware queue (R218, R221). -/
def State.mismatchEvent (s : State) (c : Nat) (g : GuardEv) (more : List Word) : State :=
  if (s.core c).evs.any (fun x => x.1 == 0x12) then s
  else
    let r := s.guardRecord c 0x12 g more
    let s := match s.coreTenant c with
      | some u => s.raise u r
      | none => s
    (s.raise 16 r).modCore c (fun k => { k with evs := k.evs ++ [(0x12, g.cls)] })

/-- Adds to a guard count of an instruction of class `cls` into tile `tile`; the first time in a tick that it comes to its
maximum raises event 0x15 (R203, R219). -/
def State.gcount (s : State) (c cls tile phase : Nat) (f : Fld) (n : Nat) : State :=
  if n = 0 then s
  else
    let r := s.countGuard c f n
    if r.2 then r.1.guardEvent c 0x15 (satEv f cls tile phase) else r.1

/-- Sets a sticky flag of a core register when a condition occurred. -/
def State.stick (s : State) (c : Nat) (f : Fld) (b : Bool) : State := if b then s.cset c f 1 else s

/-- `E + ((rel − E) sra 3)`, 16 bits (R209). -/
def estStep (e rel : Nat) : Nat := ((e : Int) + ((rel : Int) - (e : Int)) / 8).toNat % 65536

/-- `E / 65,536` is greater than the F16 threshold (R210). -/
def overThreshold (e thr : Nat) : Bool := Q.lt (f16Val (BitVec.ofNat 16 thr)).q ⟨e, 65536⟩

/-- `min(0xFFFF, ⌊65,536 × num / den⌋)` for a positive `den`. -/
def rel16 (num den : Q) : Nat := min 0xFFFF (Q.div (Q.mul (Q.int 65536) num) den).floor.toNat

end Sys2Proof.Machine
end

