-- ==== Sys2Proof/Machine/Operands.lean ====
section
/-! DEFINITION. The operand words of tensor and conversion instructions, their checks at issue and the exception
information they give (05 R171 to R174, R193, R195). A check answers cause and information of the failing condition. -/

namespace Sys2Proof.Machine

/-- Cause and CORE_EXC.info of a failed check. -/
abbrev Fail := Nat × Nat

/-- Operand codes of R195. -/
def opndA : Nat := 1
def opndW : Nat := 2
def opndBlock : Nat := 3
def opndSrc : Nat := 4
def opndDst : Nat := 5

/-- CORE_EXC.info of a format exception (R195). -/
def fmtInfo (opnd reason blk off : Nat) : Nat := opnd * 2 ^ 44 + reason * 2 ^ 40 + blk * 2 ^ 32 + off

def fmtFail (opnd reason blk off : Nat) : Fail := (0x0A, fmtInfo opnd reason blk off)

/-- The superblock at a scratchpad offset, as a function of the byte offset in it. -/
def State.sb (s : State) (c off : Nat) : Nat → Byte := fun o => s.spad c (off + o)

/-- Blocks of a strip (03 R98). -/
def stripBlocks (i0 n : Nat) : List Nat := (List.range n).map (i0 + ·)

/-- The checks of a strip word that need the word alone, by priority (R172). -/
def stripWord (w : Word) (weight : Bool) : Option Fail :=
  if bitsOf w 63 25 ≠ 0 ∨ bitsOf w 20 17 ≠ 0 ∨ (weight ∧ 2 ≤ swStrip w) then some (0x02, w.toNat)
  else if swOff w % 64 ≠ 0 then some (0x03, swOff w)
  else if isNarrow (swFmt w) ∧ 0x8000 < swOff w + superblockSize (swFmt w) then some (0x04, swOff w)
  else none

/-- Checks of one strip word (R172), in priority order. DESIGN CHOICE (log 77): a tail or a KT2 byte that lies in an
uncorrectable word is judged by the bytes stored there; poison, of lower priority, is met after that (04 R157). -/
def State.stripCheck (s : State) (c : Nat) (w : Word) (weight : Bool) : Option Fail :=
  let fmt := swFmt w
  let off := swOff w
  let opnd := if weight then opndW else opndA
  let i0 := (if weight then 32 else 16) * swStrip w
  if bitsOf w 63 25 ≠ 0 ∨ bitsOf w 20 17 ≠ 0 ∨ (weight ∧ 2 ≤ swStrip w) then some (0x02, w.toNat)
  else if off % 64 ≠ 0 then some (0x03, off)
  else if isNarrow fmt ∧ 0x8000 < off + superblockSize fmt then some (0x04, off)
  else if !isNarrow fmt then some (fmtFail opnd 0x1 0 off)
  else
    match tailCheck fmt (readTail fmt (s.sb c off)) (s.sb c off) (stripBlocks i0 (if weight then 32 else 16)) 0 63 with
    | some x => some (fmtFail opnd x.1 x.2 off)
    | none => none

/-- Of two failing checks, the one of lower priority number; the first one on a tie (R172). Among the causes 0x02, 0x03,
0x04 and 0x0A the priority rises with the cause (04 R157). -/
def firstFail (x y : Option Fail) : Option Fail :=
  match x, y with
  | none, y => y
  | x, none => x
  | some a, some b => if b.1 < a.1 then some b else some a

/-- The checks of a TMAC's two strip words and their pairing (R172). -/
def State.pairCheck (s : State) (c : Nat) (aw ww : Word) : Option Fail :=
  match firstFail (s.stripCheck c aw false) (s.stripCheck c ww true) with
  | some f => some f
  | none =>
    if pairingOk (swFmt aw) (swFmt ww) then none else some (fmtFail opndW 0x3 0 (swOff ww))

/-! ## The block word (R173) -/

def bwH (w : Word) : Nat := bitsOf w 25 25
def bwFmt (w : Word) : Nat := bitsOf w 24 21
def bwI (w : Word) : Nat := bitsOf w 20 15
def bwOff (w : Word) : Nat := bitsOf w 14 0

/-- The checks of a block word that need the word alone (R173). -/
def blockWord (w : Word) : Option Fail :=
  if bitsOf w 63 26 ≠ 0 then some (0x02, w.toNat)
  else if bwOff w % 64 ≠ 0 then some (0x03, bwOff w)
  else if isNarrow (bwFmt w) ∧ 0x8000 < bwOff w + superblockSize (bwFmt w) then some (0x04, bwOff w)
  else if !isNarrow (bwFmt w) then some (fmtFail opndBlock 0x1 0 (bwOff w))
  else none

def State.blockCheck (s : State) (c : Nat) (w : Word) : Option Fail :=
  let fmt := bwFmt w
  let off := bwOff w
  if bitsOf w 63 26 ≠ 0 then some (0x02, w.toNat)
  else if off % 64 ≠ 0 then some (0x03, off)
  else if isNarrow fmt ∧ 0x8000 < off + superblockSize fmt then some (0x04, off)
  else if !isNarrow fmt then some (fmtFail opndBlock 0x1 0 off)
  else
    match tailCheck fmt (readTail fmt (s.sb c off)) (s.sb c off) [bwI w] (32 * bwH w) (32 * bwH w + 31) with
    | some x => some (fmtFail opndBlock x.1 x.2 off)
    | none => none

/-! ## The conversion word (R174, R193) -/

def cwSscale (w : Word) : Nat := bitsOf w 63 48
def cwBudget (w : Word) : Nat := bitsOf w 43 40
def cwMode (w : Word) : Bool := decide (bitsOf w 36 36 = 1)
def cwSfmt (w : Word) : Nat := bitsOf w 35 32
def cwDfmt (w : Word) : Nat := bitsOf w 31 28

/-- Bytes of a buffer of 4,096 elements. -/
def bufferSize (fmt : Nat) : Nat := if fmt = fmtF32 then 16384 else 8192

def isPlain (fmt : Nat) : Bool := fmt == fmtF16 || fmt == fmtF32

/-- Bytes of a QCVT side: a superblock of a narrow format, a buffer of F16 or F32. -/
def sideSize (fmt : Nat) : Nat := if isPlain fmt then bufferSize fmt else superblockSize fmt

/-- The operation takes the format codes (R192): QSB 1, DQB 2, CVTB 3. A code 0x8 to 0xF is no case of this check (R193). -/
def qcvtTakes (fn sfmt dfmt : Nat) : Bool :=
  (decide (8 ≤ sfmt) || (if fn = 2 then isNarrow sfmt else isPlain sfmt))
    && (decide (8 ≤ dfmt) || (if fn = 1 then isNarrow dfmt else isPlain dfmt))
    && !(fn == 3 && sfmt == dfmt && decide (sfmt < 8))

/-- Required-zero bits of the conversion word for the operation. -/
def cwBadBits (fn : Nat) (w : Word) : Bool :=
  decide (bitsOf w 47 44 ≠ 0 ∨ bitsOf w 39 37 ≠ 0 ∨ bitsOf w 27 0 ≠ 0)
    || (fn != 1 && decide (cwSscale w ≠ 0 ∨ cwBudget w ≠ 0)) || (fn == 1 && decide (12 < cwBudget w))

/-- An element of a buffer, decoded. -/
def State.bufElem (s : State) (c fmt off e : Nat) : FVal :=
  if fmt = fmtF32 then f32Val (BitVec.ofNat 32 (s.spadNat c (off + 4 * e) 4))
  else f16Val (BitVec.ofNat 16 (s.spadNat c (off + 2 * e) 2))

/-- The first element of a source buffer that is an infinity or a NaN (03 R113). -/
def State.nonFinite (s : State) (c fmt off : Nat) : Option Nat :=
  (List.range 4096).find? (fun e => !(s.bufElem c fmt off e).isFin)

/-- CORE_EXC.info of an arithmetic exception (R196). -/
def arithFail (reason idx off : Nat) : Fail := (0x0B, reason * 2 ^ 40 + idx * 2 ^ 16 + off)

/-- The checks of a QCVT that need its words alone (R193), for destination offset word `dw` and source offset word `bw`. A
format code 0x8 to 0xF is a format failure; a code 0x0 to 0x7 that the operation does not take is an illegal operand.
DESIGN CHOICE (log 77): overlapping extents report the conversion word; with both codes reserved sfmt is reported; reason 0x8
reports the destination's offset; of two sides that fail one check the source is reported; the extent of a side whose code is
reserved is not judged, and its offset is reported modulo 0x8000 (R193, R195). -/
def qcvtWord (fn : Nat) (w dw bw : Word) : Option Fail :=
  let sfmt := cwSfmt w
  let dfmt := cwDfmt w
  let src := bw.toNat
  let dst := dw.toNat
  if cwBadBits fn w ∨ !(qcvtTakes fn sfmt dfmt) then some (0x02, w.toNat)
  else if sfmt < 8 ∧ dfmt < 8 ∧ extOverlap (src, sideSize sfmt) (dst, sideSize dfmt) then some (0x02, w.toNat)
  else if src % 64 ≠ 0 then some (0x03, src)
  else if dst % 64 ≠ 0 then some (0x03, dst)
  else if sfmt < 8 ∧ 0x8000 < src + sideSize sfmt then some (0x04, src)
  else if dfmt < 8 ∧ 0x8000 < dst + sideSize dfmt then some (0x04, dst)
  else if 8 ≤ sfmt then some (fmtFail opndSrc 0x1 0 (src % 0x8000))
  else if 8 ≤ dfmt then some (fmtFail opndDst 0x1 0 (dst % 0x8000))
  else if fn = 1 ∧ cwSscale w / 256 = 0 then some (fmtFail opndDst 0x8 0 dst)
  else none

/-- The checks of a QCVT (R193). DESIGN CHOICE (log 77): reason 0x8 of a QSB comes before a source element that is infinite
or NaN; tails and elements in an uncorrectable word are judged by the bytes stored there. -/
def State.qcvtCheck (s : State) (c fn : Nat) (w dw bw : Word) : Option Fail :=
  match qcvtWord fn w dw bw with
  | some f => some f
  | none =>
    let sfmt := cwSfmt w
    let src := bw.toNat
    if fn = 2 then
      (tailCheck sfmt (readTail sfmt (s.sb c src)) (s.sb c src) (List.range 64) 0 63).map (fun x =>
        fmtFail opndSrc x.1 x.2 src)
    else (s.nonFinite c sfmt src).map (fun e => arithFail 0x01 e src)

/-- The offset register of a TACC (R179): required-zero bits, alignment, end of the scratchpad. -/
def taccOffset (w : Word) : Option Fail :=
  if bitsOf w 63 15 ≠ 0 then some (0x02, w.toNat)
  else if w.toNat % 64 ≠ 0 then some (0x03, w.toNat)
  else if 0x7800 < w.toNat then some (0x04, w.toNat)
  else none

end Sys2Proof.Machine
end

