-- ==== Sys2Proof/Machine/Tensor.lean ====
section
/-! DEFINITION. Tensor instructions: TMAC, the accumulator moves, the tensor queue and its completions with the guard's
work (03 R98 to R103; 05 R165 to R182; 06 R202 to R217). -/

namespace Sys2Proof.Machine

/-! ## Executing a queued instruction -/

/-- The superblock as a TMAC sees it: its captured tail, its captured KT2 bytes, the scratchpad elsewhere (05 R168). -/
def State.sbCaptured (s : State) (c fmt off i0 : Nat) (tail kt2 : List Byte) : Nat → Byte := fun o =>
  if tailOffset fmt ≤ o ∧ o < tailOffset fmt + 64 then tail.getD (o - tailOffset fmt) 0
  else if fmt = fmtKT2 ∧ 13 * i0 ≤ o ∧ o < 13 * i0 + 416 ∧ kt2.length = 416 then kt2.getD (o - 13 * i0) 0
  else s.spad c (off + o)

/-- One operand of a tensor operation: format, tail, and its rows of grid values with their units and scale codes. -/
structure Operand where
  fmt : Nat
  tail : Tail
  rows : List (List Int)
  units : List Q
  scales : List Nat
  deriving DecidableEq, Repr

/-- The operand of `n` blocks from block `i0` of a superblock. -/
def mkOperand (fmt : Nat) (sb : Nat → Byte) (i0 n : Nat) : Operand :=
  let t := readTail fmt sb
  { fmt := fmt, tail := t, rows := (List.range n).map (fun r => gridRow fmt t sb (i0 + r)),
    units := (List.range n).map (fun r => blockUnit fmt t sb (i0 + r)),
    scales := (List.range n).map (fun r => scaleCodeAt fmt sb (i0 + r)) }

def Operand.row (o : Operand) (r : Nat) : List Int := o.rows.getD r []
def Operand.unit (o : Operand) (r : Nat) : Q := o.units.getD r Q.zero

/-- The contribution of output element (r, n): `S × uA × uW × sA × SA × sW × SW` (03 R101, 06 R208). -/
def contribution (a w : Operand) (r n : Nat) : Q :=
  Q.mul (Q.int (blockSum (a.row r) (w.row n))) (Q.mul (a.unit r) (w.unit n))

/-- The sum of magnitudes M8 of R208. -/
def magSum (a w : Operand) (r n : Nat) : Q :=
  Q.mul (Q.int (blockSum ((a.row r).map (fun x => x.natAbs)) ((w.row n).map (fun x => x.natAbs))))
    (Q.mul (a.unit r) (w.unit n))

/-- rel16 of one sample (R208). -/
def sampleRel (c4 c8 m8 : Q) : Nat :=
  if Q.lt Q.zero m8 then rel16 (Q.sub c4 c8).abs m8 else if c4.isZero then 0 else 0xFFFF

/-- The estimate after samples `m` to 7 and, where one exceeds the threshold, the first that does: its estimate and its
element (R209, R210). -/
def estimateRun (a w comp : Operand) (phase thr : Nat) : List Nat → Nat → Option (Nat × Nat) → Nat × Option (Nat × Nat)
  | [], e, past => (e, past)
  | m :: ms, e, past =>
    let el := phase + 64 * m
    let r := el / 32
    let n := el % 32
    let e' := estStep e (sampleRel (contribution a w r n) (contribution comp w r n) (magSum comp w r n))
    let past' := match past with
      | some x => some x
      | none => if overThreshold e' thr then some (e', el) else none
    estimateRun a w comp phase thr ms e' past'

/-- One block-end addition (03 R101, R102). -/
def blockEnd (old : F32) (z : Bool) (x : Q) : F32 × Bool :=
  f32Sat .nearestEven (Q.add (if z then Q.zero else (f32Val old).q) x)

/-- The tile after one tensor operation, with each element's saturation. -/
def tileAfter (t : Vector F32 512) (z : Bool) (contrib : Nat → Nat → Q) : Vector (F32 × Bool) 512 :=
  Vector.ofFn (fun e : Fin 512 => blockEnd t[e] z (contrib (e.val / 32) (e.val % 32)))

def tileFin (n : Nat) : Fin 8 := ⟨n % 8, Nat.mod_lt _ (by decide)⟩
def vecFin (n : Nat) : Fin 16 := ⟨n % 16, Nat.mod_lt _ (by decide)⟩

/-- Words of a byte list, little-endian, 8 bytes each; `n` words. -/
def wordsOf : Nat → List Byte → List Word
  | 0, _ => []
  | n + 1, l => BitVec.ofNat 64 (natOfBytes' (l.take 8)) :: wordsOf n (l.drop 8)
where
  natOfBytes' : List Byte → Nat
    | [] => 0
    | b :: l => b.toNat + 256 * natOfBytes' l

/-- Words 3 to 21 of a shadow-mismatch record (R219). -/
def mismatchWords (a w : Operand) (sbA sbW : Nat → Byte) (i0A i0W r n : Nat) (S S' : BitVec 32) : List Word :=
  let block (o : Operand) (sb : Nat → Byte) (i : Nat) : List Byte :=
    let b := blockBytes o.fmt
    (List.range 64).map (fun j => if j < b then sb (i * b + j) else 0)
  [packW [(S.toNat, 0), (S'.toNat, 32)],
   packW [(a.scales.getD r 0, 0), (w.scales.getD n 0, 8), (a.tail.sscale, 16), (w.tail.sscale, 32), (a.fmt, 48), (w.fmt, 52)],
   packW [((a.tail.entryOf (i0A + r)).getD 0, 0), ((w.tail.entryOf (i0W + n)).getD 0, 32)]]
  ++ wordsOf 8 (block a sbA (i0A + r)) ++ wordsOf 8 (block w sbW (i0W + n))

/-- The task whose state the core holds is marked not to be committed in this tick (R222). -/
def State.markMismatch (s : State) (c : Nat) : State :=
  match (s.core c).task with
  | some k => s.setB (fTstMism k) true
  | none => s

/-- A TMAC carried out: the shadow check and the estimate of an observed one, promotion, the 512 block-end additions,
the counts (03 R100 to R103; 06 R202 to R217). `shadow` gives the samples whose shadow sum differs, with that sum. -/
def State.runMac (s : State) (c : Nat) (m : MacOp) (shadow : List (Fin 8 × BitVec 32)) : State :=
  let fa := swFmt m.aWord
  let fw := swFmt m.wWord
  let i0A := 16 * swStrip m.aWord
  let i0W := 32 * swStrip m.wWord
  let sbA := s.sbCaptured c fa (swOff m.aWord) i0A m.aTail []
  let sbW := s.sbCaptured c fw (swOff m.wWord) i0W m.wTail m.kt2
  let a := mkOperand fa sbA i0A 16
  let w := mkOperand fw sbW i0W 32
  let k := tileFin m.tile
  let observed := decide (1 ≤ m.mode)
  let ev : GuardEv := ⟨m.cls, m.tile, 0, m.thr, m.phase, m.pc, 0⟩
  -- the estimate
  let s := if m.z then s.cset c (gEst m.tile) 0 else s
  let comp := m.comp.map (fun x =>
    let tf := (x.2.getD 2 0).toNat % 16
    mkOperand tf (s.sbCaptured c tf x.1 0 x.2 []) i0A 16)
  let est := match comp with
    | some cp => some (estimateRun a w cp m.phase m.thr (List.range 8) (s.cget c (gEst m.tile)) none)
    | none => none
  let s := match est with
    | some e => s.cset c (gEst m.tile) e.1
    | none => s
  let past := match est with
    | some e => e.2
    | none => none
  let promoted := decide (m.mode = 2) && past.isSome
  let s := match past with
    | some o =>
      let s := s.cset c gOver 1
      if promoted then
        ((s.cset c gProm 1).gcount c m.cls m.tile m.phase gPromCnt 1).guardEvent c 0x11 { ev with est := o.1, sample := o.2 }
      else s.guardEvent c 0x10 { ev with est := o.1, sample := o.2 }
    | none => s
  -- the additions
  let src := if promoted then comp.getD a else a
  let after := tileAfter ((s.core c).tile k) m.z (contribution src w)
  let nsat := (after.toList.filter (fun x => x.2)).length
  let s := s.modCore c (fun x => x.setTile k (after.map (fun y => y.1)))
  let s := s.stick c cvAsat (decide (0 < nsat))
  let s := s.gcount c m.cls m.tile m.phase gAsat nsat
  let nmax := ((a.scales ++ w.scales).filter (fun x => x == 0xFF)).length
  let s := s.gcount c m.cls m.tile m.phase (gSmax m.cls) nmax
  -- the shadow lanes
  let s := if observed then s.gcount c m.cls m.tile m.phase gSamples 8 else s
  -- of the samples that differ, the lowest-numbered (R205)
  let differs (x : Fin 8 × BitVec 32) : Bool :=
    let el := m.phase + 64 * x.1.val
    BitVec.ofInt 32 (blockSum (a.row (el / 32)) (w.row (el % 32))) != x.2
  match (if observed then (List.range 8).findSome? (fun m => shadow.find? (fun x => x.1.val == m && differs x)) else none) with
  | some x =>
    let el := m.phase + 64 * x.1.val
    let S := BitVec.ofInt 32 (blockSum (a.row (el / 32)) (w.row (el % 32)))
    let s := (s.cset c gMism 1).gcount c m.cls m.tile m.phase gMismCnt 1
    let s := s.mismatchEvent c { ev with est := 0, thr := 0, sample := el }
      (mismatchWords a w sbA sbW i0A i0W (el / 32) (el % 32) S x.2)
    s.markMismatch c
  | none => s

/-- An F32 loaded into a tile: an infinity becomes the largest finite value of its sign, a NaN becomes +0 (05 R180). -/
def tileLoad (x : F32) : F32 × Bool :=
  match f32Val x with
  | .nan => (0, true)
  | .inf n => (if n then 0xFF7FFFFF else 0x7F7FFFFF, true)
  | .fin _ _ => (x, false)

/-- The 512 elements of the TST layout at an offset. -/
def State.tileAt (s : State) (c off : Nat) : Vector F32 512 :=
  Vector.ofFn (fun e : Fin 512 => BitVec.ofNat 32 (s.spadNat c (off + 4 * e.val) 4))

/-- The bytes of the TST layout of a tile. -/
def tileBytes (t : Vector F32 512) : List Byte := t.toList.flatMap (fun x => bytesLE 4 x.toNat)

/-- Lane `n` of TROW (05 R179, 03 R117). -/
def rowLanes (t : Vector F32 512) (r : Nat) (stochastic : Bool) (ds : List Nat) : List (Lane × Bool) :=
  (List.range 32).map (fun n => toF16 (rndOf stochastic ds n) (f32Val (t.toList.getD (32 * r + n) 0)))

def vecOf (l : List Lane) : Vector Lane 32 := Vector.ofFn (fun i : Fin 32 => l.getD i.val 0)

/-- Carries out one tensor instruction (05 R179 to R182). -/
def State.runTOp (s : State) (c : Nat) (o : TOp) (shadow : List (Fin 8 × BitVec 32)) : State :=
  match o with
  | .mac m => s.runMac c m shadow
  | .zero _ t => (s.modCore c (fun k => k.setTile (tileFin t) (Vector.replicate 512 0))).cset c (gEst t) 0
  | .store _ t off => s.setSpad c off (tileBytes ((s.core c).tile (tileFin t)))
  | .load _ t off =>
    let l := (s.tileAt c off).map tileLoad
    ((s.modCore c (fun k => k.setTile (tileFin t) (l.map (fun x => x.1)))).cset c (gEst t) 0).stick c cvAsat
      (l.any (fun x => x.2))
  | .row _ vd t r st ds _ _ =>
    let l := rowLanes ((s.core c).tile (tileFin t)) r st ds
    (s.modCore c (fun k => k.setV (vecFin vd) (vecOf (l.map (fun x => x.1))))).stick c cvSat (l.any (fun x => x.2))
  | .addRow _ t r lanes =>
    let old := (s.core c).tile (tileFin t)
    let new : Vector (F32 × Bool) 512 := Vector.ofFn (fun e : Fin 512 =>
      if e.val / 32 = r then blockEnd old[e] false (f16Val (lanes.toList.getD (e.val % 32) 0)).q else (old[e], false))
    (s.modCore c (fun k => k.setTile (tileFin t) (new.map (fun x => x.1)))).stick c cvAsat (new.any (fun x => x.2))
  | .addMem _ t off =>
    let old := (s.core c).tile (tileFin t)
    let l := (s.tileAt c off).map tileLoad
    let new : Vector (F32 × Bool) 512 := Vector.ofFn (fun e : Fin 512 => blockEnd old[e] false (f32Val (l[e].1)).q)
    (s.modCore c (fun k => k.setTile (tileFin t) (new.map (fun x => x.1)))).stick c cvAsat
      (l.any (fun x => x.2) || new.any (fun x => x.2))

/-- The instruction's offset. -/
def TOp.pc : TOp → Nat
  | .mac m => m.pc
  | .zero p _ => p
  | .store p _ _ => p
  | .load p _ _ => p
  | .row p _ _ _ _ _ _ _ => p
  | .addRow p _ _ _ => p
  | .addMem p _ _ => p

/-- A unit found an uncorrectable word: the core stops, with the word's offset and the instruction's (05 R165). DESIGN CHOICE
(log 77): where the core had stopped for another cause before, CORE_EXC and CORE_EPC take the word's. -/
def State.unitPoison (s : State) (c w pc : Nat) : State := (s.writeExc c 0x05 w pc).freeze c

/-- The unit meets an uncorrectable word among the bytes it reads: it writes nothing, the instructions queued behind it are
discarded and the core stops (05 R165, R170). DESIGN CHOICE (log 77): of several such words the first in the order of
TOp.reads is named. -/
def State.finishTOp (s : State) (c : Nat) (o : TOp) (shadow : List (Fin 8 × BitVec 32)) : State :=
  match o.reads.findSome? (fun e => s.spadPoison c e.1 e.2) with
  | some w => (s.discardQueued c 0).unitPoison c w o.pc
  | none => s.runTOp c o shadow

def execTensorOpComplete (c : Nat) (shadow : List (Fin 8 × BitVec 32)) (s : State) : Out :=
  .next (match (s.core c).tq with
    | [] => s
    | o :: rest => (s.modCore c (fun k => { k with tq := rest })).finishTOp c o shadow)

/-! ## Issue -/

/-- A tensor instruction enters the queue of two beside the executing one (05 R166). -/
def State.enqueue (s : State) (c : Nat) (o : TOp) : State :=
  (s.modCore c (fun k => { k with tq := k.tq ++ [o] })).retire c

def Core.tqFull (k : Core) : Bool := decide (3 ≤ k.tq.length)

/-- A TACC: at once when the queue is empty, else queued behind the earlier instructions; a full queue stalls it. -/
def State.tacc (s : State) (c : Nat) (o : TOp) : State :=
  let k := s.core c
  if k.tq.isEmpty then
    match o.reads.findSome? (fun e => s.spadPoison c e.1 e.2) with
    | some w => s.unitPoison c w k.pc
    | none => (s.runTOp c o []).retire c
  else if k.tqFull then s
  else s.enqueue c o

def execTzero (c : Nat) (tile : Fin 8) (s : State) : Out :=
  .next (s.issue c [] [] (fun k => s.tacc c (.zero k.pc tile.val)))

/-- A TACC with an offset register (R179). -/
def State.taccMem (s : State) (c : Nat) (a : Fin 32) (o : Nat → Nat → TOp) : State :=
  s.issue c [a] [] (fun k =>
    match taccOffset (k.sreg a) with
    | some f => s.raiseSync c f.1 f.2
    | none => s.tacc c (o k.pc (k.sreg a).toNat))

def execTst (c : Nat) (tile : Fin 8) (a : Fin 32) (s : State) : Out :=
  .next (s.taccMem c a (fun pc off => .store pc tile.val off))
def execTld (c : Nat) (tile : Fin 8) (a : Fin 32) (s : State) : Out :=
  .next (s.taccMem c a (fun pc off => .load pc tile.val off))
def execTaddm (c : Nat) (tile : Fin 8) (a : Fin 32) (s : State) : Out :=
  .next (s.taccMem c a (fun pc off => .addMem pc tile.val off))

def execTrow (c : Nat) (vd : Fin 16) (tile : Fin 8) (r : Fin 16) (stochastic : Bool) (s : State) : Out :=
  .next (s.issue c [] [vd] (fun k =>
    if k.tqFull then s
    else
      let d := drawsFor stochastic 32 (k.srd c 0x013)
      (s.modCore c (fun k => if stochastic then k.swr 0x013 d.1 else k)).tacc c
        (.row k.pc vd.val tile.val r.val stochastic d.2 (k.srd c 0x013) d.1)))

/-- The first lane that holds an infinity or a NaN (R181). -/
def badLane (v : Vector Lane 32) : Option Nat :=
  (List.range 32).find? (fun n => !(f16Val (v.toList.getD n 0)).isFin)

def execTaddr (c : Nat) (tile : Fin 8) (va : Fin 16) (r : Fin 16) (s : State) : Out :=
  .next (s.issue c [] [va] (fun k =>
    match badLane (k.vreg va) with
    | some n => s.raiseSync c 0x0B (0x02 * 2 ^ 40 + n * 2 ^ 16)
    | none => s.tacc c (.addRow k.pc tile.val r.val (k.vreg va))))

/-- Guard class of a TMAC by its weight format (05 R197). -/
def macClass (fw : Nat) : Nat :=
  if fw = fmtKI4 ∨ fw = fmtKF4 then 0 else if fw = fmtKI2 ∨ fw = fmtKT2 then 1 else 2

/-- The companion's offset and tail where it is valid (06 R207). -/
def State.companion (s : State) (c aOff : Nat) : Option (Nat × List Byte) :=
  let off := (aOff + s.cget c gDelta) % 0x8000
  if 0x8000 < off + 4224 then none
  else
    let sb := s.sb c off
    let t := readTail fmtKI8 sb
    if isEightBit t.fmt ∧ tailCheck t.fmt t sb [] 0 63 = none ∧ t.sscale / 256 ≠ 0 then
      some (off, s.spadBytes c (off + tailOffset fmtKI8) 64)
    else none

/-- The tail of the companion superblock that a TMAC of class `cls` and mode `mode` captures at issue (06 R207). -/
def State.companionReads (s : State) (c cls mode aOff : Nat) : List Ext :=
  let off := (aOff + s.cget c gDelta) % 0x8000
  if cls < 2 ∧ mode ≠ 0 ∧ s.cget c gCompEn = 1 ∧ off + 4224 ≤ 0x8000 then [(off + tailOffset fmtKI8, 64)] else []

/-- The bytes of a strip of `n` blocks that a TMAC reads at issue to judge it: the tail, and the data of a KT2 strip (05
R167, R168; R97). A format that is not narrow names no tail. -/
def stripReads (w : Word) (n : Nat) : List Ext :=
  if isNarrow (swFmt w) then
    (swOff w + tailOffset (swFmt w), 64) :: (if swFmt w = fmtKT2 then [(swOff w + 13 * (n * swStrip w), 13 * n)] else [])
  else []

/-- The bytes a TMAC reads at issue: of both its strips. -/
def macIssueReads (aw ww : Word) : List Ext := stripReads aw 16 ++ stripReads ww 32

/-- The guard's work at issue: the sample phase, the companion and its events (06 R204, R207, R217). DESIGN CHOICE (log 77):
one companion event for an instruction, naming the guard phase as its sample. -/
def State.macGuard (s : State) (c cls mode tile pc aOff : Nat) : State × Option (Nat × List Byte) :=
  let phase := s.cget c gPhase
  let s1 := if 1 ≤ mode then s.cset c gPhase (phase + 1) else s
  if 2 ≤ cls ∨ mode = 0 then (s1, none)
  else
    let en := decide (s.cget c gCompEn = 1)
    let comp := if en then s.companion c aOff else none
    match comp with
    | some x => (s1, some x)
    | none =>
      let g : GuardEv := ⟨cls, tile, 0, 0, phase, pc, phase⟩
      let s2 := if en then s1.cset c gCbad 1 else s1
      let s3 := if mode = 2 then s2.cset c gNocomp 1 else s2
      (if en || decide (mode = 2) then s3.guardEvent c 0x13 g else s3, none)

/-- TMAC (R172 to R176). DESIGN CHOICE (log 77): gov = 0b11 is reported before an illegal strip word, both being cause 0x02
(R199); an uncorrectable word in the companion's tail or data is a poison exception like any other read of the core (02 R50),
R200 and 06 R207 concerning the guard's own judgement. -/
def execTmac (c : Nat) (tile : Fin 8) (a b : Fin 32) (z : Bool) (gov : Fin 4) (s : State) : Out :=
  .next (s.issue c [a, b] [] (fun k =>
    let aw := k.sreg a
    let ww := k.sreg b
    let fn := 0x1 + (if z then 0x10 else 0) + 0x20 * gov.val
    let cls := macClass (swFmt ww)
    let mode := s.effMode c cls gov.val
    let reads := macIssueReads aw ww ++ s.companionReads c cls mode (swOff aw)
    if gov = 3 then s.raiseSync c 0x02 (encR 0x22 tile.val a.val b.val fn)
    else match firstFail (stripWord aw false) (stripWord ww true) with
    | some f => s.raiseSync c f.1 f.2
    | none =>
      -- what is judged is what the earlier instructions of the core leave (R167)
      if k.tqFull || !(k.extFree reads []) then s
      else match s.pairCheck c aw ww with
      | some f => s.raiseSync c f.1 f.2
      | none =>
      match reads.findSome? (fun e => s.spadPoison c e.1 e.2) with
      | some w => s.raiseSync c 0x05 w
      | none =>
        let fw := swFmt ww
        let g := s.macGuard c cls mode tile.val k.pc (swOff aw)
        let op : MacOp :=
          { pc := k.pc, tile := tile.val, z := z, aWord := aw, wWord := ww,
            aTail := s.spadBytes c (swOff aw + tailOffset (swFmt aw)) 64,
            wTail := s.spadBytes c (swOff ww + tailOffset fw) 64,
            kt2 := if fw = fmtKT2 then s.spadBytes c (swOff ww + 13 * (32 * swStrip ww)) 416 else [],
            cls := cls, mode := mode, thr := if cls ≤ 1 then s.cget c (gThr cls) else 0, phase := s.cget c gPhase,
            comp := g.2 }
        g.1.enqueue c (.mac op)))

end Sys2Proof.Machine
end

