-- ==== Sys2Proof/Machine/ResetOps.lean ====
section
/-! DEFINITION. Commands of resets, the scratchpad scrubber, the remap of a core, in-field scan, the known-answer rotation
and checker arbitration (01 R30; 02 R42 to R51, R75, R76; 06 R223; 16 R552 to R562; 17 R571 to R576). -/

namespace Sys2Proof.Machine

/-! ## Power caps and scratchpad errors -/

/-- PWR_CAP_WRITE: firmware writes SITE_CFGn; the cap comes into force at the next boundary, or at once while the sequencer
is stopped (R30; 10 R338). -/
def execPwrCapWrite (n : Nat) (w : Word) (s : State) : Out :=
  .next (
    if s.inSafe then s else
    if 63 < n then s
    else
      let s := s.checkReserved 16 (siteCfg n) w
      let b := classBudget n
      (s.set (fSitePwrCap n) (max (b / 2) (min b (bitsOf w 47 40)))).settleRegs)

/-- SCRATCHPAD_SCRUB_STEP of core c: the next word of each bank is read. `errs` are the banks whose word shows an error, and
whether it is uncorrectable. -/
def execScratchpadScrubStep (c : Nat) (errs : List (Nat × Bool)) (s : State) : Out :=
  .next (
    if s.absent c ∨ !(s.coreClock c) then s
    else
      let base := spadAddr c (64 * (s.core c).scrub)
      let found := (errs.filter (fun e => decide (e.1 < 8))).map (fun e => (base + 8 * e.1, e.2))
      let old := s.badWords.filter (fun w => !(found.any (fun x => x.1 == w.1) && !w.2))
      let new := (found.filter (fun x => !(old.any (fun w => w.1 == x.1)))).foldl (fun l x =>
        if l.any (fun (w : Nat × Bool) => w.1 == x.1) then l else l ++ [x]) old
      let s := ({ s with badWords := new }).modCore c (fun k => { k with scrub := (k.scrub + 1) % 512 })
      (new.filter (fun w => w.2 && decide (base ≤ w.1 ∧ w.1 < base + 64))).foldl (fun s w => s.poisonEvent w.1) s)

/-- SCRATCHPAD_CORRECT_WRITEBACK: the word at offset o of core c, read with a single-bit error, is good again (R50). -/
def execScratchpadCorrectWriteback (c o : Nat) (s : State) : Out :=
  .next { s with badWords := s.badWords.filter (fun w => !(w.1 == spadAddr c o && !w.2)) }

/-! ## Reset scopes (R552 to R556) -/

/-- A task is stopped by a reset: its tick's work and its faults are discarded; it is Aborted (R552; 09 R335). A record not
yet written is no record of the task any more: a full queue counts it and drops it. -/
def State.resetTask (s : State) (k : Nat) : State :=
  let u := s.tdTenant k
  let n := (s.task k).pend.length
  let busy := s.tstate k != tsIdle && s.tstate k != tsAborted && s.tstate k != tsCommitted
  let s := (s.discardStop k).modTask k (fun t => { t with pend := [], open_ := [], dropped := false })
  let s := if n = 0 then s else ((s.addSat (fFltOvf u) n).set (fFltPend u) (s.get (fFltPend u) - n)).set (fTstFpend k) 0
  let s := { s with faultWait := s.faultWait.map (fun (w : FaultWait) => if w.task = some k then { w with task := none } else w) }
  (if busy then s.addSat fOvrAbort 1 else s).setTstate k tsAborted

/-- Why a request is refused (R553); 0: it is accepted. -/
def State.rstRefusal (s : State) (w : Word) : Nat :=
  let scope := bitsOf w 31 29
  let target := bitsOf w 19 0
  if scope = 0 ∨ 4 < scope ∨ bitsOf w 63 36 ≠ 0 ∨ bitsOf w 28 20 ≠ 0 then 1
  else if scope = 4 then 0
  else if (scope = 1 ∧ s.absent target) ∨ (scope = 2 ∧ !(s.loaded (target % 1024))) ∨ (scope = 3 ∧ !(s.flag (fTenValid (bitsOf w 35 32)))) then 2
  else if s.flag fRstBusy then 3
  else if !s.ready then 4
  else 0

/-- A write of RST_CTL: a refused request shows its code, an accepted one of scope `scope` is carried out. -/
def State.rstWrite (s : State) (scope : Nat) (w : Word) (go : State → State) : State :=
  let asked := bitsOf w 31 29
  let reserved := decide (asked = 0 ∨ 4 < asked)
  if asked ≠ scope ∧ !(reserved && scope == 1) then s
  else
    let r := s.rstRefusal w
    if r ≠ 0 then (s.set fRstCode r).set fRstErr 1
    else go ((s.set fRstCode 0).set fRstErr 0)

def execResetCore (w : Word) (s : State) : Out :=
  .next (if s.inSafe then s else s.rstWrite 1 w (fun s =>
    let c := bitsOf w 19 0
    let s := match (s.core c).task with
      | some k => if s.loaded k then s.resetTask k else s
      | none => s
    (s.clearCore c).set fRstDone 1))

def execResetGroup (w : Word) (s : State) : Out :=
  .next (if s.inSafe then s else s.rstWrite 2 w (fun s =>
    let k := bitsOf w 9 0
    let cs := s.group k
    (cs.foldl State.clearCore (s.resetTask k)).set fRstDone 1))

/-- RESET_PARTITION: steps 1 and 2; the partition stays fenced until step 3 has ended. -/
def execResetPartition (w : Word) (s : State) : Out :=
  .next (if s.inSafe then s else s.rstWrite 3 w (fun s =>
    let u := bitsOf w 35 32
    let s := { (s.set fRstBusy 1).set fRstDone 0 with fencedTen := s.fencedTen ++ [u] }
    let s := s.modCro (fun c => { c with resetOf := some u, absorbed := 0 })
    (s.loadedTasks.filter (fun k => s.tdTenant k == u)).foldl State.resetTask s))

/-- The sender is a core of one of the tiles. -/
def fromTiles (ts : List Nat) (c : Nat) : Bool := isCore c && ts.contains (coreTile c)

/-- Faults of other tenants' tasks that met the fence of u's partition are resolved with retry (R555). -/
def State.retryFenced (s : State) (u : Nat) : State :=
  let hit (a : Nat) : Bool := match s.place a with
    | .stack t _ => s.tileOwner t == some u
    | .core c _ => s.coreTenant c == some u
    | _ => false
  let l := s.loadedTasks.flatMap (fun k =>
    if s.tdTenant k = u then []
    else ((s.task k).open_.filter (fun x => x.2.1 == 0x06 && hit x.2.2)).map (fun x => (s.tdTenant k, x.1)))
  l.foldl (fun s x => s.resolve x.1 x.2 false) s

/-- PARTITION_RESET_TIMEOUT: step 3 ends, all answers in or 100 µs past; steps 4 to 6 follow (R554, R392). -/
def execPartitionResetTimeout (s : State) : Out :=
  .next (match s.cro.resetOf with
    | none => s
    | some u =>
      let ts := s.tenTiles u
      let mine := s.net.filter (fun x => fromTiles ts x.2.src)
      let mineToo (a : Await) : Bool := !a.fw && a.tenant == u && decide (a.site % 16 ≤ 11) && ts.contains (siteTile a.site)
      let waits := s.hub.awaits.filter mineToo
      let dropped := mine.length + waits.length
      let s := s.addSat fRstDropped dropped
      let net := (s.net.filter (fun x => !(fromTiles ts x.2.src && x.2.kind.isRequest && fromTiles ts x.2.dst))).map (fun x =>
        if fromTiles ts x.2.src then (x.1, { x.2 with src := goneSrc x.2.src }) else x)
      let s := { s with net := net, dma := s.dma.filter (fun d => !(fromTiles ts d.2.core)) }
      let s := s.modHub (fun h => { h with awaits := h.awaits.filter (fun a => !(mineToo a)) })
      let s := ts.foldl State.clearTile s
      let s := { s with fencedTen := s.fencedTen.filter (fun v => v != u) }
      let s := s.raiseBoth (some u) 0x80 [] (packW [(min dropped 65535, 0), (s.cro.absorbed, 16)])
      let s := ((s.set fRstBusy 0).set fRstDone 1).modCro (fun c => { c with resetOf := none })
      (s.retryFenced u).tearResume u)

def execResetWhole (w : Word) (s : State) : Out := .next (s.rstWrite 4 w State.wholeReset)

/-- RST_N_LOW: held low for at least 1 µs. -/
def execRstNLow (s : State) : Out :=
  .next (if !s.cro.aux then s else (s.modCro (fun c => { c with rstN := false })).wholeReset)

/-- LC_RESET_DELAY: 1 ms after a life-cycle transition (15 R528). -/
def execLcResetDelay (s : State) : Out := .next (if s.cro.lcDelay then s.wholeReset else s)

/-- RECOVERY_RESET_DELAY: 1 ms after HEP_RECOV shows done (R545). -/
def execRecoveryResetDelay (s : State) : Out := .next (if s.cro.recDelay then s.wholeReset else s)

/-! ## Physical cores (02 R42; 17 R573) -/

/-- A maintenance run may not use the core: its task is at work (R557, R573). -/
def State.coreTaken (s : State) (p : Nat) : Bool :=
  match s.logicalOf p with
  | none => false
  | some c => match (s.core c).task with
    | none => false
    | some k => let st := s.tstate k
      st == tsBound || st == tsRunning || st == tsCarried || (s.task k).extended

/-! ## Outcome of tests (R571, R574 to R576) -/

/-- Part of a core by the signatures that differ: primary, shadow, vector, scalar; 0 the whole where several do. -/
def partOf (mask : Nat) : Nat :=
  if mask = 1 then 1 else if mask = 2 then 2 else if mask = 4 then 3 else if mask = 8 then 4 else 0

/-- A transient record of the unit lies within 24 h of now (R571). -/
def State.transientBefore (s : State) (uclass unit : Nat) : Bool :=
  s.logWait.any (fun r => r.kind == 2 && r.uclass == uclass && r.unit == unit)
    || s.cro.log.any (fun r =>
      let w := r.headD 0
      bitsOf w 23 16 == 2 && bitsOf w 31 24 == uclass && bitsOf w 63 32 == unit % 2 ^ 32
        && (bitsOf (r.getD 1 0) 15 0 != s.cro.boots % 2 ^ 16
          || decide ((s.now - s.cro.bootAt) / 100000000 ≤ bitsOf (r.getD 1 0) 47 16 + 86400)))

/-- The unit is wrong for good: a core that serves is retired, a free spare is marked failed. -/
def State.retirePhys (s : State) (p : Nat) : State :=
  match s.logicalOf p with
  | some c => if s.cro.retire.contains c then s else s.modCro (fun x => { x with retire := x.retire ++ [c] })
  | none => if s.freeRowSpare p then s.spareBad p else s

/-- The decision on part `part` of physical core p: permanent, or a transient, which a second one within 24 h makes
permanent (R571, R574, R576). -/
def State.judge (s : State) (p part good : Nat) (wrong : Bool) : State :=
  let c := s.namedCore p
  let unit := coreUnit c part (p % 8192 % 84)
  let d := s.tick32 + (good % 2 ^ 32) * 2 ^ 32
  let perm := wrong || s.transientBefore 0x01 unit
  let s := if wrong then s else s.logLater 0x02 0x01 unit d
  let s := if perm then (s.logLater 0x03 0x01 unit d).retirePhys p else s
  s.raiseRel (s.coreTenant c).toList 0x95 (if perm then 1 else 0) unit good 0

/-- Tick and time of the last passing run of a physical core. -/
def State.lastPass (s : State) (p : Nat) : Nat × Nat := (smLookup s.cro.katPass p).getD (0, s.cro.katBase)

def State.katPassed (s : State) (p : Nat) : State :=
  s.modCro (fun c => { c with katPass := smInsert c.katPass p (s.tick, s.now) })

/-- A first failing run: the core runs again, at once where the guard band leaves time for 3,200 cycles, else as the first
in line of the next one (R574). -/
def State.firstFail (s : State) (p mask : Nat) : State :=
  let n := s.get (fClkNcur (tileDom (p / 8192)))
  let room := s.seq.inGuard && decide (n ≠ 0 ∧ 1000 * s.get fTsqToff + s.seq.ns + 256000 / n ≤ 1000 * s.get fTsqT)
  s.modCro (fun c => { c with
    katAgain := c.katAgain.filter (fun x => x.1 != p) ++ [(p, mask)]
    kat := c.kat.filter (fun x => x != p) ++ (if room then [p] else [])
    katHeld := if room then c.katHeld else p :: c.katHeld.filter (fun x => x != p) })

/-! ## The known-answer rotation (R573, R574) -/

/-- The next runners of a line: those that run, those passed over, the rest of the line. -/
def State.pickKat (s : State) : Nat → List Nat → List Nat → List Nat → List Nat × List Nat × List Nat
  | 0, line, run, past => (run, past, line)
  | _ + 1, [], run, past => (run, past, [])
  | n + 1, p :: line, run, past =>
    if (s.logicalOf p).isNone ∧ !(s.freeRowSpare p) then s.pickKat (n + 1) line run past
    else if run.contains p ∨ past.contains p then s.pickKat (n + 1) line run past
    else if s.coreTaken p then s.pickKat (n + 1) line run (past ++ [p])
    else s.pickKat n line (run ++ [p]) past

/-- Known-answer runs of a tile in one guard band. -/
def State.katCount (s : State) : Nat :=
  let K := 2000000 / s.get fTsqT
  (6720 + K - 1) / K

/-- Carried tasks whose cores a known-answer rotation passes over (10 R369). -/
def State.missed (s : State) (past : List Nat) : List Nat :=
  (past.filterMap (fun p => (s.logicalOf p).bind (fun c => (s.core c).task))).eraseDups.filter (fun k =>
    s.tstate k == tsCarried)

/-- Retraining holds a channel of tile t's stack: it comes before known-answer runs and scan slices (10 R369). -/
def State.retraining (s : State) (t : Nat) : Bool := !((s.stack t).held.isEmpty)

/-- KAT_RUN of tile t. -/
def execKatRun (t : Nat) (s : State) : Out :=
  .next (
    if 47 < t ∨ !s.seq.inGuard ∨ s.get (fSiteState (tileSite t)) = 5 ∨ s.cro.kat.any (fun p => p / 8192 == t)
        ∨ s.retraining t ∨ s.sweepDue then s
    else
      let held := s.cro.katHeld.filter (fun p => p / 8192 == t)
      let at_ := smGetD s.cro.katNext 0 t
      let rot := (List.range 6720).map (fun i => 8192 * t + (at_ + i) % 6720)
      let r := s.pickKat s.katCount (held ++ rot) [] []
      let used := 6720 + held.length - r.2.2.length
      (s.missed r.2.1).foldl State.missSlot <| s.modCro (fun c => { c with
        kat := c.kat ++ r.1
        katNext := smSetD c.katNext 0 t ((at_ + (used - held.length)) % 6720)
        katHeld := c.katHeld.filter (fun p => p / 8192 != t) ++ r.2.1 ++ (r.2.2.take (held.length - used)) }))

/-- KAT_RESULT: the run of physical core p ends; `mask` names the signatures that differ: 1 primary, 2 shadow, 4 vector,
8 scalar. -/
def execKatResult (p mask : Nat) (s : State) : Out :=
  .next (
    if !(s.cro.kat.contains p) then s
    else
      let m := mask % 16
      let good := (s.lastPass p).1
      let before := smLookup s.cro.katAgain p
      if m ≠ 0 ∧ before.isNone then s.firstFail p m
      else
        let s := s.modCro (fun c => { c with
          kat := c.kat.filter (fun x => x != p), katAgain := c.katAgain.filter (fun x => x.1 != p) })
        let s := if m = 0 then s.katPassed p else s
        match before with
        | none => s
        | some b => if m = 0 then s.judge p (partOf b) good false else s.judge p (partOf m) good true)

/-! ## In-field scan (R557 to R560) -/

/-- The physical cores of block `16 × t + g`. -/
def sliceCores (b : Nat) : List Nat :=
  let t := b / 16
  let r := b % 16 / 4
  (List.range 420).map (fun i => physCore t (20 * r + i / 21) (21 * (b % 4) + i % 21))

/-- Scan may run at all: enabled, with a pattern store, in a permitted state, in the guard band (R557, R543). -/
def State.scanOn (s : State) : Bool :=
  s.flag fFscanEn && !(s.flag fFscanNostore) && decide (1 ≤ s.get fLcsState ∧ s.get fLcsState ≤ 4) && s.seq.inGuard

/-- The slice may run now; `rail`: its rail lies within 2 % of its set point. -/
def State.sliceFits (s : State) (b : Nat) (rail : Bool) : Bool :=
  let t := b / 16
  let m := tileDom t
  let k := s.clk m
  rail && !(s.retraining t) && !((sliceCores b).any s.coreTaken) && s.loadedTasks.all (fun k => !(s.task k).extended)
    && !((sliceCores b).any (fun p => match s.logicalOf p with
      | some c => (s.core c).fenced || s.cro.retire.contains c
      | none => false))
    && (match s.tileOwner t with
      | some u => !(s.fencedTen.contains u)
      | none => true)
    && s.get (fSiteState (tileSite t)) != 5 && s.flag (fClkRun m) && !(s.flag (fClkSrc m)) && decide (16 ≤ k.n) && k.n == s.nEff m
    && decide (signed16 (s.get (fThmSite (tileSite t))) ≤ 95 * 64) && decide (s.get fTsqToff + 400 ≤ s.get fTsqT)

/-- The position moves to the next block, and after a round to the next set. -/
def State.scanNext (s : State) : State :=
  let b := s.get fFscanBlock
  if b + 1 < 768 then s.set fFscanBlock (b + 1)
  else (s.set fFscanBlock 0).set fFscanSet ((s.get fFscanSet + 1) % 64)

/-- SCAN_SLICE: the next block is visited. `bad` are the places in the slice (21 × row + column) whose signature differs,
`rail` whether the rail is steady, `aborted` whether a throttle, a ramp or a rail excursion comes during the shift. -/
def execScanSlice (bad : List Nat) (rail aborted : Bool) (s : State) : Out :=
  .next (
    -- without a store scan stays off (R543)
    if s.flag fFscanNostore then s
    else
      let b := s.get fFscanBlock
      let set := s.get fFscanSet
      -- the fault sweep comes first (10 R369); a visit that finds a condition unmet is counted
      if !s.scanOn ∨ s.sweepDue ∨ !(s.sliceFits b rail) then (s.addSat fFscanSkip 1).scanNext
      else if aborted then (s.addSat fFscanAbort 1).scanNext
      else
        let wrong := ((sliceCores b).zipIdx.filter (fun x => bad.contains x.2)).map Prod.fst
        let live := wrong.filter (fun p => (s.logicalOf p).isSome || s.freeRowSpare p)
        let s := (sliceCores b).foldl (fun s p => if wrong.contains p then s else s.katPassed p) s
        let s := if live = [] then s.addSat fFscanPass 1 else s.addSat fFscanFail 1
        let s := live.foldl (fun s p =>
          let s := match s.logicalOf p with
            | some c => s.raiseX 16 0x81 [] (packW [(c, 0), (set, 20)])
            | none => s
          s.firstFail p 0) s
        s.scanNext)

/-! ## The remap of a core (02 R45, R75, R76) -/

/-- CORE_REMAP of a core that arbitration has retired: the fence and the stop of its task; with `fin`, once the stop is
complete, the substitution. -/
def execCoreRemap (c : Nat) (fin : Bool) (s : State) : Out :=
  .next (
    if !(s.cro.retire.contains c) ∨ s.katRuns c then s
    else if s.get (fSiteState (tileSite (coreTile c))) = 5 then
      -- the tile is out of service: nothing is left to replace (R77)
      s.modCro (fun x => { x with retire := x.retire.filter (fun y => y != c) })
    else
      let s :=
        if (s.core c).fenced then s
        else
          let s := s.modCore c (fun k => { k with fenced := true })
          match (s.core c).task with
          | some k => if s.loaded k then s.stopForRepair k else s
          | none => s
      if !fin ∨ s.coreBusy c then s
      else
        let col := s.servedBy c
        let u := s.coreTenant c
        let r := s.substitute c
        let s := ((r.1.clearCore c).modCore c (fun k => { k with fenced := false })).modCro (fun x => { x with
          retire := x.retire.filter (fun y => y != c) })
        if r.2 then ((s.tellAbsent u (packW [(c, 0)])).logLater 0x04 0x01 (coreUnit c 0 col) 0).capacityFell (.core c)
        else (s.raiseBoth u 0x02 [] (packW [(c, 0), (s.servedBy c, 20)])).logLater 0x01 0x01 (coreUnit c 0 col) 0)

/-! ## Checker arbitration of a shadow mismatch (06 R223; R575, R576) -/

/-- The block sum of a mismatch record's words 4 to 21, formed a third time (R100, R219). -/
def recordSum (ws : List Word) : Int :=
  let w4 := ws.getD 4 0
  let w5 := ws.getD 5 0
  let row (fmt ent : Nat) (i0 : Nat) : List Int :=
    let bs := (List.range 8).flatMap (fun i => bytesLE 8 (ws.getD (i0 + i) 0).toNat)
    gridRow fmt { sscale := 0, fmt := fmt, scnt := 0, spres := if ent = 0 then 0 else 1, entries := [ent] } (fun o => bs.getD o 0) 0
  blockSum (row (bitsOf w4 51 48) (bitsOf w5 31 0) 6) (row (bitsOf w4 55 52) (bitsOf w5 63 32) 14)

/-- CHECKER_ARBITRATION of a mismatch record; `fails` are the lane sets that fail the known-answer test: 1 primary,
2 shadow. -/
def execCheckerArbitration (ws : List Word) (fails : Nat) (s : State) : Out :=
  .next (
    let w0 := ws.headD 0
    let c := bitsOf w0 51 32
    if bitsOf w0 23 16 ≠ 0x12 ∨ s.absent c ∨ !s.cro.running then s
    else
      let p := physCore (coreTile c) (coreY c) (s.servedBy c)
      let third := BitVec.ofInt 32 (recordSum ws)
      let S := BitVec.ofNat 32 (bitsOf (ws.getD 3 0) 31 0)
      let S' := BitVec.ofNat 32 (bitsOf (ws.getD 3 0) 63 32)
      let suspects := if third = S' then [1] else if third = S then [2] else [1, 2]
      let good := (s.lastPass p).1
      if fails % 4 = 0 then suspects.foldl (fun s part => s.judge p part good false) s
      else ([1, 2].filter (fun part => fails / part % 2 == 1)).foldl (fun s part => s.judge p part good true) s)

end Sys2Proof.Machine
end

