-- ==== Sys2Proof/Machine/Reliability.lean ====
section
/-! DEFINITION. Commands of the reliability guarantee, the spare-repair manager, the fault history log and the weight
digests (17 R563 to R580). -/

namespace Sys2Proof.Machine

/-! ## The conditions of the guarantee (R565) -/

/-- The coolant report is at most 5 s old and within limits (18 R618, R619). -/
def State.coolantOk (s : State) : Bool :=
  decide (s.get fCoolAge ≤ 50 ∧ 150 ≤ s.get fCoolTin ∧ s.get fCoolTin ≤ 350 ∧ 120 ≤ s.get fCoolFlow)

/-- Valid tenants whose floors are off in a class 0 to 2 (06 R225). -/
def State.partsOut (s : State) : Nat :=
  (((List.range 16).filter (fun u =>
    s.flag (fTenValid u) && (List.range 3).any (fun cls => s.get (fFloor u cls) == 0))).map (fun u => 2 ^ u)).foldl (· + ·) 0

/-- Bytes of stack t's settled ranges. -/
def State.settledBytes (s : State) (t : Nat) : Nat :=
  (((List.range 256).filter (fun r => s.flag (fRngValid r) && s.flag (fRngSettled r) && s.get (fRngStack r) == t)).map (fun r =>
    s.get (fRngNg r) * 2 ^ 20)).foldl (· + ·) 0

/-- The digest set fits its interval (R577). -/
def State.digestFits (s : State) : Bool :=
  (List.range 48).all (fun t => decide (s.settledBytes t ≤ s.get fSnpInterval * ((s.get fTsqGuard - 80) * 2310000)))

def State.digestOk (s : State) : Bool := s.flag fSnpEn && s.digestFits && s.peers.late.isEmpty

/-- Cores in use or free row spares whose last passing known-answer run is older than 2.0 s. -/
def State.lateCores (s : State) : Nat :=
  ((List.range 48).map (fun t => ((List.range 6720).filter (fun i =>
    let p := 8192 * t + i
    ((s.logicalOf p).isSome || s.freeRowSpare p) && decide ((s.lastPass p).2 + 200000000 < s.now))).length)).foldl (· + ·) 0

/-- REL_STAT follows the conditions; a change raises event 0x90, a rise of kat_late event 0x94. -/
def State.showRel (s : State) (supply : Bool) : State :=
  let late := min s.lateCores 65535
  let out := s.partsOut
  let bit (b : Bool) (k : Nat) : Nat := if b then 2 ^ k else 0
  let c := bit (s.flag fBootLogok) 5 + bit s.digestOk 4 + bit (out == 0) 3 + bit s.coolantOk 2 + bit supply 1
  let w := packW [(late, 48), (out, 32), (c, 0), (if c = 62 ∧ late = 0 then 1 else 0, 0)]
  let old := s.rd relStat
  let s := s.wr relStat w
  let s := if bitsOf old 63 48 < late then s.raiseRel [] 0x94 0 0 0 0 else s
  if bitsOf old 47 0 = bitsOf w 47 0 then s else (s.raiseRel [] 0x90 0 0 0 w).logLater 0x08 0x0A 0 w.toNat

/-- RELIABILITY_CONDITION_CHANGE; `supply`: every supply lies within its limits. -/
def execReliabilityConditionChange (supply : Bool) (s : State) : Out := .next (if s.cro.running then s.showRel supply else s)

/-- An image write that was suspended for the log goes on once no record waits (19 R631). -/
def State.flashResume (s : State) : State :=
  match s.logWait, s.cro.flashHeld with
  | [], some image => ((s.modCro (fun c => { c with flashHeld := none })).emit "flash-write" [] image).mgtAnswer "pldm-response" [] []
  | _, _ => s

/-- LOG_WRITE: firmware writes the oldest record that waits; `ok`: it reads back (R570). A write that does not leaves the
older half in force (19 R630). -/
def execLogWrite (ok : Bool) (s : State) : Out :=
  .next (match s.logWait with
    | [] => s
    | r :: l =>
      if !s.cro.running then s
      else
        let s := { s with logWait := l }
        let s := if ok then s.logEnter (s.logRecord r.kind r.uclass r.unit r.detail) else s.set fBootLogok 0
        s.pins.flashResume)

/-! ## Bonds (R566, R567) -/

/-- BOND_LANE_REPAIR: lane i of direction d of site n's bond fails (lane 33 × g + j; j = 32 is group g's spare). A whole
group's spare takes over. -/
def execBondLaneRepair (n d i : Nat) (s : State) : Out :=
  .next (
    let key := 2048 * (64 * d + n) + i
    if 63 < n ∨ 1 < d ∨ 1055 < i ∨ s.cro.lanes.contains key ∨ !(s.siteServes n) then s
    else
      let s := s.modCro (fun c => { c with lanes := c.lanes ++ [key] })
      if 1 < ((s.bondLanes n d).filter (fun x => x / 33 == i / 33)).length then s
      else
        ((s.set (fSiteSpareUsed n) (s.bondSpares n)).raiseRel (s.siteTenants n) 0x91 0 n 0
          (BitVec.ofNat 64 (s.get (fSiteWidth n)))).logLater 0x01 0x04 n (key % 2048 + 2048 * d))

/-- BOND_WIDTH_STEP: the site's bond narrows to what its groups allow. -/
def execBondWidthStep (n : Nat) (s : State) : Out :=
  .next (
    if 63 < n ∨ !(s.siteServes n) then s
    else
      let w := max (bondWidth (s.bondLanes n 0)) (bondWidth (s.bondLanes n 1))
      if w ≤ s.get (fSiteWidth n) then s
      else
        let us := s.siteTenants n
        let s := (s.set (fSiteWidth n) w).set (fSiteSpareUsed n) (s.bondSpares n)
        let s := (s.raiseRel us 0x91 0 n 0 (BitVec.ofNat 64 w)).logLater 0x07 0x04 n w
        if w = 3 then (s.siteOut n).capacityFell .net
        else (s.set (fSiteState n) 3).capacityFell .net)

/-! ## Control cores and regulators (R568; 18 R606) -/

/-- CONTROL_CORE_OFFLINE: a write of LSP_CC. -/
def execControlCoreOffline (w : Word) (s : State) : Out :=
  .next (
    if s.inSafe then s else
    let s := s.checkReserved 16 lspCc w
    let s := s.writeFields lspCc (2 ^ 64 - 1) w
    let p := bitsOf w 4 0
    if bitsOf w 5 5 = 0 then s
    else if s.get fDomActive / 2 ^ p % 2 = 0 ∨ s.flag fCcBusy then s.set fCcErr 1
    else
      let s := s.set fDomActive (s.get fDomActive - 2 ^ p)
      let spare := s.cro.ccFree.head?
      let s := s.modCro (fun c => { c with
        cc := c.cc.map (fun x => if x = some p then spare else x), ccFree := c.ccFree.drop 1 })
      let s := match spare with
        | some q => (s.set fDomActive (s.get fDomActive + 2 ^ q)).set fCcSpares s.cro.ccFree.length
        | none => s
      let s := (s.set fCcDone 1).raiseRel [] 0x92 0 p 0 0
      (s.logLater (if spare.isSome then 0x01 else 0x03) 0x07 p 0).pins)

/-- REGULATOR_PHASE_FAULT: one phase of regulator r fails. -/
def execRegulatorPhaseFault (r : Nat) (s : State) : Out := .next (if 259 < r ∨ !s.cro.running then s else s.phaseFault r)

/-! ## Weight digests (R577 to R580) -/

/-- The write is accepted when the set of `t` fits; else it changes nothing and shows its code. -/
def State.snpTry (s t : State) (bad : Bool) : State :=
  let code := if bad then 2 else if t.digestFits then 0 else 1
  let base := if code = 0 then t else s
  (base.set fSnpCode code).set fSnpErr (if code = 0 then 0 else 1)

/-- The package is alone on its board: slot 7, or a reserved value (19 R626). -/
def State.lone (s : State) : Bool := decide (4 < s.get fMgtSlot)

/-- SNP_CFG_WRITE. -/
def execSnpCfgWrite (w : Word) (s : State) : Out :=
  .next (
    if s.inSafe then s else
    let s := s.checkReserved 16 snpCfg w
    if bitsOf w 55 52 ≠ 0 ∧ s.lone then s.refuseWrite (regAddr snpCfg) 2
    else
    s.snpTry (s.writeFields snpCfg (2 ^ 64 - 1) w) (bitsOf w 15 0 == 0))

/-- The range stands within its stack. -/
def State.rngBad (s : State) (w : Word) : Bool :=
  bitsOf w 63 63 == 1 && decide (47 < bitsOf w 60 55 ∨ bitsOf w 36 19 = 0 ∨ s.granules < bitsOf w 54 37 + bitsOf w 36 19)

def State.showLate (s : State) : State := s.set fSnpLate s.peers.late.length

/-- SNP_RNG_WRITE of word i of range r. -/
def execSnpRngWrite (r i : Nat) (w : Word) (s : State) : Out :=
  .next (
    if s.inSafe then s else
    if 255 < r ∨ 7 < i then s
    else
      let s := s.checkReserved 16 (snpRng r i) w
      if 1 < i then s
      else
        let t := s.writeFields (snpRng r i) (2 ^ 64 - 1) w
        let t := t.modPeers (fun p => { p with late := p.late.filter (fun x => x != r) })
        (s.snpTry t.showLate (i == 0 && s.rngBad w)))

/-- The digest lane that reads stack t: its own, or the next one in service. -/
def State.laneOf (s : State) (t : Nat) : Nat :=
  (((List.range 48).map (fun i => (t + i) % 48)).find? (fun x => !(s.peers.lost.contains x))).getD t

/-- Digest as the four words of SNP_RNGr W2 to W5. -/
def State.putDigest (s : State) (r dig : Nat) : State :=
  (List.range 4).foldl (fun s j => s.wr (snpRng r (2 + j)) (BitVec.ofNat 64 (dig / 2 ^ (64 * j)))) s

/-- The golden digest of a range. -/
def State.goldOf (s : State) (r : Nat) : Nat :=
  ((List.range 4).map (fun j => (s.rd (snpGold r j)).toNat * 2 ^ (64 * j))).foldl (· + ·) 0

/-- Keeps a digest: of port q, or of this package (4). -/
def State.keepDigest (s : State) (q r lgen dig : Nat) : State :=
  s.modPeers (fun p => { p with
    digests := p.digests.filter (fun x => !(x.1 == q && x.2.1 == r)) ++ [(q, r, lgen, dig)] })

/-- Tenants with a range entry that maps the range. -/
def State.mappers (s : State) (r : Nat) : List Nat :=
  let a := s.get (fRngStack r) * 2 ^ 38 + s.get (fRngFirst r) * 2 ^ 20
  (((s.targeting a (a + s.get (fRngNg r) * 2 ^ 20)).map Prod.fst).filter (fun c => decide (c < 16))).eraseDups

/-- The digests known of a range at its load generation. -/
def State.rngDigests (s : State) (r : Nat) : List (Nat × Nat) :=
  (s.peers.digests.filter (fun x => x.2.1 == r && x.2.2.1 == s.get (fRngLgen r))).map (fun x => (x.1, x.2.2.2))

/-- The digest that the right copies show, where there is one: golden, or of a strict majority of three or more. -/
def State.rightDigest (s : State) (r : Nat) : Option Nat :=
  if s.flag (fRngGset r) then some (s.goldOf r)
  else
    let l := s.rngDigests r
    if l.length < 3 then none
    else (l.map Prod.snd).find? (fun d => decide (l.length < 2 * (l.filter (fun x => x.2 == d)).length))

/-- The stack, the offset and the length of a digest range. -/
def State.rngRun (s : State) (r : Nat) : Nat × Nat × Nat :=
  (s.get (fRngStack r), s.get (fRngFirst r) * 2 ^ 20, s.get (fRngNg r) * 2 ^ 20)

/-- A read of the range waits for its stack: thermal hold, retraining, a granule on its way out (08 R281, R285, R301). -/
def State.rngWaits (s : State) (r : Nat) : Bool :=
  s.runServes (s.rngRun r).1 (s.rngRun r).2.1 (s.rngRun r).2.2 && s.runWaits (s.rngRun r).1 (s.rngRun r).2.1 (s.rngRun r).2.2 false

/-- The digest of a range's bytes as another lane reads them; none where a burst is uncorrectable or a part of the range does
not answer (08 R294, R298). -/
def State.rangeDigest (s : State) (r : Nat) : State × Option Nat :=
  if !(s.runServes (s.rngRun r).1 (s.rngRun r).2.1 (s.rngRun r).2.2) then (s, none)
  else
    let x := s.readStack (s.rngRun r).1 (s.rngRun r).2.1 (s.rngRun r).2.2 0x4
    (x.1, x.2.map Config.sm3)

/-- The data of a range has diverged (R579). -/
def State.diverged (s : State) (r : Nat) : State :=
  let good := smGetD s.peers.agreed 0 r
  let us := s.mappers r
  ((s.set (fRngSettled r) 0).raiseRel us 0x96 0 r good 0).logLater 0x0A 0x0A r (s.tick32 + good * 2 ^ 32)

/-- A digest lane is judged (R576); `bad`: it fails its known-answer test. -/
def State.judgeLane (s : State) (t good : Nat) (bad : Bool) : State :=
  let d := s.tick32 + (good % 2 ^ 32) * 2 ^ 32
  let perm := bad || s.transientBefore 0x09 t
  let s := if bad then s else s.logLater 0x02 0x09 t d
  let s := if perm then (s.logLater 0x03 0x09 t d).modPeers (fun p => { p with
      lost := if p.lost.contains t then p.lost else p.lost ++ [t] }) else s
  s.raiseRel [] 0x95 (if perm then 1 else 0) t good 0

/-- The package compares the digests of a settled range, and where its own copy is wrong it arbitrates (R578, R579). -/
def State.compareDigests (s : State) (r : Nat) (bad : Bool) : State :=
  let l := s.rngDigests r
  match (l.find? (fun x => x.1 == 4)).map Prod.snd with
  | none => s
  | some own =>
    if !(s.flag (fRngValid r) && s.flag (fRngSettled r)) then s
    else
      let right := s.rightDigest r
      let agree := if s.flag (fRngGset r) then right == some own else l.all (fun x => x.2 == own)
      if agree then
        if l.length < 2 ∧ !(s.flag (fRngGset r)) then s
        else s.modPeers (fun p => { p with agreed := smInsert p.agreed r s.tick32 })
      else if right = some own then s
      else
        let x := s.rangeDigest r
        match x.2 with
        | none => x.1
        | some third =>
          if right = some third then x.1.judgeLane (s.laneOf (s.get (fRngStack r))) (smGetD s.peers.agreed 0 r) bad
          else x.1.diverged r

/-- DIGEST_PASS_DONE of range r. `faulty`: what a faulty lane gives in place of the digest; `bad`: the lane fails its
known-answer test. -/
def execDigestPassDone (r : Nat) (faulty : Option Nat) (bad : Bool) (s : State) : Out :=
  .next (
    if 255 < r ∨ s.inSafe ∨ !(s.flag fSnpEn) ∨ !(s.flag (fRngValid r)) ∨ !(s.flag (fRngSettled r)) ∨ s.rngWaits r then s
    else
      let x := s.rangeDigest r
      match x.2 with
      | none => x.1
      | some d =>
        let dig := faulty.getD d % 2 ^ 256
        let lgen := s.get (fRngLgen r)
        let s := ((x.1.putDigest r dig).set (fRngPtick r) s.tick32).addSat fSnpPasses 1
        let s := (s.modPeers (fun p => { p with late := p.late.filter (fun y => y != r) })).showLate
        let s := (List.range 4).foldl (fun s q =>
          if s.get fSnpPeers / 2 ^ q % 2 = 1 then s.frame q 0x06 [r, lgen, dig] [] else s) s
        (s.keepDigest 4 r lgen dig).compareDigests r bad)

/-- DIGEST_RANGE_LATE of range r. -/
def execDigestRangeLate (r : Nat) (s : State) : Out :=
  .next (
    if 255 < r ∨ !(s.flag fSnpEn) ∨ !(s.flag (fRngValid r)) ∨ !(s.flag (fRngSettled r)) ∨ s.peers.late.contains r
        ∨ (s.tick32 + 2 ^ 32 - s.get (fRngPtick r)) % 2 ^ 32 ≤ s.get fSnpInterval then s
    else (s.modPeers (fun p => { p with late := p.late ++ [r] })).showLate)

/-- DIGEST: a frame of port q arrives; `bad`: should this package's lane be tested, it fails. -/
def execDigestFrame (q r lgen dig : Nat) (bad : Bool) (s : State) : Out :=
  .next (
    if 255 < r ∨ s.inSafe ∨ !(s.peerUp q) ∨ s.get fSnpPeers / 2 ^ q % 2 = 0 ∨ s.rngWaits r then s
    else (s.keepDigest q r lgen (dig % 2 ^ 256)).compareDigests r bad)

/-- FETCH: a sibling at port q asks for n bursts of granule g of stack t from burst b on (R580). -/
def execFetchFrame (q t g b n : Nat) (s : State) : Out :=
  .next (
    if s.inSafe ∨ !(s.peerUp q) then s
    else if 47 < t ∨ s.granules ≤ g ∨ 4096 < b + n ∨ !(s.runServes t (g * 2 ^ 20 + 256 * b) (256 * n)) then
      s.frame q 0x09 [t, g, b, 0] []
    else if s.runWaits t (g * 2 ^ 20 + 256 * b) (256 * n) false then s
    else
      let x := s.readStack t (g * 2 ^ 20 + 256 * b) (256 * n) 0x2
      match x.2 with
      | some bs => x.1.frame q 0x09 [t, g, b, n] bs
      | none => x.1.frame q 0x09 [t, g, b, 0] [])

/-- The granule lies in a valid digest range. -/
def State.inRange (s : State) (t g : Nat) : Bool :=
  (List.range 256).any (fun r => s.flag (fRngValid r) && s.get (fRngStack r) == t
    && decide (s.get (fRngFirst r) ≤ g ∧ g < s.get (fRngFirst r) + s.get (fRngNg r)))

/-- FDATA: whole bursts for a FETCH arrive and the reload writes them; no data: an error. -/
def execFdataFrame (q t g b : Nat) (data : List Byte) (s : State) : Out :=
  .next (
    if s.inSafe ∨ !(s.peerUp q) ∨ !(s.inRange t g) ∨ data.length % 256 ≠ 0 ∨ 2 ^ 20 < 256 * b + data.length
        ∨ !(s.runServes t (g * 2 ^ 20 + 256 * b) data.length) ∨ s.runWaits t (g * 2 ^ 20 + 256 * b) data.length true then s
    else (s.writeStack t (g * 2 ^ 20 + 256 * b) data).1)

end Sys2Proof.Machine
end

