-- ==== Sys2Proof/Machine/Twin.lean ====
section
/-! DEFINITION. Commands of the twin: the mirror of a tick's commits, pairing, failover, and the frames of the peer ports
(10 R358; 17 R581 to R588; 19 R637). -/

namespace Sys2Proof.Machine

/-! ## The mirror of the active (R583, R584) -/

/-- The tenant is mirrored. -/
def State.mirrored (s : State) (u : Nat) : Bool := s.get fMirTenants / 2 ^ u % 2 == 1

/-- Header fields of the record image `bs`: valid, bsel, tenant; the DVA of bulk state A or B. -/
def recValid (bs : List Byte) : Bool := (bs.getD 2 0).toNat % 2 == 1
def recBsel (bs : List Byte) : Nat := (bs.getD 2 0).toNat / 2 % 2
def recTenant (bs : List Byte) : Nat := (bs.getD 2 0).toNat / 16
def recBulk (bs : List Byte) (b : Bool) : Nat := natLE ((bs.drop (if b then 24 else 16)).take 6)

def State.record (s : State) (n : Nat) : List Byte := s.bytes (recKey n) 1024

/-- Valid records and slots of the mirrored tenants. -/
def State.mirRecords (s : State) : List Nat :=
  (List.range 10240).filter (fun n =>
    let h := s.bytes (recKey n) 3
    recValid h && s.mirrored (recTenant h))
def State.mirSlots (s : State) : List Nat :=
  (List.range 64).filter (fun n => s.flag (fSlotValid n) && s.mirrored (s.get (fSlotTenant n)))

/-- Bytes of the largest possible mirror. -/
def State.mirBytes (s : State) : Nat :=
  s.mirRecords.length * (1024 + 256 * s.get fMirBulk) + (s.mirSlots.map (fun n => 256 * s.get (fMirSlotLen n))).foldl (· + ·) 0

/-- MIR_CFG_WRITE: a write of MIR_CFG, or of MIR_SLOTn. -/
def execMirCfgWrite (n : Option Nat) (w : Word) (s : State) : Out :=
  .next (
    if s.inSafe then s else
    let off := match n with
      | none => mirCfg
      | some k => mirSlot (k % 64)
    let s := s.checkReserved 16 off w
    let s := if n.isNone ∧ bitsOf w 0 0 = 1 then s.set fMirErr 0 else s
    let t := s.writeFields off (2 ^ 64 - 1) (w &&& ~~~ (if n.isNone then 1 else 0 : Word))
    if (n.isNone ∧ 256 < bitsOf w 40 32) ∨ 180 * (s.get fTsqT - s.get fTsqGuard) * 1000 < t.mirBytes then s.set fMirErr 1 else t)

/-- What the tick's commits changed for mirrored tenants. -/
def State.changedNow (s : State) : List MirItem :=
  (s.seq.committed.filter (fun k => s.mirrored (s.tdTenant k))).flatMap (fun k =>
    (List.range (s.tdCcount k)).map (fun i => MirItem.record (s.tdCfirst k + i))
      ++ (if s.tdHasSlot k then [MirItem.slot (s.tdSlot k)] else []))

/-- Mirror data frames of one item in pieces of 2,048 B: tick, kind, target, offset. Kinds: 1 record, 2 bulk state, 3 slot
position, 4 slot data. -/
def pieces (kind target : Nat) (bs : List Byte) : List (Nat × Nat × Nat × List Byte) :=
  (List.range ((bs.length + 2047) / 2048)).map (fun i => (kind, target, 2048 * i, (bs.drop (2048 * i)).take 2048))

/-- The data of an item that lies in stack memory: tenant, DVA and length. -/
def State.itemRun (s : State) : MirItem → Nat × Nat × Nat
  | .record n => (recTenant (s.record n), recBulk (s.record n) (recBsel (s.record n) == 1), 256 * s.get fMirBulk)
  | .slot n => (s.get (fSlotTenant n), if s.get (fSlotCsel n) = 0 then s.get (fSlotSta n) else s.get (fSlotStb n),
      256 * s.get (fMirSlotLen n))

/-- The frames of an item. Data that cannot be read is left out. -/
def State.itemFrames (s : State) (i : MirItem) : State × List (Nat × Nat × Nat × List Byte) :=
  let x := if (s.itemRun i).2.2 = 0 then (s, none) else s.readDva (s.itemRun i).1 (s.itemRun i).2.1 (s.itemRun i).2.2
  match i with
  | .record n => (x.1, pieces 1 n (s.record n) ++ pieces 2 n (x.2.getD []))
  | .slot n => (x.1, pieces 3 n (bytesLE 4 (s.get (fSlotPos n))) ++ pieces 4 n (x.2.getD []))

/-- The twin link carries the mirror. -/
def State.paired (s : State) : Bool := decide (s.get fTwnState = 2) && s.peerUp (s.get fTwnPort)

/-- What the mirror of this tick sends. -/
def State.mirrorItems (s : State) : List MirItem := (s.peers.changed ++ s.changedNow).eraseDups

/-- MIRROR of the tick program. It waits while a stack that holds its data admits no access (08 R281, R285, R301). -/
def execMirrorStart (s : State) : Out :=
  .next (match s.program? opMIRROR with
    | none => s
    | some _ =>
      if s.get fTwnRole = 1 ∧ s.paired ∧ s.mirrorItems.any (fun i =>
        s.engineHeld (s.itemRun i).1 (s.itemRun i).2.1 (s.itemRun i).2.2 false) then s else
      let s := s.progNext 1
      if s.get fTwnRole ≠ 1 ∨ !s.paired then s
      else
        let s := match s.peers.sent with
          | some _ => s.raiseRel [] 0x97 0 0 0 0
          | none => s
        let items := s.mirrorItems
        let q := s.get fTwnPort
        let r := items.foldl (fun (x : State × List (Nat × Nat × Nat × List Byte)) i =>
          let y := x.1.itemFrames i
          (y.1, x.2 ++ y.2)) (s, [])
        let t := s.tick32
        let s := r.2.foldl (fun s f => s.frame q 0x03 [t, f.1, f.2.1, f.2.2.1] f.2.2.2) r.1
        (s.frame q 0x04 [t, r.2.length] []).modPeers (fun p => { p with changed := items, sent := some (t, items) }))

/-- MACK: the standby has applied tick t. -/
def execMack (q t : Nat) (s : State) : Out :=
  .next (match s.peers.sent with
    | none => s
    | some (k, _) =>
      if q ≠ s.get fTwnPort ∨ k ≠ t ∨ s.get fTwnRole ≠ 1 then s
      else (s.set fTwnBase t).modPeers (fun p => { p with sent := none, changed := [] }))

/-! ## The standby (R582, R583) -/

/-- The frame comes from the active over the twin link. -/
def State.fromActive (s : State) (q : Nat) : Bool :=
  decide (s.get fTwnRole = 2) && s.paired && decide (q = s.get fTwnPort) && !s.inSafe

/-- Writes mirror data at a DVA of tenant u. -/
def State.writeMirror (s : State) (u v : Nat) (bs : List Byte) : State :=
  if (s.extCheck u .write v bs.length).isSome then s else (s.extWrite u v bs).1

/-- The mirror data's place admits no write now (08 R281, R285, R301). -/
def State.mirdWaits (s : State) (kind target off n : Nat) : Bool :=
  if kind = 1 then
    match s.place (s.get fMirStage * 2 ^ 24 + 1024 * target) with
    | .stack k o => s.runServes k o n && s.runWaits k o n true
    | _ => false
  else if kind = 2 then s.engineHeld (recTenant (s.record target)) (recBulk (s.record target) (recBsel (s.record target) == 0) + off) n true
  else if kind = 4 then s.engineHeld (s.get (fSlotTenant target))
    ((if s.get (fSlotCsel target) = 0 then s.get (fSlotStb target) else s.get (fSlotSta target)) + off) n true
  else false

/-- MIRD: bulk and slot data go to the buffers not selected here; records and positions are staged. It waits while the stack
that takes the data admits no access. -/
def execMird (q t kind target off : Nat) (data : List Byte) (s : State) : Out :=
  .next (
    if !(s.fromActive q) ∨ s.mirdWaits kind target off data.length then s
    else
      let old := match s.peers.staged with
        | some x => if x.tick = t then x else ⟨t, 0, [], []⟩
        | none => ⟨t, 0, [], []⟩
      let old := { old with items := old.items + 1 }
      let st (s : State) (x : Staged) : State := s.modPeers (fun p => { p with staged := some x })
      if kind = 1 ∧ target < 10240 ∧ data.length = 1024 then
        let a := s.get fMirStage * 2 ^ 24 + 1024 * target
        let s := match s.place a with
          | .stack k o => if s.runServes k o 1024 then (s.writeStack k o data).1 else s
          | _ => s
        st s { old with recs := smInsert old.recs target data }
      else if kind = 2 ∧ target < 10240 then
        let r := s.record target
        st (s.writeMirror (recTenant r) (recBulk r (recBsel r == 0) + off) data) old
      else if kind = 3 ∧ target < 64 then
        let y := (1 - s.get (fSlotCsel target), natLE (data.take 4))
        st s { old with slots := smInsert old.slots target y }
      else if kind = 4 ∧ target < 64 then
        let v := if s.get (fSlotCsel target) = 0 then s.get (fSlotStb target) else s.get (fSlotSta target)
        st (s.writeMirror (s.get (fSlotTenant target)) (v + off) data) old
      else st s old)

/-- MEND: the mirror of tick t, of n frames, is applied whole, or not at all. -/
def execMend (q t n : Nat) (s : State) : Out :=
  .next (
    if !(s.fromActive q) then s
    else
      let x : Staged := match s.peers.staged with
        | some x => if x.tick = t then x else ⟨t, 0, [], []⟩
        | none => ⟨t, 0, [], []⟩
      let s := s.modPeers (fun p => { p with staged := none })
      if x.items ≠ n then s
      else
        let s := x.recs.foldl (fun s r => s.putCtx (recKey r.1) r.2) s
        let s := x.slots.foldl (fun s y => (s.set (fSlotCsel y.1) y.2.1).set (fSlotPos y.1) y.2.2) s
        (s.set fTwnBase t).frame q 0x05 [t] [])

/-! ## Failover (R585, R586) -/

/-- Task k begins anew from task load: what it held on cores and in its slots here is not the twin's state (10 R342; R586). -/
def State.reload (s : State) (k : Nat) : State :=
  let s := s.resetTask k
  let s := (s.holders k).foldl (fun s c => s.modCore c (fun x => { x with task := none, mode := .idle, before := .idle })) s
  let parts := (s.group k).map (fun c => (⟨freshCore c 0, []⟩ : SlotPart))
  s.modTask k (fun t => { t with sw := parts, cm := parts })

/-- The standby becomes active; shadowing ends at the next boundary, and the mirrored tenants' tasks run from task load
(R586, 06 R227, 09 R335). -/
def State.failover (s : State) : State :=
  if s.get fTwnRole ≠ 2 then s
  else
    let s := s.modPeers (fun p => { p with staged := none, changed := [], sent := none, asked := false })
    let s := (s.set fTwnRole 1).set fTwnEpoch (s.get fTwnEpoch + 1)
    let s := (s.loadedTasks.filter (fun k => s.mirrored (s.tdTenant k))).foldl State.reload s
    s.raiseRel ((List.range 16).filter s.mirrored) 0x98 0 0 (s.get fTwnBase) (BitVec.ofNat 64 (s.get fTwnBase))

/-- TWIN_FAILOVER: a write of TWN_CFG. -/
def execTwinFailover (w : Word) (s : State) : Out :=
  .next (
    if s.inSafe then s else
    let was := s.flag fTwnEn
    let s := s.checkReserved 16 twnCfg w
    if bitsOf w 63 63 = 1 ∧ s.lone then s.refuseWrite (regAddr twnCfg) 2
    else
    let s := s.writeFields twnCfg (2 ^ 64 - 1) w
    let s :=
      if !(s.flag fTwnEn) then (s.set fTwnState 0).pins
      else if !was ∧ s.peerUp (s.get fTwnPort) then s.set fTwnState 1
      else s
    if bitsOf w 0 0 = 1 then s.failover else s)

/-- NOTICE from port q: the active's safe state, reset or power loss. -/
def execNoticeFrame (q : Nat) (s : State) : Out := .next (if s.fromActive q then s.failover else s)

/-- TWIN_LINK_SILENCE: 1 ms of silence on the twin link. -/
def execTwinLinkSilence (s : State) : Out :=
  .next (
    if s.get fTwnRole ≠ 2 ∨ s.get fTwnState ≠ 2 ∨ !(s.flag fTwnAuto) ∨ s.inSafe then s
    else
      let s := (List.range 4).foldl (fun s q => if q = s.get fTwnPort then s else s.frame q 0x0A [s.get fTwnPort] []) s
      s.modPeers (fun p => { p with asked := true }))

/-- SILQ at port q about the package that this one reaches through port p; `silent`: nothing comes from it. -/
def execSilq (q p : Nat) (silent : Bool) (s : State) : Out :=
  .next (if s.inSafe then s else s.frame q 0x0B [p, if silent then 1 else 0] [])

/-- SILA at port q: a sibling's answer. -/
def execSila (q : Nat) (silent : Bool) (s : State) : Out :=
  .next (
    if !s.peers.asked ∨ q = s.get fTwnPort ∨ !(s.peerUp q) ∨ s.inSafe then s
    else if silent then s.failover
    else s.modPeers (fun p => { p with asked := false }))

/-- PEER_HEART: 100 µs without another frame on port q. -/
def execPeerHeart (q : Nat) (s : State) : Out := .next (if s.inSafe then s else s.frame q 0x02 [] [])

/-! ## Pairing (R581, R587) -/

/-- Pairing is refused. -/
def State.pairRefused (s : State) : State := ((s.set fTwnState 4).raiseRel [] 0x99 2 0 0 0).pins

/-- TWIN_PAIRING: what the other package shows: whether mutual authentication holds and it is G1, its stack capacity code,
TEN_DIG words by tenant, its role now, its epoch, the role it asks for. -/
def execTwinPairing (auth : Bool) (cap : Nat) (digs : List (List Word)) (role epoch : Nat) (standby : Bool) (s : State) : Out :=
  .next (
    if !(s.flag fTwnEn) ∨ !(s.peerUp (s.get fTwnPort)) ∨ s.inSafe ∨ s.get fTwnState = 2 then s
    else
      let s := s.frame (s.get fTwnPort) 0x01 [] []
      let same := (List.range 16).all (fun u => !(s.mirrored u)
        || (List.range 4).map (fun j => s.rd (tenDig u j)) == digs.getD u [])
      let r := s.get fTwnRole
      let e := s.get fTwnEpoch
      let want := if r ≠ 0 then r else if s.flag fTwnStandby then 2 else 1
      let theirs := if role ≠ 0 then role else if standby then 2 else 1
      -- both would be active: the lower epoch yields (R587, 19 R639)
      let mine := if want = 1 ∧ theirs = 1 then (if e < epoch then 2 else if epoch < e then 1 else 0) else want
      if !auth ∨ cap ≠ s.get fDevStackCap ∨ !same ∨ mine = 0 ∨ (want = 2 ∧ theirs = 2) then s.pairRefused
      else
        let all := s.mirRecords.map MirItem.record ++ s.mirSlots.map MirItem.slot
        let s := ((s.set fTwnState 2).set fTwnRole mine).modPeers (fun p => { p with
          changed := if mine = 1 then all else [], sent := none, staged := none, asked := false })
        (s.raiseRel [] 0x99 1 0 0 0).pins)

/-- The twin link is down (R587). -/
def State.twinDown (s : State) : State :=
  if s.get fTwnState ≠ 2 ∧ s.get fTwnState ≠ 1 then s
  else
    let s := (s.set fTwnState 3).modPeers (fun p => { p with sent := none, staged := none })
    if s.get fTwnRole = 1 then s.raiseRel [] 0x99 0 0 0 0 else s

/-- TWIN_LINK_DOWN. -/
def execTwinLinkDown (s : State) : Out := .next s.twinDown

/-! ## Peer ports (19 R637) -/

/-- PEER_PORT_LANE_LOSS: port q keeps so many of its lanes, which now receive these laser powers. -/
def execPeerPortLaneLoss (q : Nat) (x : LaneReport) (s : State) : Out :=
  .next (
    if 3 < q then s
    else
    let s := s.laserReport q x.power
    if s.peers.lanes.getD q 0 ≤ x.lanes then s
    else
      let s := s.modPeers (fun p => { p with lanes := p.lanes.set q x.lanes })
      let s := if x.lanes < 4 ∧ q = s.get fTwnPort ∧ s.flag fTwnEn then s.twinDown else s
      s.capacityFell .net)

end Sys2Proof.Machine
end

