-- ==== Sys2Proof/Machine/Clocks.lean ====
section
/-! DEFINITION. Commands of clocks, power and heat: gating, source switching, frequency ramps, the thermal and cap loops,
rails, the coolant report (18 R594 to R621; 08 R280, R281). -/

namespace Sys2Proof.Machine

/-! ## Gating (R596, R597) -/

/-- Whether HUB_CLKEN bit m may be cleared. -/
def State.mayGate (s : State) (m : Nat) : Bool :=
  if isComp m then (List.range 4).all (fun i =>
    let st := s.get (fTileState (4 * (m - 5) + i))
    st == 0 || st == 3)
  else if m = 21 then (List.range 8).all (fun k =>
    let l := s.get (fOsLstate k)
    l == 0 || l == 5 || l == 6)
  else if m = 22 then (List.range 4).all (fun q => (List.range 17).all (fun f => !(s.flag (fBindEn q f))))
  else m == 23 && !(s.flag fTwnEn) && decide (s.get fSnpPeers = 0)

/-- Bits that a write of HUB_CLKEN clears. -/
def State.clears (s : State) (w : Word) : List Nat := (List.range 25).filter (fun m => s.flag (fClkEn m) && bitsOf w m m == 0)

/-- A write of HUB_CLKEN. -/
def State.clkenWrite (s : State) (w : Word) : State :=
  let s := s.checkReserved 16 hubClken w
  if (s.clears w).any (fun m => !(s.mayGate m)) then s.refuseWrite (regAddr hubClken) 2
  else
    let cs := s.clears w
    let ups := (List.range 25).filter (fun m => !(s.flag (fClkEn m)) && bitsOf w m m == 1)
    let s := cs.foldl (fun s m => (s.set (fClkEn m) 0).modClk m (fun c => { c with drain := true })) s
    ups.foldl (fun s m =>
      let s := s.set (fClkEn m) 1
      if (s.clk m).drain then s.modClk m (fun c => { c with drain := false })
      else (s.set (fClkSrc m) 0).modClk m (fun c => { c with on := true, locked := false })) s

/-- DOMAIN_GATE: a write of HUB_CLKEN that clears a bit. -/
def execDomainGate (w : Word) (s : State) : Out := .next (if s.inSafe then s else if s.clears w = [] then s else s.clkenWrite w)

/-- DOMAIN_UNGATE: a write of HUB_CLKEN that clears none. -/
def execDomainUngate (w : Word) (s : State) : Out := .next (if s.inSafe then s else if s.clears w = [] then s.clkenWrite w else s)

/-- DOMAIN_GATE_EFFECT: domain m has drained, or 100 µs have passed. -/
def execDomainGateEffect (m : Nat) (s : State) : Out :=
  .next (
    if !(s.clk m).drain then s
    else (s.set (fClkRun m) 0).modClk m (fun c => { c with drain := false, on := false, locked := false }))

/-! ## PLLs and bypass (R595, R598, R599) -/

/-- Clock of a domain that its lost cycles count, in units of 12.5 MHz. -/
def State.domFreq (s : State) (m : Nat) : Nat :=
  if isComp m then s.get (fClkNcur m) else if m = 22 then 80 else 128

/-- The cycles lost in a stop of `ns` nanoseconds (R598). -/
def lostCycles (f ns : Nat) : Nat := min 65535 (f * ns / 80)

/-- Loads the reset state of a gated domain's cores (R597). -/
def State.freshCores (s : State) (m : Nat) : State :=
  (((s.cores.map Prod.fst).filter (fun c => tileDom (coreTile c) == m))).foldl (fun s c =>
    s.modCore c (fun k => { coreReset (s.cycles m) with fenced := k.fenced, scrub := k.scrub })) s

/-- PLL_LOCKED: domain m's PLL locks; from bypass it returns with a stop of `ns` nanoseconds. -/
def execPllLocked (m ns : Nat) (s : State) : Out :=
  .next (
    let c := s.clk m
    if 24 < m ∨ !c.on ∨ c.locked ∨ (s.flag (fClkSrc m) && !c.relock) then s
    else if c.relock then
      -- bypass: 40 MHz, or 20 MHz of arithmetic clock: halves of 12.5 MHz units keep the product whole
      let lost := min 65535 ((if isComp m then 20 else 40) * ns / 1000)
      let s := (s.runDomain m).set (fClkLost m) lost
      s.heatEvent 0xA3 m 0x3F (s.clk m).n 0 0
    else
      let s := if isComp m ∧ !(s.flag (fClkRun m)) then s.freshCores m else s
      s.runDomain m)

/-- PLL_LOCK_LOSS: domain m's PLL loses lock; a switch to bypass stops the clock for `ns` nanoseconds. -/
def execPllLockLoss (m ns : Nat) (s : State) : Out :=
  .next (
    if m = 0 then (if s.cro.crystal then (s.heatEvent 0xA3 0 0x3F 0 0 0).crystalLost else s)
    else if 24 < m ∨ !(s.clk m).locked then s
    else if m ≤ 4 ∨ (17 ≤ m ∧ m ≤ 20) then (s.heatEvent 0xA3 m 0x3F 0 0 0).enterSafe none m
    else if m = 24 then
      (((s.set (fClkRun 24) 0).modClk 24 (fun c => { c with locked := false })).heatEvent 0xA3 24 0x3F 0 0 0)
    else
      let lost := lostCycles (s.domFreq m) ns
      let s := ((s.set (fClkSrc m) 1).set (fClkLost m) lost).modClk m (fun c => { c with locked := false, relock := false, n := 8 })
      let s := (s.showClk m).heatEvent 0xA3 m 0x3F 0 0 0
      if m = 21 then (List.range 8).foldl (fun s k => s.isolate k 7) s
      else if m = 22 then (List.range 4).foldl (fun s q => if s.get (fPortState q) = 1 then s.freezePort q 0 0 0 else s) s
      else if m = 23 then s.twinDown
      else s)

/-- A write of CLK_DOMm: nset, relock, and nolock cleared by 1. -/
def State.clkWrite (s : State) (m : Nat) (w : Word) : State :=
  if 24 < m then s
  else
    let s := s.checkReserved 16 (clkDom m) w
    let n := bitsOf w 25 20
    if n ≠ s.get (fClkNset m) ∧ (!(isComp m) ∨ n < 8 ∨ 32 < n) then s
    else
      let s := if bitsOf w 2 2 = 1 then s.set (fClkNolock m) 0 else s
      let s := (s.set (fClkNset m) n).showClk m
      if bitsOf w 3 3 = 1 ∧ s.flag (fClkSrc m) ∧ 5 ≤ m ∧ m ≤ 23 ∧ (s.clk m).on ∧ !(s.clk m).relock then
        s.modClk m (fun c => { c with relock := true, locked := false })
      else s

/-- CLK_RELOCK: a write of CLK_DOMm with relock. -/
def execClkRelock (m : Nat) (w : Word) (s : State) : Out := .next (if s.inSafe then s else if bitsOf w 3 3 = 1 then s.clkWrite m w else s)

/-- NSET_WRITE: a write of CLK_DOMm without relock. -/
def execNsetWrite (m : Nat) (w : Word) (s : State) : Out := .next (if s.inSafe then s else if bitsOf w 3 3 = 0 then s.clkWrite m w else s)

/-- RELOCK_TIMEOUT: 50 µs without lock. -/
def execRelockTimeout (m : Nat) (s : State) : Out :=
  .next (if (s.clk m).relock then (s.modClk m (fun c => { c with relock := false })).set (fClkNolock m) 1 else s)

/-- FREQ_RAMP_STEP: domain m moves n one step toward n_eff (R600). -/
def execFreqRampStep (m : Nat) (s : State) : Out :=
  .next (
    let c := s.clk m
    if !(isComp m) ∨ !(s.flag (fClkRun m)) ∨ s.flag (fClkSrc m) ∨ !c.locked then s
    else
      let e := max 8 (s.nEff m)
      (s.modClk m (fun c => { c with n := if c.n < e then c.n + 1 else if e < c.n then c.n - 1 else c.n })).showClk m)

/-! ## Sensors (R609, R615; 08 R280, R281) -/

/-- Degrees in 1/64 °C. -/
def deg (t : Int) : Int := 64 * t

/-- The number is a reading from −40 °C to 150 °C. -/
def readable (raw : Nat) : Bool := decide (raw < 65536) && decide (deg (-40) ≤ signed16 raw ∧ signed16 raw ≤ deg 150)

/-- The throttle threshold that stands for a kind without a valid sensor; a host or peer tile has none. -/
def standIn (n kind : Nat) : Option Nat :=
  if kind = 0 then (if n % 16 ≤ 11 then some (95 * 64) else none)
  else if kind = 1 then some (90 * 64) else some (100 * 64)

/-- Stack t's controller acts on its layers' readings (08 R280, R281); a reading that fails its check counts for nothing, and
its layer refreshes as before. -/
def State.stackHeat (s : State) (t : Nat) (ls : List Nat) : State :=
  let good := ls.zipIdx.filter (fun y => readable y.1)
  match good with
  | [] => s
  | x :: l =>
    let top := l.foldl (fun m y => if signed16 m.1 < signed16 y.1 then y else m) x
    let old := (s.stack t).warm
    let warm := (List.range ls.length).filter (fun i =>
      let raw := ls.getD i 0
      if readable raw then decide (deg 85 < signed16 raw) || (old.contains i && decide (deg 83 < signed16 raw)) else old.contains i)
    let s := ((s.set (fStkTmax t) top.1).set (fStkHotLayer t) top.2).modStack t (fun k => { k with warm := warm })
    let s := s.set (fStkRefresh t) (if warm = [] then 0 else 1)
    if deg 95 ≤ signed16 top.1 ∧ !(s.flag (fStkHold t)) then
      (s.set (fStkHold t) 1).raiseStk 16 0x25 t 0xFF 0x1F 0 top.2 0 false
    else if signed16 top.1 ≤ deg 93 then s.set (fStkHold t) 0 else s

/-- Readings count into their averages (14 R511); those of a tenant that is no longer confidential end. -/
def State.coarseAdd (s : State) (xs : List (Nat × Int)) : State :=
  let kept := s.coarse.filter (fun y => decide (32 ≤ y.1) || (s.flag (fTenValid (y.1 % 16)) && s.flag (fTenConf (y.1 % 16))))
  { s with coarse := xs.foldl (fun l x =>
      let c := (smLookup l x.1).getD ⟨0, 0, 0, 0⟩
      smInsert l x.1 { c with sum := c.sum + x.2, n := c.n + 1 }) kept }

/-- The confidential tenants that own a tile. -/
def State.confidential (s : State) : List Nat :=
  (List.range 16).filter (fun u => s.flag (fTenValid u) && s.flag (fTenConf u) && !(s.tenTiles u).isEmpty)

/-- The hottest reading of each confidential partition counts into its average. -/
def State.coarseSample (s : State) : State :=
  s.coarseAdd (s.confidential.map (fun u =>
    let v := (s.tenTiles u).flatMap (fun t => [signed16 (s.get (fThmSite (tileSite t))), signed16 (s.get (fThmStack (tileSite t)))])
    (u, v.foldl max (v.headD 0))))

/-- The powers count into their averages: of each confidential partition, of the package, of each site of a tenant. -/
def State.powerSample (s : State) : State :=
  let power (t : Nat) : Nat := s.get (fThmPower (tileSite t))
  s.coarseAdd (s.confidential.map (fun u => (16 + u, (((((s.tenTiles u).map power).foldl (· + ·) 0 : Nat) : Int))))
    ++ [(32, ((s.get fPwrPkg : Nat) : Int))]
    ++ ((List.range 48).filter (fun t => (s.tileOwner t).isSome)).map (fun t => (64 + tileSite t, (power t : Int))))

/-- What an average shows now. -/
def State.averaged (s : State) (key : Nat) : Int :=
  match smLookup s.coarse key with
  | some c => c.shown
  | none => 0

/-- The power of a tile's site as tenant u is told of it: of its own sites alone. The package's power and the power of the
VIN_HI current, in whole 50 W (DESIGN CHOICE, log 102). No command of the table carries these to a tenant. -/
def State.tenantPower (s : State) (u n : Nat) : Option Int := if s.tileOwner (siteTile n) = some u then some (s.averaged (64 + n)) else none
def State.tenantPackage (s : State) : Int × Int := (s.averaged 32, s.averaged 33)

/-- The power of a tile's site as the operator sees it: of a confidential partition the total in whole 10 W. -/
def State.operatorPower (s : State) (n : Nat) : Int :=
  match s.tileOwner (siteTile n) with
  | some u => if s.flag (fTenConf u) then s.averaged (16 + u) else s.get (fThmPower n)
  | none => s.get (fThmPower n)

/-- THERMAL_SAMPLE. -/
def execThermalSample (x : Readings) (s : State) : Out :=
  .next (
    if !s.cro.aux then s
    else
      let wrong (kind : Nat) (l : List (Nat × Nat)) : List Nat := (l.filter (fun y => !(readable y.2))).map (fun y => 4 * y.1 + kind)
      let stk := x.layers.map (fun y => (tileSite y.1, ((y.2.filter readable).map signed16).foldl max (deg (-41))))
      -- an unreadable sensor of a stack is invalid; a stack whose layers are all unreadable has no valid one (R615)
      let dead := ((x.layers.filter (fun y => decide (y.1 < 48) && !(y.2.any readable))).map (fun y => 4 * tileSite y.1 + 1))
      let odd := ((x.layers.filter (fun y => decide (y.1 < 48) && !(y.2.all readable))).map (fun y => 4 * tileSite y.1 + 1))
        ++ ((x.base.filter (fun y => decide (y.1 < 48) && !(readable y.2))).map (fun y => 4 * tileSite y.1 + 1))
      let failed := (x.failed ++ wrong 0 x.site ++ wrong 2 x.hub ++ odd).filter (fun k => decide (k < 256))
      let none_ := ((x.none_ ++ wrong 0 x.site ++ wrong 2 x.hub ++ dead).filter (fun k => decide (k < 256))).eraseDups
      let s := failed.foldl (fun s k => s.heatEvent 0xA1 0 (k / 4) 0 0 8) { s with badSensor := none_ }
      let s := (x.site.filter (fun y => readable y.2 && decide (y.1 < 64))).foldl (fun s y => s.set (fThmSite y.1) y.2) s
      let s := (x.hub.filter (fun y => readable y.2 && decide (y.1 < 64))).foldl (fun s y => s.set (fThmHub y.1) y.2) s
      let s := (stk.filter (fun y => decide (deg (-40) ≤ y.2 ∧ y.1 < 64))).foldl (fun s y =>
        s.set (fThmStack y.1) (y.2 % 65536).toNat) s
      let s := (x.base.filter (fun y => readable y.2 && decide (y.1 < 48))).foldl (fun s y => s.set (fStkTbase y.1) y.2) s
      let s := x.layers.foldl (fun s y => if y.1 < 48 then s.stackHeat y.1 y.2 else s) s
      let s := none_.foldl (fun s k =>
        match standIn (k / 4) (k % 4) with
        | some v => s.set (if k % 4 = 0 then fThmSite (k / 4) else if k % 4 = 1 then fThmStack (k / 4) else fThmHub (k / 4)) v
        | none => s) s
      s.coarseSample)

/-! ## The thermal loop (R610 to R613, R616) -/

/-- A reading as the loop takes it: kind (R610's order), site, value; thresholds by kind: throttle, release, hard, trip. -/
structure Heat where
  kind : Nat
  site : Nat
  val : Int
  deriving DecidableEq, Repr

def heatLimits (kind : Nat) : Int × Int × Int × Int :=
  if kind = 0 then (deg 95, deg 92, deg 100, deg 105)
  else if kind = 1 then (deg 90, deg 87, deg 93, deg 98)
  else if kind = 2 then (deg 100, deg 97, deg 105, deg 110)
  else if kind = 3 then (deg 18, deg 15, deg 20, deg 1000)
  else (deg 13, deg 10, deg 15, deg 1000)

def Heat.over (h : Heat) : Bool := decide ((heatLimits h.kind).1 ≤ h.val)
def Heat.below (h : Heat) : Bool := decide (h.val < (heatLimits h.kind).2.1)
def Heat.hard (h : Heat) : Bool := decide ((heatLimits h.kind).2.2.1 ≤ h.val)
def Heat.trip (h : Heat) : Bool := decide ((heatLimits h.kind).2.2.2 ≤ h.val)

/-- Two sites are adjacent (01 R25). -/
def adjacent (a b : Nat) : Bool :=
  let p := siteXY a
  let q := siteXY b
  decide ((p.1 = q.1 ∧ (p.2 + 1 = q.2 ∨ q.2 + 1 = p.2)) ∨ (p.2 = q.2 ∧ (p.1 + 1 = q.1 ∨ q.1 + 1 = p.1)))

/-- Temperature of a site: its tile's, or an active guest's. -/
def State.siteTemp (s : State) (n : Nat) : Option Int :=
  if s.get (fSiteType n) = 4 then none
  else if n % 16 = 12 ∨ n % 16 = 13 then
    let k := 2 * (n / 16) + (n % 16 - 12)
    if s.siteActive k then some (signed16 (s.get (fOsTguest k))) else none
  else some (signed16 (s.get (fThmSite n)))

/-- Adjacent-site differences of which site n is the hotter side. -/
def State.diffs (s : State) (n : Nat) : List Heat :=
  match s.siteTemp n with
  | none => []
  | some a => ((List.range 64).filter (adjacent n)).filterMap (fun b => match s.siteTemp b with
    | some v => if v < a then some ⟨3, n, a - v⟩ else none
    | none => none)

/-- Readings that act on compute domain m. -/
def State.domHeat (s : State) (m : Nat) : List Heat :=
  let ts := (List.range 4).map (fun i => tileSite (4 * (m - 5) + i))
  let q := (m - 5) / 3
  ts.flatMap (fun n =>
    let a := signed16 (s.get (fThmSite n))
    let b := signed16 (s.get (fThmStack n))
    [⟨0, n, a⟩, ⟨1, n, b⟩, ⟨2, n, signed16 (s.get (fThmHub n))⟩] ++ s.diffs n ++ (if b < a then [⟨4, n, a - b⟩] else []))
  ++ [⟨2, 16 * q + 14, signed16 (s.get (fThmHub (16 * q + 14)))⟩, ⟨2, 16 * q + 15, signed16 (s.get (fThmHub (16 * q + 15)))⟩]

/-- A value as an event carries it. -/
def rawOf (v : Int) : Nat := (v % 65536).toNat

/-- A trip stops the domain; its tasks are discard-stopped and Aborted (R613). -/
def State.tripDomain (s : State) (m : Nat) (h : Heat) : State :=
  let s := (s.set (fClkRun m) 0).modClk m (fun c => { c with trip := true, calm := 0 })
  let ks := s.loadedTasks.filter (fun k => (s.tdDoms k).contains m && (s.tstate k == tsBound || s.tstate k == tsRunning
    || s.tstate k == tsDone || s.tstate k == tsParked || s.tstate k == tsCarried))
  let s := ks.foldl (fun s k => ((s.discardStop k).setTstate k tsAborted).addSat fOvrAbort 1) s
  (s.heatEvent 0xA2 m h.site (s.clk m).n (rawOf h.val) h.kind).capacityFell (.dom m)

/-- One pass of the loop for compute domain m. -/
def State.domLoop (s : State) (m : Nat) : State :=
  let hs := s.domHeat m
  let c := s.clk m
  let calm := hs.all Heat.below
  if c.trip then
    if calm then
      let f := max 8 (s.nFloor m)
      ((if s.clkSource m ∧ !c.vstop then s.set (fClkRun m) 1 else s).modClk m (fun c =>
        { c with trip := false, calm := 0, therm := f, n := f })).showClk m
    else s
  else match hs.find? (fun h => (h.kind == 0 || h.kind == 1) && h.trip) with
  | some h => s.tripDomain m h
  | none =>
    match hs.find? Heat.hard with
    | some h =>
      let s := s.modClk m (fun c => { c with therm := max 8 (c.therm - 1), calm := 0 })
      let s := if (s.clk m).therm < s.nFloor m ∧ (s.clk m).told ≠ some s.tick then
          (s.modClk m (fun c => { c with told := some s.tick })).heatEvent 0xA0 m h.site (s.nEff m) (rawOf h.val) h.kind
        else s
      s.showClk m
    | none =>
      if hs.any Heat.over then
        (s.modClk m (fun c => { c with therm := if s.nFloor m < c.therm then max 8 (c.therm - 1) else c.therm, calm := 0 })).showClk m
      else if !calm then s.modClk m (fun c => { c with calm := 0 })
      else if 9 ≤ c.calm then (s.modClk m (fun c => { c with therm := min 32 (c.therm + 1), calm := 0 })).showClk m
      else s.modClk m (fun c => { c with calm := c.calm + 1 })

/-- Host and peer tiles: a tile at its trip is isolated. -/
def State.portLoop (s : State) (n : Nat) : State :=
  let v := signed16 (s.get (fThmSite n))
  if deg 105 ≤ v ∧ s.siteServes n then (s.portOut n).heatEvent 0xA2 (if n % 16 = 14 then 22 else 23) n 0 (rawOf v) 5 else s

/-- An open site that heats its neighbour or the hub is throttled. -/
def State.guestLoop (s : State) (k : Nat) : State :=
  let n := openSite k
  if s.siteActive k ∧ (deg 100 ≤ signed16 (s.get (fThmHub n)) ∨ (s.diffs n).any Heat.over) then
    s.setLevel k (min 7 (s.get (fOsLevel k) + 1))
  else s

/-- A stack hotter than its tile admits one chunk per two turns. -/
def State.stackLoop (s : State) (t : Nat) : State :=
  let d := signed16 (s.get (fThmStack (tileSite t))) - signed16 (s.get (fThmSite (tileSite t)))
  if deg 13 ≤ d ∧ !(s.stack t).slow then s.modStack t (fun k => { k with slow := true })
  else if d < deg 10 ∧ (s.stack t).slow then s.modStack t (fun k => { k with slow := false })
  else s

/-- Differences at hard that no throttle can answer, one for each hotter site: its largest difference to a neighbour, or
that of a tile to its stack (R613). -/
def State.stuckHeats (s : State) : List Heat :=
  (List.range 64).filterMap (fun n =>
    let own := signed16 (s.get (fThmSite n)) - signed16 (s.get (fThmStack n))
    let top := ((s.diffs n).map Heat.val).foldl max 0
    let at8 := decide (n % 16 ≤ 11) && (s.clk (tileDom (siteTile n))).n == 8
    if !(decide (14 ≤ n % 16) || at8) then none
    else if (s.diffs n).any Heat.hard then some ⟨3, n, top⟩
    else if at8 ∧ deg 15 ≤ own then some ⟨4, n, own⟩ else none)

/-- THERM_N (R616). -/
def State.thermPin (s : State) : State :=
  let hot := (List.range 12).any (fun g => (s.domHeat (5 + g)).any Heat.hard || (s.clk (5 + g)).trip)
    || (List.range 64).any (fun n => (s.diffs n).any Heat.hard || decide (deg 105 ≤ signed16 (s.get (fThmHub n)))
      || (decide (14 ≤ n % 16) && decide (deg 105 ≤ signed16 (s.get (fThmSite n))))
      || (decide (n % 16 ≤ 11) && decide (deg 15 ≤ signed16 (s.get (fThmStack n)) - signed16 (s.get (fThmSite n)))))
  s.modCro (fun c => { c with thermN := hot })

/-- THERMAL_LOOP. -/
def execThermalLoop (s : State) : Out :=
  .next (
    if !s.cro.running then s
    else match (List.range 64).find? (fun n => decide (deg 110 ≤ signed16 (s.get (fThmHub n)))) with
    | some n =>
      let v := signed16 (s.get (fThmHub n))
      ((s.heatEvent 0xA2 (1 + n / 16) n 0 (rawOf v) 2).enterSafe none 0).thermPin
    | none =>
      let s := (List.range 12).foldl (fun s g => s.domLoop (5 + g)) s
      let s := (List.range 64).foldl (fun s n => if 14 ≤ n % 16 then s.portLoop n else s) s
      let s := (List.range 8).foldl State.guestLoop s
      let s := (List.range 48).foldl State.stackLoop s
      let stuck := s.stuckHeats
      let s := (stuck.filter (fun h => !(s.cro.limits.contains h.site))).foldl (fun s h =>
        let m := siteDom h.site
        s.heatEvent 0xA1 m h.site (s.clk m).n (rawOf h.val) h.kind) s
      (s.modCro (fun c => { c with limits := stuck.map Heat.site })).thermPin)

/-! ## Power caps (R614) -/

/-- One limit after a pass of a cap loop: down by 1, or up by 1 after 10 calm passes. -/
def capStep (v calm : Nat) (past under : Bool) : Nat × Nat :=
  if past then (max 8 (v - 1), 0)
  else if !under then (v, 0)
  else if 9 ≤ calm then (min 32 (v + 1), 0) else (v, calm + 1)

/-- POWER_CAP_LOOP: 1 ms means of the sites' powers in 0.1 W and of the package's in W. -/
def execPowerCapLoop (sites : List (Nat × Nat)) (pkg : Nat) (s : State) : Out :=
  .next (
    if !s.cro.running then s
    else State.powerSample (
      let s := (sites.filter (fun x => decide (x.1 < 64))).foldl (fun s x =>
        -- an open site draws at most its cap (01 R32), and shows its rails' power in OS_PWR too (12, OS_PWRk)
        if x.1 % 16 = 12 ∨ x.1 % 16 = 13 then
          let p := min x.2 (10 * s.capOf x.1)
          (s.set (fThmPower x.1) p).set (fOsPmeas (2 * (x.1 / 16) + (x.1 % 16 - 12))) p
        else s.set (fThmPower x.1) x.2) (s.set fPwrPkg pkg)
      (List.range 12).foldl (fun s g =>
        let m := 5 + g
        let ns := (List.range 4).map (fun i => tileSite (4 * g + i))
        let past := ns.any (fun n => decide (10 * s.capOf n < s.get (fThmPower n)))
        let under := ns.all (fun n => decide (10 * s.get (fThmPower n) < 95 * s.capOf n))
        let c := s.clk m
        let a := capStep c.cap c.capCalm past under
        let b := capStep c.pkg c.pkgCalm (decide (s.get fPkgCap < pkg)) (decide (100 * pkg < 95 * s.get fPkgCap))
        (s.modClk m (fun c => { c with cap := a.1, capCalm := a.2, pkg := b.1, pkgCalm := b.2 })).showClk m) s))

/-- PWR_CFG_WRITE. -/
def execPwrCfgWrite (w : Word) (s : State) : Out :=
  .next (
    if s.inSafe then s else
    let s := s.checkReserved 16 fPkgCap.off w
    let v := bitsOf w 15 0
    if v < 3000 ∨ 7500 < v then s else s.set fPkgCap v)

/-! ## Rails (R601, R605 to R608) -/

/-- A rail of an open site: its set point in 0.01 mV, its tolerance in percent, its greatest current in 0.1 A (12 R420).
Rail 2 is GV_AUX, which a linear regulator without a register supplies. -/
def guestRail (j vcore : Nat) : Nat × Nat × Nat :=
  if j = 0 then (60000 + 500 * vcore, 2, 1400) else if j = 1 then (75000, 2, 120) else (180000, 5, 5)

/-- The greatest current of regulator r in A, where the spec bounds it. -/
def railMost (r : Nat) : Option Nat :=
  if r < 256 ∧ (r / 4 % 16 = 12 ∨ r / 4 % 16 = 13) then some ((guestRail (r % 4) 0).2.2 / 10) else none

/-- Set point of regulator r's rail in 0.01 mV; 0 for none. -/
def State.setPoint (s : State) (r : Nat) : Nat :=
  let n := r / 4
  if 256 ≤ r then 73000
  else if n % 16 ≤ 11 then
    if r % 4 = 0 then 62500 + 875 * ((s.clk (tileDom (siteTile n))).n - 8) else 105000
  else if n % 16 ≤ 13 then
    let k := 2 * (n / 16) + (n % 16 - 12)
    (guestRail (r % 4) (bitsOf (s.identB k) 23 16)).1
  else 73000

/-- The rail lies outside its tolerance: ±2 %, of GV_AUX ±5 % (12 R420; R605). -/
def State.railBad (s : State) (r : Nat) : Bool :=
  let p := s.setPoint r
  let v := 100 * s.get (fRegVout r)
  let tol := if r < 256 ∧ (r / 4 % 16 = 12 ∨ r / 4 % 16 = 13) then (guestRail (r % 4) 0).2.1 else 2
  decide (100 * v < (100 - tol) * p ∨ (100 + tol) * p < 100 * v)

/-- Rails on the two sides of the bridges: site ports, and the seams between hub dies (11 R388). -/
def bridges : List (Nat × Nat) :=
  ((List.range 64).filter (fun n => decide (n % 16 ≤ 11 ∨ 14 ≤ n % 16))).map (fun n => (4 * n, 256 + n / 16))
    ++ [(256, 257), (257, 258), (258, 259), (256, 259)]

/-- Clock domain that the rail feeds. -/
def railDom (r : Nat) : Nat := regDom r

/-- One bridge: the rule of R608. -/
def State.bridgeCheck (s : State) (b : Nat × Nat) : State :=
  let x := s.get (fRegVout b.1)
  let y := s.get (fRegVout b.2)
  let hi := if y < x then b.1 else b.2
  let lo := if y < x then b.2 else b.1
  let d := max x y - min x y
  let site := if b.1 < 256 then b.1 / 4 else 0x3F
  let m := railDom hi
  let l := railDom lo
  let ev (s : State) (k : Nat) : State := s.heatEvent 0xA1 k site (s.clk k).n d 7
  if hi < 256 ∧ isComp m then
    let on := decide (150 ≤ d) || ((s.clk m).vlow && decide (130 ≤ d))
    if on then
      let s := if (s.clk m).vlow then s else ev s m
      (s.modClk m (fun c => { c with vlow := true, volt := max 8 (c.volt - 1) })).showClk m
    else s
  else if 150 ≤ d ∧ !(s.clk l).vstop then
    let s := ((ev s l).set (fClkRun l) 0).modClk l (fun c => { c with vstop := true })
    -- a compute domain that stands still is lost capacity (10 R364)
    if isComp l then s.capacityFell (.dom l) else s
  else s

/-- A stop or a lowering ends once every bridge of the domain is below 130 mV. -/
def State.bridgeEnd (s : State) (m : Nat) : State :=
  let calm := bridges.all (fun b => (railDom b.1 != m && railDom b.2 != m)
    || decide (max (s.get (fRegVout b.1)) (s.get (fRegVout b.2)) - min (s.get (fRegVout b.1)) (s.get (fRegVout b.2)) < 130))
  let c := s.clk m
  if !calm then s
  else
    let s := if c.vstop ∧ !c.trip ∧ s.clkSource m then s.set (fClkRun m) 1 else s
    if c.vstop ∨ c.vlow then s.modClk m (fun c => { c with vstop := false, vlow := false }) else s

/-- What an open site's rails may draw in W before the current limit acts: its pwr_cap (01 R32). -/
def State.railBudget (s : State) (r : Nat) : Option Nat :=
  if r < 256 ∧ (r / 4 % 16 = 12 ∨ r / 4 % 16 = 13) then some (s.capOf (r / 4)) else none

/-- The current of one sample of regulator r in A at v mV: no more than the rail's greatest, and for an open site no more than
pwr_cap leaves beside the rails of that site that the sample names earlier (01 R32; 12 R420). DESIGN CHOICE (log 93): the spec
does not say which of the three rails the common limit holds back. -/
def State.railCurrent (s : State) (before : List (Nat × Nat × Nat)) (r i v : Nat) : Nat :=
  let i := min i ((railMost r).getD i)
  match s.railBudget r with
  | none => i
  | some p =>
    let used := ((before.filter (fun x => x.1 / 4 == r / 4)).map (fun x => x.2.1 * x.2.2)).foldl (· + ·) 0
    if v = 0 then i else min i ((1000 * p - used) / v)

/-- A sample's rails with the currents that the limits let them draw. -/
def State.limited (s : State) (rs : List (Nat × Nat × Nat)) : List (Nat × Nat × Nat) :=
  rs.foldl (fun l x => l ++ [(x.1, s.railCurrent l x.1 x.2.1 x.2.2, x.2.2)]) []

/-- RAIL_SAMPLE: current and voltage of every regulator in use, and of VIN_HI. -/
def execRailSample (rails : List (Nat × Nat × Nat)) (vin iin : Nat) (s : State) : Out :=
  .next (
    if !s.cro.running then s
    else
      let rs := rails.filter (fun x => decide (x.1 < 260) && decide (0 < s.get (fRegP x.1)))
      let s := (s.limited rs).foldl (fun s x => (s.set (fRegIout x.1) x.2.1).set (fRegVout x.1) x.2.2)
        (((s.set fPwrVin vin).set fPwrIin iin).coarseAdd [(33, ((iin * vin / 1000 : Nat) : Int))])
      -- out for more than 10 µs: out at two samples in a row
      let bad := (rs.map Prod.fst).filter s.railBad
      let old := s.cro.railOut
      let new := bad.filter (fun r => old.contains (r, false))
      let s := new.foldl (fun s r => s.heatEvent 0xA4 (regDom r) (regSite r) (s.clk (regDom r)).n (s.get (fRegW r)) 7) s
      let s := s.modCro (fun c => { c with railOut := bad.map (fun r => (r, old.any (fun x => x.1 == r))) })
      let known := rs.map Prod.fst
      let bs := bridges.filter (fun b => known.contains b.1 && known.contains b.2)
      let s := bs.foldl State.bridgeCheck s
      (List.range 25).foldl State.bridgeEnd s)

/-- VIN_OVERCURRENT: above 4,400 A for 10 µs. -/
def execVinOvercurrent (s : State) : Out :=
  .next (if s.cro.aux ∧ s.cro.pwrgd ∧ s.get fBootMode ≠ 2 then s.enterSafe none 0 else s)

/-! ## Coolant (R618, R619) -/

/-- The coolant condition has ended: event 0xA5, and REL_STAT. -/
def State.coolLost (s : State) : State :=
  if s.flag fRelCoolant ∧ !s.coolantOk then (s.heatEvent 0xA5 0 0x3F 0 0 0).showRel (s.flag fRelSupply) else s

/-- A new report of the board controller. -/
def State.coolReport (s : State) (tin flow : Nat) : State :=
  ((((s.set fCoolTin tin).set fCoolFlow flow).set fCoolAge 0).modCro (fun c => { c with coolAt := some s.now })).coolLost

/-- COOL_IN_WRITE. -/
def execCoolInWrite (w : Word) (s : State) : Out :=
  .next (
    if s.inSafe then s else
    let s := s.checkReserved 16 coolIn w
    s.coolReport (bitsOf w 63 48) (bitsOf w 47 32))

/-- COOLANT_REPORT_STALE: the report is older than 5 s. -/
def execCoolantReportStale (s : State) : Out := .next s.coolLost

end Sys2Proof.Machine
end

