-- ==== Sys2Proof/Machine/ConfigSpace.lean ====
section
/-! DEFINITION. A function's PCI Express configuration space (13 R453, R456, R457, R459; 09 R332). The sizes of the capabilities
and the places of their fields are PCI Express's: PRESUMED (log 83). What the standard fixes and the spec does not list is a
constant without a body. -/

namespace Sys2Proof.Machine

/-- A capability: offset, ID, whether a VF has it (R457), and the bytes that it occupies. -/
structure PcieCap where
  off : Nat
  id : Nat
  vf : Bool
  size : Nat
  deriving DecidableEq, Repr

/-- The capabilities; the first three stand in the standard list. -/
def capTable : List PcieCap :=
  [⟨0x40, 0x01, false, 0x08⟩, ⟨0x50, 0x11, true, 0x0C⟩, ⟨0x60, 0x10, true, 0x3C⟩] ++
  [⟨0x100, 0x0001, true, 0x48⟩, ⟨0x148, 0x000E, true, 0x08⟩, ⟨0x150, 0x0019, false, 0x2C⟩, ⟨0x180, 0x0025, false, 0x0C⟩] ++
  [⟨0x190, 0x0026, false, 0x30⟩, ⟨0x1C0, 0x002A, false, 0x30⟩, ⟨0x200, 0x0031, false, 0x20⟩, ⟨0x240, 0x0027, false, 0x48⟩] ++
  [⟨0x290, 0x002F, false, 0x10⟩, ⟨0x2A0, 0x0032, false, 0x40⟩, ⟨0x300, 0x000F, true, 0x08⟩, ⟨0x310, 0x0010, false, 0x40⟩] ++
  [⟨0x380, 0x0015, false, 0x0C⟩, ⟨0x3C0, 0x002E, false, 0x18⟩, ⟨0x400, 0x000B, true, 0x2C⟩]

/-- The capabilities of a function; in a VF each next pointer skips those that it lacks. -/
def capsOf (f : Nat) : List PcieCap := capTable.filter (fun c => f == 0 || c.vf)

/-- The offset of the capability after `o` in the same list, 0 at its end. -/
def capNext (f o : Nat) : Nat :=
  match (capsOf f).find? (fun c => decide (o < c.off ∧ (c.off < 0x100 ↔ o < 0x100))) with
  | some c => c.off
  | none => 0

/-- The header of a capability: identifier, version, next pointer. -/
def capHeader (f : Nat) (c : PcieCap) : Nat :=
  if c.off < 0x100 then c.id + capNext f c.off * 2 ^ 8
  else c.id + (Config.capVersion c.id).toNat * 2 ^ 16 + capNext f c.off * 2 ^ 20

/-- The vendor-specific body, word by word (R459, R12). -/
def State.vsecWord (s : State) (q f i : Nat) : Word :=
  if i = 0 then packW [(1, 0), (4, 8), (q, 16), (f, 24)]
  else if i = 1 then s.rd devId
  else if i = 2 then s.ident.getD 1 0
  else
    let on := s.flag (fBindEn q f)
    packW [(if on then s.get (fBindTenant q f) else 0, 0), (if on then 1 else 0, 4), (s.get (fBindAdmin q f), 5),
      (s.get fMgtSlot % 8, 8)]

/-- The address bits of a base address register of `size` bytes: its low or its high double word. -/
def barMask (size : Nat) (high : Bool) : Nat :=
  let m := 2 ^ 64 - size
  if high then m / 2 ^ 32 else m % 2 ^ 32

/-- The bits of a double word that the host writes and reads back. The base registers take addresses; VF Enable, VF memory space
and ARI, NumVFs, the window's size, MSI-X Enable and Function Mask, ATS Enable and its unit stand in the capabilities. -/
def State.cfgMask (s : State) (q f o : Nat) : Nat :=
  if o = 0x50 then 0xC0000000
  else if o = 0x304 then 0x801F0000
  else if f ≠ 0 then 0
  else if o = 0x10 ∨ o = 0x14 then barMask (2 ^ 19) (o == 0x14)
  else if o = 0x18 ∨ o = 0x1C then barMask (s.windowSize q 0) (o == 0x1C)
  else if o = 0x318 then 0x19
  else if o = 0x320 then 0xFFFF
  else if o = 0x334 ∨ o = 0x338 then barMask (2 ^ 18) (o == 0x338)
  else if o = 0x33C ∨ o = 0x340 then barMask (2 ^ 32) (o == 0x340)
  else if o = 0x388 then 0x3F00
  else 0

/-- Bits [hi:lo] of a double word that the spec lists, in one that is otherwise the standard's. -/
def listed (w hi lo v : Nat) : Nat := (putBits (BitVec.ofNat 64 w) hi lo v).toNat

/-- The bits of a double word that no host writes. -/
def State.cfgFixed (s : State) (q f o : Nat) : Nat :=
  let pf := f == 0
  let rest := (Config.pcieDword f o).toNat
  if o = 0x00 then (if pf then 0x4B641F4A else 0xFFFFFFFF)
  else if o = 0x08 then 0x12000000 + s.get fDevStepping
  else if o = 0x0C then 0
  else if 0x10 ≤ o ∧ o < 0x28 then (if pf then (if o = 0x10 then 0x4 else if o = 0x18 then 0xC else 0) else 0)
  else if o = 0x2C then 0x1F4A + (0x4B00 + s.get fDevOint) % 2 ^ 16 * 2 ^ 16
  else if o = 0x34 then (if pf then 0x40 else 0x50)
  else if o = 0x3C then 0
  else if o < 0x40 then rest
  else match (capsOf f).find? (fun c => decide (c.off ≤ o ∧ o < c.off + c.size)) with
  | none => 0
  | some c =>
    if c.off = 0x400 then
      (if o = 0x400 then capHeader f c else if o = 0x404 then 0x0001 + 1 * 2 ^ 16 + 0x2C * 2 ^ 20
       else if o < 0x40C then rest
       else (s.vsecWord q f ((o - 0x40C) / 8)).toNat / 2 ^ (32 * ((o - 0x40C) / 4 % 2)) % 2 ^ 32)
    -- Power Management 3: D0 and D3hot, no PME, No_Soft_Reset; MSI-X table and PBA; PCI Express 2: an endpoint
    else if o = 0x40 then capHeader f c + 3 * 2 ^ 16
    else if o = 0x44 then (if (s.host q).d3.contains f then 3 else 0) + 2 ^ 3
    else if o = 0x50 then capHeader f c + ((if pf then 2048 else 64) - 1) * 2 ^ 16
    else if o = 0x54 then 0x20000
    else if o = 0x58 then 0x28000
    else if o = 0x60 then capHeader f c + 2 * 2 ^ 16
    -- 512-byte payloads, Function Level Reset; 64.0 GT/s at ×16 without active-state power management
    else if o = 0x64 then listed (listed rest 2 0 2) 28 28 1
    else if o = 0x6C then listed (listed (listed rest 3 0 6) 9 4 16) 11 10 0
    -- completion timeouts A to D; 32- and 64-bit AtomicOps, no 128-bit CAS
    else if o = 0x84 then listed (listed rest 3 0 0xF) 9 7 3
    else if o = c.off then capHeader f c
    else if o = 0x14C then listed rest 15 8 0
    -- 14-bit tags, no L0p
    else if o = 0x294 then listed rest 3 1 3
    else if o = 0x304 then 0x20
    else if o = 0x31C then 16 + 16 * 2 ^ 16
    else if o = 0x320 then 0
    else if o = 0x324 then 1 + 1 * 2 ^ 16
    else if o = 0x328 then rest % 2 ^ 16 + 0x4B65 * 2 ^ 16
    else if o = 0x32C ∨ o = 0x330 then 1
    else if o = 0x334 then 0x4
    else if o = 0x33C then 0xC
    else if 0x338 ≤ o ∧ o < 0x34C then 0
    -- one resizable BAR, BAR2, of 1 GiB to 256 GiB
    else if o = 0x384 then 0x007FC000
    else if o = 0x388 then 2 + 1 * 2 ^ 5
    else rest

/-- The double word at configuration offset `o` of function f of host tile q. -/
def State.cfgRead (s : State) (q f o : Nat) : Nat := s.cfgFixed q f o ||| (s.cfgWord q f o &&& s.cfgMask q f o)

/-- Sends the messages that wait behind a mask which has gone (R474). -/
def State.msixRelease (s : State) (q f : Nat) : State :=
  if !(s.msixOn q f) ∨ s.msixAllMasked q f then s
  else (List.range (fnVectors f)).foldl (fun s v =>
    if s.flag (fMsixPba q f v) && !(s.flag (fMsixMask q f v)) then (s.set (fMsixPba q f v) 0).msix q f v else s) s

/-- A write of the bits `m` of a double word. NumVFs changes while VF Enable is 0 and is at most TotalVFs, the window takes the
sizes it supports; a power state moves the function between D0 and D3hot (R453, R456, R458). -/
def State.cfgWrite (s : State) (q f o m w : Nat) : State :=
  let mask := s.cfgMask q f o &&& m
  let new := (s.cfgWord q f o &&& (2 ^ 32 - 1 - mask)) ||| (w &&& mask)
  if o = 0x44 ∧ f = 0 then
    if m % 4 ≠ 3 then s
    else if w % 4 = 3 then s.modHost q (fun h => { h with d3 := f :: h.d3.filter (fun x => x != f) })
    else if w % 4 = 0 then s.modHost q (fun h => { h with d3 := h.d3.filter (fun x => x != f) })
    else s
  else if o = 0x320 ∧ (s.vfEnable q ∨ 16 < new) then s
  else if o = 0x388 ∧ (new / 2 ^ 8 < 10 ∨ 18 < new / 2 ^ 8) then s
  else if mask = 0 then s
  else
    let key := 4096 * f + o
    let s := s.modHost q (fun h => { h with cfg := smSetD h.cfg (cfgInit key) key new })
    if o = 0x50 then s.msixRelease q f else s

end Sys2Proof.Machine
end

