-- ==== Sys2Proof/Machine/Management.lean ====
section
/-! DEFINITION. Commands of the management port: I3C addresses, MCTP control, PLDM, the vendor-defined commands (19 R632 to
R635, R640; 14 R511; 16 R545). The port answers in every mode once CD0 has power. -/

namespace Sys2Proof.Machine

/-- An error response; the request changes nothing. -/
def State.mgtError (s : State) (args : List Nat) : State := s.mgtAnswer "mgt-error" args []

/-! ## Sensors (R634) -/

/-- Temperature of a site as the operator sees it: of a confidential partition only the average of its hottest (14 R511). -/
def State.operatorTemp (s : State) (n : Nat) : Nat :=
  let own := fThmSite n
  if n % 16 ≤ 11 then
    match s.tileOwner (siteTile n) with
    | some u =>
      if s.flag (fTenConf u) then
        (s.averaged u % 65536).toNat
      else s.get own
    | none => s.get own
  else s.get own

/-- The reading of a sensor; none where no sensor has the number. 73 and 74 stand for FAULT_N and THERM_N, of which only
changes are reported. -/
def State.sensor (s : State) (id : Nat) : Option Nat :=
  if id = 1 then some (s.get fPwrPkg)
  else if id = 2 then some (s.get fPwrVin)
  else if id = 3 then some (s.get fPwrIin)
  else if 4 ≤ id ∧ id ≤ 67 then some (s.operatorTemp (id - 4))
  else if id = 68 then some (s.get fCoolAge)
  else if id = 69 then some (s.rd relStat).toNat
  else if id = 70 then some (s.get fBootMode)
  else if id = 71 then some (s.get fLcsState)
  else if id = 72 then some (s.rd twnStat).toNat
  else none

/-- What a change of is reported: sensors 69 to 72, FAULT_N, THERM_N. -/
def State.watched (s : State) : List (Nat × Nat) :=
  [69, 70, 71, 72].map (fun i => (i, (s.sensor i).getD 0))
    ++ [(73, if s.cro.faultN then 1 else 0), (74, if s.cro.thermN then 1 else 0)]

/-! ## I3C and MCTP (R632, R633) -/

/-- The target's static address for SETDASA, and its provisioned ID: vendor code, part code, slot (R632). -/
def State.staticAddr (s : State) : Nat := 0x50 + (if 4 < s.get fMgtSlot then 7 else s.get fMgtSlot)
def State.provId (s : State) : List Nat := [0x1F4A, 0x4B64, s.get fMgtSlot]

/-- I3C_ADDRESS_ASSIGN: the dynamic address, and whether the bus owner enables in-band interrupts. The last assignment
stands (R640). -/
def execI3cAddressAssign (daddr : Nat) (ibi : Bool) (s : State) : Out :=
  .next (
    if !s.cro.aux ∨ daddr = 0 ∨ 127 < daddr then s
    else
      let was := s.flag fMgtIbi
      let s := ((s.set fMgtDaddr daddr).setB fMgtIbi ibi).mgtAnswer "i3c-target" (s.staticAddr :: s.provId) []
      if ibi ∧ !was then s.modCro (fun c => { c with reported := s.watched }) else s)

/-- MCTP_CONTROL: endpoint discovery, or the assignment of an EID. -/
def execMctpControl (eid : Option Nat) (s : State) : Out :=
  .next (
    if !s.cro.aux then s
    else match eid with
    | none => s.mgtAnswer "mctp-response" [s.get fMgtEid] []
    | some e => if e = 0 ∨ e = 255 ∨ 255 < e then s.mgtError [] else (s.set fMgtEid e).mgtAnswer "mctp-response" [e] [])

/-! ## PLDM (R633, R634) -/

/-- PLDM_PLATFORM_REQUEST: reads sensor `id`, or sets effecter `id` to `value`. -/
def execPldmPlatformRequest (id : Nat) (value : Option Nat) (s : State) : Out :=
  .next (
    if !s.cro.aux then s
    else match value with
    | none =>
      match s.sensor id with
      | some v => s.mgtAnswer "pldm-reading" [id, v] []
      | none => s.mgtError [id]
    | some v =>
      if id = 1 then (s.coolReport v (s.get fCoolFlow)).mgtAnswer "pldm-response" [id] []
      else if id = 2 then (s.coolReport (s.get fCoolTin) v).mgtAnswer "pldm-response" [id] []
      else s.mgtError [id])

/-- PLDM_PLATFORM_EVENT: every change since the last report is sent, through an in-band interrupt. -/
def execPldmPlatformEvent (s : State) : Out :=
  .next (
    if !s.cro.aux ∨ !(s.flag fMgtIbi) then s
    else
      let now := s.watched
      let new := now.filter (fun x => smLookup s.cro.reported x.1 != some x.2)
      let s := new.foldl (fun s x => s.mgtAnswer "pldm-event" [x.1, x.2] []) s
      s.modCro (fun c => { c with reported := now }))

/-- PLDM_FRU_READ: the record that holds the package identity record. -/
def execPldmFruRead (s : State) : Out :=
  .next (if !s.cro.aux then s else s.mgtAnswer "pldm-fru" [] (wordBytes s.ident))

/-- PLDM_FIRMWARE_UPDATE: the image is checked as one in the recovery buffer is; `flashOk`: writing it and reading it back
succeed. In recovery mode the service domain holds the buffer meanwhile (16 R545). While log records wait the write is
suspended (19 R631). -/
def execPldmFirmwareUpdate (image : List Byte) (flashOk : Bool) (s : State) : Out :=
  .next (
    let recov := s.inRecovery
    if !s.cro.aux then s
    else if !(s.ready || recov) ∨ (recov ∧ (s.recHold.isSome ∨ s.cro.recDelay)) then s.mgtError []
    else
      let b (i : Nat) : Byte := image.getD i 0
      let w1 := hdrWord b 1
      let fits := decide (192 + bitsOf w1 31 0 + bitsOf w1 63 32 ≤ image.length ∧ image.length ≤ 2 ^ 23)
      match (if fits then s.imageCheck b 192 1 else .error 0x04) with
      | .error c => s.mgtError [c]
      | .ok _ =>
        if !flashOk then s.mgtError [7]
        else if !recov ∧ s.cro.flashHeld.isSome then s.mgtError []
        else if !recov ∧ s.logWait ≠ [] then s.modCro (fun c => { c with flashHeld := some image })
        else
          let s := (s.emit "flash-write" [] image).mgtAnswer "pldm-response" [] []
          if recov then ({ s with recHold := some 4 }).showRecov.modCro (fun c => { c with recDelay := true }) else s)

/-! ## Vendor-defined commands (R635) -/

/-- MGT_RESET: vendor command 0x01. -/
def execMgtReset (s : State) : Out :=
  .next (if !s.cro.aux then s else (s.mgtAnswer "vendor-done" [0x01] []).wholeReset)

/-- MGT_FAILOVER: vendor command 0x02. -/
def execMgtFailover (s : State) : Out :=
  .next (
    if !s.cro.aux then s
    else if !s.ready ∨ s.get fTwnRole ≠ 2 then s.mgtError [0x02]
    else s.failover.mgtAnswer "vendor-done" [0x02] [])

/-- A write of TEN_CFGu by firmware: creates, changes or tears down (14 R488). -/
def State.tenCfgWrite (s : State) (u : Nat) (w : Word) : State :=
  if 15 < u then s
  else if s.flag (fTenValid u) ∧ bitsOf w 63 63 = 0 then
    (if s.fencedTen.contains u then s.tearLater u w else s.tearWrite u w)
  else
    let s := s.checkReserved 16 (tenCfg u) w
    let r := s.tenRefusal u w
    if r ≠ 0 then s.tenRefuse u r
    else s.tenWrite u w

/-- MGT_TENANT_CONFIG: vendor command 0x03. `key`: the words of TEN_KEYu to set before a creation. -/
def execMgtTenantConfig (u : Nat) (key : List Word) (w : Word) (s : State) : Out :=
  .next (
    if !s.cro.aux then s
    else if !s.ready ∨ 15 < u then s.mgtError [0x03]
    else
      let s := if s.flag (fTenValid u) ∨ key = [] then s
        else (List.range 4).foldl (fun s j => s.wr (tenKey u j) (key.getD j 0)) s
      if s.tenRefusal u w ≠ 0 then (s.tenCfgWrite u w).mgtError [0x03]
      else (s.tenCfgWrite u w).mgtAnswer "vendor-done" [0x03] [])

/-- MGT_READ_LOG: vendor command 0x04, the record of index `i`. -/
def execMgtReadLog (i : Nat) (s : State) : Out :=
  .next (
    if !s.cro.aux then s
    else match s.cro.log[i]? with
    | some r => s.mgtAnswer "vendor-log" [0x04, i] (wordBytes r)
    | none => s.mgtError [0x04])

/-- MGT_READ_STATUS: vendor command 0x05; the read of CCX_DOMST clears its read-and-clear field. -/
def execMgtReadStatus (s : State) : Out :=
  .next (
    if !s.cro.aux then s
    else
      let r := s.readReg ccxDomst
      r.1.mgtAnswer "vendor-status" [0x05] (wordBytes [s.rd bootStat, s.rd fBootTime.off, r.2]))

end Sys2Proof.Machine
end

