-- ==== Sys2Proof/Machine/Vector.lean ====
section
/-! DEFINITION. Vector instructions and conversions (05 R183 to R194; 03 R107 to R118; 06 R202, R212). A vector
instruction is carried out when it issues: the unit is pipelined and keeps program order (05 R166, R167). -/

namespace Sys2Proof.Machine

/-! ## Loads and stores (R187) -/

def lanesOf (bs : List Byte) : Vector Lane 32 :=
  Vector.ofFn (fun i : Fin 32 => BitVec.ofNat 16 ((bs.getD (2 * i.val) 0).toNat + 256 * (bs.getD (2 * i.val + 1) 0).toNat))

def laneBytes (v : Vector Lane 32) : List Byte := v.toList.flatMap (fun x => bytesLE 2 x.toNat)

/-- The checks of VLD and VST: alignment, then the scratchpad's end. -/
def vecAccess (o : Word) : Option Fail :=
  if o.toNat % 64 ≠ 0 then some (0x03, o.toNat)
  else if 0x7FC0 < o.toNat then some (0x04, o.toNat)
  else none

def execVld (c : Nat) (v : Fin 16) (a : Fin 32) (imm : BitVec 16) (s : State) : Out :=
  .next (s.issue c [a] [v] (fun k =>
    let o := effAddr k a imm
    match vecAccess o with
    | some e => s.raiseSync c e.1 e.2
    | none =>
      if !(k.extFree [(o.toNat, 64)] []) then s
      else match s.spadPoison c o.toNat 64 with
        | some w => s.unitPoison c w k.pc
        | none => (s.modCore c (fun k => k.setV v (lanesOf (s.spadBytes c o.toNat 64)))).retire c))

def execVst (c : Nat) (v : Fin 16) (a : Fin 32) (imm : BitVec 16) (s : State) : Out :=
  .next (s.issue c [a] [v] (fun k =>
    let o := effAddr k a imm
    match vecAccess o with
    | some e => s.raiseSync c e.1 e.2
    | none =>
      if !(k.extFree [] [(o.toNat, 64)]) then s
      else (s.setSpad c o.toNat (laneBytes (k.vreg v))).retire c))

/-! ## Elementwise operations (R184 to R186) -/

/-- An instruction whose whole effect is a vector result. -/
def State.vector (s : State) (c : Nat) (d : Fin 16) (vs : List (Fin 16)) (f : Core → Vector Lane 32) : State :=
  s.issue c [] (d :: vs) (fun k => (s.modCore c (fun k' => k'.setV d (f k))).retire c)

def State.vop1 (s : State) (c : Nat) (d a : Fin 16) (f : Lane → Lane) : State :=
  s.vector c d [a] (fun k => (k.vreg a).map f)

def State.vop2 (s : State) (c : Nat) (d a b : Fin 16) (f : Lane → Lane → Lane) : State :=
  s.vector c d [a, b] (fun k => Vector.ofFn (fun i : Fin 32 => f (k.vreg a)[i] (k.vreg b)[i]))

def State.vop3 (s : State) (c : Nat) (d a b e : Fin 16) (f : Lane → Lane → Lane → Lane) : State :=
  s.vector c d [a, b, e] (fun k => Vector.ofFn (fun i : Fin 32 => f (k.vreg a)[i] (k.vreg b)[i] (k.vreg e)[i]))

def laneMask (b : Bool) : Lane := if b then 0xFFFF else 0

def laneAdd (x y : Lane) : Lane := fAdd (f16Val x) (f16Val y)
def laneSub (x y : Lane) : Lane := fAdd (f16Val x) (f16Val y).negate
def laneMul (x y : Lane) : Lane := fMul (f16Val x) (f16Val y)
def laneFma (x y z : Lane) : Lane := fFma (f16Val x) (f16Val y) (f16Val z)
def laneLess (x y : Lane) : Lane := laneMask (fLess false (f16Val x) (f16Val y))
def laneEqual (x y : Lane) : Lane := laneMask (fEqual (f16Val x) (f16Val y))
def laneSel (x y z : Lane) : Lane := if z ≠ 0 then x else y

def execVaddH (c : Nat) (d a b : Fin 16) (s : State) : Out := .next (s.vop2 c d a b laneAdd)
def execVsubH (c : Nat) (d a b : Fin 16) (s : State) : Out := .next (s.vop2 c d a b laneSub)
def execVmulH (c : Nat) (d a b : Fin 16) (s : State) : Out := .next (s.vop2 c d a b laneMul)
def execVminH (c : Nat) (d a b : Fin 16) (s : State) : Out := .next (s.vop2 c d a b f16Min)
def execVmaxH (c : Nat) (d a b : Fin 16) (s : State) : Out := .next (s.vop2 c d a b f16Max)
def execVcltH (c : Nat) (d a b : Fin 16) (s : State) : Out := .next (s.vop2 c d a b laneLess)
def execVceqH (c : Nat) (d a b : Fin 16) (s : State) : Out := .next (s.vop2 c d a b laneEqual)
def execVaddI (c : Nat) (d a b : Fin 16) (s : State) : Out := .next (s.vop2 c d a b (fun x y => x + y))
def execVsubI (c : Nat) (d a b : Fin 16) (s : State) : Out := .next (s.vop2 c d a b (fun x y => x - y))
def execVand (c : Nat) (d a b : Fin 16) (s : State) : Out := .next (s.vop2 c d a b (fun x y => x &&& y))
def execVor (c : Nat) (d a b : Fin 16) (s : State) : Out := .next (s.vop2 c d a b (fun x y => x ||| y))
def execVxor (c : Nat) (d a b : Fin 16) (s : State) : Out := .next (s.vop2 c d a b (fun x y => x ^^^ y))
def execVshlI (c : Nat) (d a b : Fin 16) (s : State) : Out := .next (s.vop2 c d a b (fun x y => x <<< (y.toNat % 16)))
def execVshrI (c : Nat) (d a b : Fin 16) (s : State) : Out := .next (s.vop2 c d a b (fun x y => x >>> (y.toNat % 16)))
def execVsraI (c : Nat) (d a b : Fin 16) (s : State) : Out :=
  .next (s.vop2 c d a b (fun x y => x.sshiftRight (y.toNat % 16)))
def execVcltI (c : Nat) (d a b : Fin 16) (s : State) : Out := .next (s.vop2 c d a b (fun x y => laneMask (x.slt y)))
def execVfmaH (c : Nat) (d a b e : Fin 16) (s : State) : Out := .next (s.vop3 c d a b e laneFma)
def execVsel (c : Nat) (d a b e : Fin 16) (s : State) : Out := .next (s.vop3 c d a b e laneSel)
def execVabsH (c : Nat) (d a : Fin 16) (s : State) : Out := .next (s.vop1 c d a (fun x => x &&& 0x7FFF))
def execVnegH (c : Nat) (d a : Fin 16) (s : State) : Out := .next (s.vop1 c d a (fun x => x ^^^ 0x8000))
def execVrcpH (c : Nat) (d a : Fin 16) (s : State) : Out := .next (s.vop1 c d a (fun x => f16Rcp (f16Val x)))
def execVrsqH (c : Nat) (d a : Fin 16) (s : State) : Out := .next (s.vop1 c d a (fun x => f16Rsq (f16Val x)))
def execVexp2H (c : Nat) (d a : Fin 16) (s : State) : Out := .next (s.vop1 c d a (fun x => f16Exp2 (f16Val x)))

/-! ## Reductions and scalar moves (R188, R189) -/

/-- A reduction of a vector register into a scalar register. -/
def State.reduce (s : State) (c : Nat) (d : Fin 32) (va : Fin 16) (f : Vector Lane 32 → Word) : State :=
  s.issue c [d] [va] (fun k => (s.modCore c (fun k' => k'.setS d (f (k.vreg va)))).retire c)

/-- The F32 sum of 32 F16 lanes (R189). -/
def laneSum (v : Vector Lane 32) : F32 :=
  let l := v.toList.map f16Val
  let pInf := l.contains (.inf false)
  let nInf := l.contains (.inf true)
  if l.any FVal.isNan || (pInf && nInf) then 0x7FC00000
  else if pInf then 0x7F800000
  else if nInf then 0xFF800000
  else (f32Sat .nearestEven (Q.sum (l.map FVal.q))).1

/-- Folds the lanes by a two-lane operation. -/
def laneFold (f : Lane → Lane → Lane) (v : Vector Lane 32) : Lane := v.toList.tail.foldl f v[0]

/-- A single NaN among the lanes gives way to the others; a fold over NaNs only gives the canonical NaN (R185). -/
def laneExtreme (f : Lane → Lane → Lane) (v : Vector Lane 32) : Lane :=
  let r := laneFold f v
  if (f16Val r).isNan then f16Nan else r

def laneIntSum (v : Vector Lane 32) : Word := BitVec.ofInt 64 ((v.toList.map BitVec.toInt).foldl (· + ·) 0)

def execVrsumH (c : Nat) (d : Fin 32) (va : Fin 16) (s : State) : Out :=
  .next (s.reduce c d va (fun v => (laneSum v).setWidth 64))
def execVrmaxH (c : Nat) (d : Fin 32) (va : Fin 16) (s : State) : Out :=
  .next (s.reduce c d va (fun v => (laneExtreme f16Max v).setWidth 64))
def execVrminH (c : Nat) (d : Fin 32) (va : Fin 16) (s : State) : Out :=
  .next (s.reduce c d va (fun v => (laneExtreme f16Min v).setWidth 64))
def execVrsumI (c : Nat) (d : Fin 32) (va : Fin 16) (s : State) : Out := .next (s.reduce c d va laneIntSum)
def execVext (c : Nat) (d : Fin 32) (va : Fin 16) (lane : Fin 32) (s : State) : Out :=
  .next (s.reduce c d va (fun v => v[lane].setWidth 64))

def execVbcast (c : Nat) (vd : Fin 16) (a : Fin 32) (s : State) : Out :=
  .next (s.issue c [a] [vd] (fun k =>
    (s.modCore c (fun k' => k'.setV vd (Vector.replicate 32 ((k.sreg a).setWidth 16)))).retire c))

def execVins (c : Nat) (vd : Fin 16) (a : Fin 32) (lane : Fin 32) (s : State) : Out :=
  .next (s.issue c [a] [vd] (fun k =>
    (s.modCore c (fun k' => k'.setV vd ((k'.vreg vd).set lane ((k.sreg a).setWidth 16)))).retire c))

/-! ## Draws and flags of a conversion -/

/-- The state after the draws of a conversion, and the draws (03 R110). -/
def State.takeDraws (s : State) (c : Nat) (stochastic : Bool) (n : Nat) : State × List Nat :=
  if stochastic then
    let d := drawsFor true n ((s.core c).srd c 0x013)
    (s.modCore c (fun k => k.swr 0x013 d.1), d.2)
  else (s, [])

/-- A conversion whose lanes and saturation are known: draws are made, the result and the flag are written. -/
def State.convertLanes (s : State) (c : Nat) (vd : Fin 16) (stochastic : Bool) (f : List Nat → List (Lane × Bool)) :
    State :=
  let r := s.takeDraws c stochastic 32
  let l := f r.2
  ((r.1.modCore c (fun k => k.setV vd (vecOf (l.map (fun x => x.1))))).stick c cvSat (l.any (fun x => x.2))).retire c

/-- Bytes that VLDQ reads: the block half's data bytes, its scale byte, the tail (R190). -/
def halfReads (w : Word) : List Ext :=
  let f := bwFmt w
  let b := blockBytes f
  let data : Ext :=
    if f = fmtKT2 then
      let lo := 32 * bwH w / 5
      let hi := (32 * bwH w + 31) / 5
      (bwOff w + b * bwI w + lo, hi + 1 - lo)
    else (bwOff w + b * bwI w + b / 2 * bwH w, b / 2)
  [data, (bwOff w + scalePlane f + bwI w, 1), (bwOff w + tailOffset f, 64)]

def execVldq (c : Nat) (vd : Fin 16) (a : Fin 32) (stochastic : Bool) (s : State) : Out :=
  .next (s.issue c [a] [vd] (fun k =>
    let w := k.sreg a
    match blockWord w with
    | some e => s.raiseSync c e.1 e.2
    | none =>
      if !(k.extFree (halfReads w) []) then s
      else match s.blockCheck c w with
      | some e => s.raiseSync c e.1 e.2
      | none =>
      match (halfReads w).findSome? (fun e => s.spadPoison c e.1 e.2) with
        | some p => s.raiseSync c 0x05 p
        | none =>
          let sb := s.sb c (bwOff w)
          let t := readTail (bwFmt w) sb
          let u := blockUnit (bwFmt w) t sb (bwI w)
          s.convertLanes c vd stochastic (fun ds => (List.range 32).map (fun n =>
            f16Sat (rndOf stochastic ds n) (Q.mul (Q.int (gridAt (bwFmt w) t sb (bwI w) (32 * bwH w + n))) u)))))

def execVcvtHi (c : Nat) (vd va : Fin 16) (stochastic : Bool) (s : State) : Out :=
  .next (s.issue c [] [vd, va] (fun k =>
    s.convertLanes c vd stochastic (fun ds => (List.range 32).map (fun n =>
      f16Sat (rndOf stochastic ds n) (Q.int ((k.vreg va).toList.getD n 0).toInt)))))

/-- Rounds a value to an integer in −32,768 to +32,767 (R191). -/
def toI16 (rnd : Rnd) (v : FVal) : Lane × Bool :=
  match v with
  | .nan => (0, true)
  | .inf n => (if n then 0x8000 else 0x7FFF, true)
  | .fin _ _ =>
    let t := v.q
    if Q.lt t (Q.int (-32768)) then (0x8000, true)
    else if Q.lt (Q.int 32767) t then (0x7FFF, true)
    else
      let lo := t.floor
      let hi := t.ceil
      let a := Q.sub t (Q.int lo)
      let up := match rnd with
        | .nearestEven => Q.lt (Q.int 1) (Q.add a a) || (Q.eq (Q.add a a) (Q.int 1) && lo % 2 != 0)
        | .stochastic r => Q.lt (Q.int r) (Q.mul a (Q.int 65536))
      (BitVec.ofInt 16 (if up then hi else lo), false)

def execVcvtIh (c : Nat) (vd va : Fin 16) (stochastic : Bool) (s : State) : Out :=
  .next (s.issue c [] [vd, va] (fun k =>
    s.convertLanes c vd stochastic (fun ds => (List.range 32).map (fun n =>
      toI16 (rndOf stochastic ds n) (f16Val ((k.vreg va).toList.getD n 0))))))

/-! ## Superblock conversions (R192 to R194) -/

/-- The common part of a QCVT: the checks, the scoreboard, the poison check of the source (R165, R193). `f` gets the
state, the conversion word, the destination and the source offset. -/
def State.qcvt (s : State) (c fn : Nat) (d a b : Fin 32) (f : Word → Nat → Nat → State) : State :=
  s.issue c [d, a, b] [] (fun k =>
    let w := k.sreg a
    match qcvtWord fn w (k.sreg d) (k.sreg b) with
    | some e => s.raiseSync c e.1 e.2
    | none =>
      let dst := (k.sreg d).toNat
      let src := (k.sreg b).toNat
      if !(k.extFree [(src, sideSize (cwSfmt w))] [(dst, sideSize (cwDfmt w))]) then s
      else match s.qcvtCheck c fn w (k.sreg d) (k.sreg b) with
      | some e => s.raiseSync c e.1 e.2
      | none =>
      match s.spadPoison c src (sideSize (cwSfmt w)) with
        | some p => s.raiseSync c 0x05 p
        | none => f w dst src)

/-- The source buffer's 4,096 values. -/
def State.bufVals (s : State) (c fmt off : Nat) : List FVal := (List.range 4096).map (s.bufElem c fmt off)

/-- The guard's block sample of a QSB in observe mode (06 R212). -/
def State.sampleQsb (s : State) (c pc : Nat) (S : Q) (fmt : Nat) (xs : List Q) (bs : List QBlock) : State :=
  let p := s.cget c gPhase
  let b := bs.getD p ⟨0, [], none, [], false, false, false⟩
  let x := (xs.drop (64 * p)).take 64
  let unit := Q.mul (e5m3 b.scale) (Q.mul S (gridUnit fmt))
  let total := Q.sum (x.map Q.abs)
  let err := Q.sum (List.zipWith (fun v g => (Q.sub v (Q.mul (Q.int g) unit)).abs) x b.grid)
  let rel := if Q.lt Q.zero total then rel16 err total else 0
  let e := estStep (s.cget c gE3) rel
  let s := (s.cset c gE3 e).gcount c 3 0 p gSamples 1
  let thr := s.cget c (gThr 3)
  let s := if overThreshold e thr then
      (s.cset c gOver3 1).guardEvent c 0x14 ⟨3, 0, e, thr, p, pc, p⟩ else s
  s.cset c gPhase (p + 1)

def execQsb (c : Nat) (d a b : Fin 32) (s : State) : Out :=
  .next (s.qcvt c 1 d a b (fun w dst src =>
    let xs := (s.bufVals c (cwSfmt w) src).map FVal.q
    let r := s.takeDraws c (cwMode w) 4096
    let bs := quantizeSuperblock (cwDfmt w) (cwSscale w) (cwBudget w) (cwMode w) xs r.2
    let pc := (s.core c).pc
    let p := s.cget c gPhase
    let t := r.1.setSpad c dst (superblockBytes (cwDfmt w) (cwSscale w) bs)
    let count (f : QBlock → Bool) : Nat := (bs.filter f).length
    let t := ((t.stick c cvSat (bs.any QBlock.sat)).stick c cvSovf (bs.any QBlock.sovf)).stick c cvSdrop
      (bs.any QBlock.sdrop)
    let t := ((t.gcount c 3 0 p gSat3 (count QBlock.sat)).gcount c 3 0 p gSovf3 (count QBlock.sovf)).gcount c 3 0 p gSdrop3
      (count QBlock.sdrop)
    let t := if 1 ≤ s.effMode c 3 0 then t.sampleQsb c pc (sscaleValue (cwSscale w)) (cwDfmt w) xs bs else t
    t.retire c))

def execDqb (c : Nat) (d a b : Fin 32) (s : State) : Out :=
  .next (s.qcvt c 2 d a b (fun w dst src =>
    let fmt := cwSfmt w
    let sb := s.sb c src
    let tl := readTail fmt sb
    let r := s.takeDraws c (cwMode w) 4096
    let vals := (List.range 64).flatMap (fun i =>
      let u := blockUnit fmt tl sb i
      (gridRow fmt tl sb i).map (fun g => Q.mul (Q.int g) u))
    let outs : List (List Byte × Bool) := List.zipWith (fun v k =>
      let rnd := rndOf (cwMode w) r.2 k
      if cwDfmt w = fmtF32 then (bytesLE 4 (f32Sat rnd v).1.toNat, (f32Sat rnd v).2)
      else (bytesLE 2 (f16Sat rnd v).1.toNat, (f16Sat rnd v).2)) vals (List.range 4096)
    ((r.1.setSpad c dst (outs.flatMap (fun x => x.1))).stick c cvSat (outs.any (fun x => x.2))).retire c))

def execCvtb (c : Nat) (d a b : Fin 32) (s : State) : Out :=
  .next (s.qcvt c 3 d a b (fun w dst src =>
    let r := s.takeDraws c (cwMode w) 4096
    let outs : List (List Byte × Bool) := List.zipWith (fun v k =>
      if cwDfmt w = fmtF32 then (bytesLE 4 (toF32 v).toNat, false)
      else
        let x := toF16 (rndOf (cwMode w) r.2 k) v
        (bytesLE 2 x.1.toNat, x.2)) (s.bufVals c (cwSfmt w) src) (List.range 4096)
    ((r.1.setSpad c dst (outs.flatMap (fun x => x.1))).stick c cvSat (outs.any (fun x => x.2))).retire c))

end Sys2Proof.Machine
end

