-- ==== Sys2Proof/Machine/Special.lean ====
section
/-! DEFINITION. System instructions of a core: special registers, the barrier, the end of the tick, the return from the
handler, the instruction fence, illegal words, and the report of a stopped core (04 R121, R123, R124, R133, R153 to R161;
05 R169, R197, R198; 06 R206, R211 to R213). -/

namespace Sys2Proof.Machine

/-! ## Special registers -/

/-- The listed special registers (04 R133, 05 R198). -/
def srListed (n : Nat) : Bool :=
  [0x000, 0x001, 0x002, 0x010, 0x011, 0x012, 0x013, 0x020, 0x021, 0x022, 0x030, 0x031, 0x032, 0x038, 0x039, 0x03A,
   0x03B, 0x03C, 0x03D, 0x03E, 0x03F].contains n

/-- Registers whose read waits for the queued tensor work, and whose write does (05 R169, 06 R211). -/
def srReadWaits (n : Nat) : Bool := [0x012, 0x039, 0x03A, 0x03B, 0x03D, 0x03E, 0x03F].contains n
def srWriteWaits (n : Nat) : Bool := [0x012, 0x039, 0x03A, 0x03B].contains n

/-- The value that MFSR reads. -/
def State.srRead (s : State) (c n : Nat) : Word :=
  let k := s.core c
  if n = 0x000 then
    match k.task with
    | some t => packW [(s.tdTenant t, 52), (t, 36), (c, 0)]
    | none => packW [(c, 0)]
  else if n = 0x001 then s.rd tsqTick
  else if n = 0x002 then BitVec.ofNat 64 ((s.cycles (tileDom (coreTile c)) - k.cyc0) / 40)
  else if n = 0x030 then putBits (k.srd c n) 15 8 (s.coreFloors c)
  else k.srd c n

/-- The read-and-clear fields of a register (00 R11). -/
def State.srClear (s : State) (c n : Nat) : State :=
  if n = 0x010 then s.cset c cMsgErrCnt 0
  else if 0x03D ≤ n ∧ n ≤ 0x03F then s.modCore c (fun k => k.swr n 0)
  else s

def execMfsr (c : Nat) (d : Fin 32) (n : BitVec 12) (s : State) : Out :=
  .next (s.issue c [d] [] (fun k =>
    if !srListed n.toNat then s.raiseSync c 0x02 (encR 0x20 d.val 0 0 0 + n.toNat)
    else if srReadWaits n.toNat && !k.tq.isEmpty then s
    else ((s.srClear c n.toNat).modCore c (fun k => k.setS d (s.srRead c n.toNat))).retire c))

/-- Reserved bits of a special register (the register maps of 02, 03, 04, 05, 06). -/
def srReserved (n : Nat) : List (Nat × Nat) :=
  if n = 0x000 then [(63, 56), (35, 20)]
  else if n = 0x010 then [(63, 56), (43, 40), (15, 9), (7, 6)]
  else if n = 0x011 then [(63, 16)]
  else if n = 0x012 then [(63, 4)]
  else if n = 0x020 then [(63, 56)]
  else if n = 0x021 then [(63, 15)]
  else if n = 0x022 then [(63, 31), (15, 9), (7, 5)]
  else if n = 0x030 then [(63, 16)]
  else if n = 0x039 then [(63, 32), (15, 14), (7, 6)]
  else []

/-- A positive finite F16 in bits [15:0], zeros above (05 R198). -/
def thresholdOk (w : Word) : Bool := decide (0 < w.toNat ∧ w.toNat < 0x7C00)

/-- A value that the register refuses with an illegal operand (05 R198, 06 R206, R212). -/
def srRefuses (n : Nat) (w : Word) : Bool :=
  if n = 0x030 then
    (List.range 4).any (fun i => bitsOf w (2 * i + 1) (2 * i) == 3) || bitsOf w 5 4 == 2 || bitsOf w 7 6 == 2
  else if n = 0x031 ∨ n = 0x032 ∨ n = 0x03C then !thresholdOk w
  else if n = 0x038 then decide (bitsOf w 63 17 ≠ 0 ∨ bitsOf w 15 15 ≠ 0)
  else false

/-- A word with the bits of `m` that are 1 in `w` cleared. -/
def clearBits (old w m : Word) : Word := old &&& ~~~(w &&& m)

/-- The stored word after a write of `w`, under the access codes of the fields. -/
def srWritten (n : Nat) (old w : Word) : Word :=
  if n = 0x010 then clearBits old w 0x100
  else if n = 0x011 then clearBits old w 0xFFFF
  else if n = 0x012 then clearBits old w 0xF
  else if n = 0x013 then (if w = 0 then 0x4B64000000000001 else w)
  else if n = 0x021 then w &&& 0x7FFC
  else if n = 0x022 then (old &&& 0x100) ||| (w &&& 0x7FFC001F)
  else if n = 0x030 then w &&& 0xFF
  else if n = 0x031 ∨ n = 0x032 ∨ n = 0x03C then w &&& 0xFFFF
  else if n = 0x038 then w &&& 0x17FC0
  else if n = 0x039 then clearBits ((old &&& 0x3F3F) ||| (w &&& 0xFFFF0000)) w 0x3F
  else if n = 0x03A ∨ n = 0x03B then w
  else old

def execMtsr (c : Nat) (a : Fin 32) (n : BitVec 12) (s : State) : Out :=
  .next (s.issue c [a] [] (fun k =>
    let m := n.toNat
    let w := k.sreg a
    if !srListed m then s.raiseSync c 0x02 (encR 0x20 0 a.val 0 0 + 0x1000 + m)
    else if srRefuses m w then s.raiseSync c 0x02 w.toNat
    else if srWriteWaits m && !k.tq.isEmpty then s
    else
      let t := s.modCore c (fun k => k.swr m (srWritten m (k.srd c m) w))
      let t := if (srReserved m).any (fun f => bitsOf w f.1 f.2 != 0) then t.reservedSr c m else t
      t.retire c))

/-! ## Barrier, end of tick, return, fence -/

/-- TBAR: the core waits; the barrier it has reached is the next in its count (R154). -/
def execTbar (c : Nat) (s : State) : Out :=
  .next (s.issue c [] [] (fun k =>
    match k.task with
    | none => s
    | some _ => s.modCore c (fun k => { k with mode := .atBarrier, bars := k.bars + 1 })))

/-- TBAR_RELEASE: when every core of task k's group has reached the barrier that the waiting cores wait at, all are
released together (R154). -/
def execTbarRelease (k : Nat) (s : State) : Out :=
  .next (
    let g := s.present k
    let waiting := g.filter (fun c => decide ((s.core c).mode = .atBarrier ∧ (s.core c).task = some k))
    let n := (waiting.map (fun c => (s.core c).bars)).foldl max 0
    if waiting.isEmpty || !(g.all (fun c => decide ((s.core c).task = some k ∧ n ≤ (s.core c).bars))) then s
    else waiting.foldl (fun s c => ((s.modCore c (fun x => { x with mode := .running })).retire c).deliver c) s)

/-- TEND: waits for the core's messages and DMA commands, then reports; the task is Done with the last report (R155). -/
def execTend (c : Nat) (s : State) : Out :=
  .next (s.issue c [] [] (fun x =>
    match x.task with
    | none => s
    | some k =>
      if s.outstanding c ≠ 0 ∨ !(s.dmaDone c) then s
      else (s.modCore c (fun x => { x with mode := .ended })).doneWhenEnded k))

/-- ERET is no jump of R131, yet continues elsewhere: DESIGN CHOICE (log 95), at 0x7FFC it raises no exception of R132, no more
than TEND does, after which nothing is fetched. ERET: continues at CORE_EPC and clears inh; pending asynchronous exceptions are then taken in cause order (R159). -/
def execEret (c : Nat) (s : State) : Out :=
  .next (s.issue c [] [] (fun _ =>
    ((s.jump c (s.cget c cEpc)).cset c cInh 0).deliver c))

/-- FENCE.I: the fetch buffer is empty in the model, so only the program counter advances (R121). -/
def execFenceI (c : Nat) (s : State) : Out := .next (s.issue c [] [] (fun _ => s.retire c))

/-! ## Illegal instruction words (R123, R124) -/

/-- The listed functions of a format R major opcode with the fields of theirs that must be 0: fn, then whether d, a
and b are free. -/
def rListed (op fn d a b : Nat) : Bool :=
  let z (x : Nat) : Bool := x == 0
  let v (x : Nat) : Bool := decide (x < 16)
  let t (x : Nat) : Bool := decide (x < 8)
  if op = 0x00 then
    (decide (1 ≤ fn ∧ fn ≤ 0x10) || fn == 0x14) || (decide (0x11 ≤ fn ∧ fn ≤ 0x13) && z b)
  else if op = 0x1D then
    ((fn == 1 || fn == 2) && z d) || decide (0x10 ≤ fn ∧ fn ≤ 0x13) || (fn == 0x20 && z d && z a && z b)
  else if op = 0x1F then (fn == 1 && z d && z b) || (fn == 2 && z d && z a && z b)
  else if op = 0x22 then fn % 16 == 1 && fn / 128 == 0 && t d
  else if op = 0x23 then
    let o := fn % 16
    let mode := fn / 16 % 2
    let row := fn / 32 % 16
    fn / 512 == 0 &&
      ((o == 1 && z mode && z row && t d && z a && z b)
        || ((o == 2 || o == 3 || o == 6) && z mode && z row && t d && z b)
        || (o == 4 && v d && t a && z b) || (o == 5 && z mode && t d && v a && z b))
  else if op = 0x26 then
    let o := fn % 128
    let e := fn / 128
    v d && v a &&
      ((((o == 4 || o == 0x0E) && v b))
        || (e == 0 && (decide (7 ≤ o ∧ o ≤ 0x0B)) && z b)
        || (e == 0 && v b && (decide (1 ≤ o ∧ o ≤ 3) || o == 5 || o == 6 || o == 0x0C || o == 0x0D
              || decide (0x10 ≤ o ∧ o ≤ 0x18))))
  else if op = 0x27 then
    (decide (1 ≤ fn ∧ fn ≤ 4) && v a && z b) || (fn == 0x10 && v d && z b) || (fn == 0x11 && v a) || (fn == 0x12 && v d)
  else if op = 0x28 then
    let o := fn % 16
    fn / 32 == 0 && v d && z b && (o == 1 || ((o == 2 || o == 3) && v a))
  else if op = 0x29 then decide (1 ≤ fn ∧ fn ≤ 3)
  else false

/-- Whether a 32-bit word is an instruction of the manual (R123, R124; 05 R163, R164). -/
def kisLegal (w : BitVec 32) : Bool :=
  let n := w.toNat
  let f (hi lo : Nat) : Nat := n / 2 ^ lo % 2 ^ (hi + 1 - lo)
  let op := f 31 26
  let d := f 25 21
  let a := f 20 16
  let b := f 15 11
  let fn := f 10 0
  if op = 0x07 then a == 0
  else if op = 0x09 then f 15 14 != 3 && f 13 6 == 0
  else if 0x01 ≤ op ∧ op ≤ 0x1C then true
  else if op = 0x1E then
    f 15 15 == 0 && (((fn == 1 || fn == 3 || fn == 4) && d == 0) || (fn == 2 && a == 0))
  else if op = 0x20 then
    let sub := f 15 12
    sub == 0 || sub == 1 || (decide (2 ≤ sub ∧ sub ≤ 5) && d == 0 && a == 0 && f 11 0 == 0)
  else if op = 0x21 then f 25 25 == 0 && f 20 16 == 0
  else if op = 0x24 ∨ op = 0x25 then decide (d < 16)
  else rListed op fn d a b

/-- ILLEGAL_INSTRUCTION: the core meets a word that is no instruction. A legal word is no case of this command. -/
def execIllegalInstruction (c : Nat) (word : BitVec 32) (s : State) : Out :=
  .next (s.issue c [] [] (fun _ => if kisLegal word then s else s.raiseSync c 0x01 word.toNat))

/-! ## A stopped core (R160) -/

/-- CORE_STOP_REPORT: a frozen core reports; its group is discard-stopped and the task parks with a fault record of cause
0x09 built from CORE_EXC, CORE_EPC and CORE_ID (R160; 09 R321, R331). A task that a refusal has parked before loses its tick
too; what a task has committed stands. -/
def execCoreStopReport (c : Nat) (s : State) : Out :=
  .next (
    let x := s.core c
    if x.mode ≠ .frozen then s
    else match x.task with
    | none => s
    | some k =>
      let st := s.tstate k
      if st ≠ tsUnloaded then
        let u := s.tdTenant k
        let info : FaultInfo :=
          { cause := 0x09, src := 0x4, ctx := 0x1F, parked := true, more := false, task := k, faddr := 0, acc := 0,
            aux := 0, who := c, d0 := x.srd c 0x020, d1 := x.srd c 0x021 }
        let s := ((s.discardStop k).setTstate k tsParked).modTask k (fun t => { t with
          faultTick := if st = tsParked then t.faultTick else s.tick })
        (s.modCore c (fun x => { x with mode := .stopped })).taskFault u k info
      else s.modCore c (fun x => { x with mode := .stopped }))

end Sys2Proof.Machine
end

