-- ==== Sys2Proof/Machine/HostAccess.lean ====
section
/-! DEFINITION. Accesses to registers by their addresses: by firmware, by the debug port, by a host through BAR0. A register
whose write has an operation of its own is written through that operation (00 R9 to R11; 13 R455, R462 to R464, R474, R478;
14 R509; 15 R520, R531; 18 R597). -/

namespace Sys2Proof.Machine

/-- The state that an operation leaves. -/
def State.after (s : State) (o : Out) : State :=
  match o with
  | .next t => t
  | _ => s

/-! ## Where a register stands -/

/-- The gateable domain that holds the register, with its site (18 R594, R597). -/
def regDomain (off : Nat) : Option (Nat × Nat) :=
  if 0x00100000 ≤ off ∧ off < 0x00130000 then
    let t := (off - 0x00100000) / 0x1000
    some (tileDom t, tileSite t)
  else if 0x00A00000 ≤ off ∧ off < 0x00A08000 then some (21, openSite ((off - 0x00A00000) / 0x1000))
  else if 0x00B00000 ≤ off ∧ off < 0x00B04000 then some (22, 16 * ((off - 0x00B00000) / 0x1000) + 14)
  else none

/-- The site of a gated block that the register belongs to. -/
def State.gatedReg (s : State) (off : Nat) : Option Nat :=
  match regDomain off with
  | some (m, n) => if s.gated m then some n else none
  | none => none

/-- A bus error: event 0x08, and an error completion. -/
def State.busError (s : State) (off site wr : Nat) : State :=
  (s.raiseX 16 0x08 [] (packW [(regAddr off, 0), (site, 48), (wr, 56)])).emit "bus-error" [regAddr off] []

/-- An access that firmware space refuses (14 R509). -/
def State.outsider (s : State) (site addr wr : Nat) : State :=
  (s.raiseX 16 0x09 [] (packW [(addr, 0), (site % 64, 48), (wr, 56)])).emit "address-error" [addr] []

/-! ## Writes by firmware, the service domain and the debug port -/

/-- A write of a register that has no operation of its own (00 R10). -/
def State.plainWrite (s : State) (off : Nat) (w : Word) : State :=
  (s.checkReserved 16 off w).writeFields off (2 ^ 64 - 1) w

/-- A write of GRD_FLOORp: 0b11 in a field, or 0b10 in pf2 or pf3, makes it one without effect and raises the event; a floor
comes into force at the next boundary, or at once while the sequencer is stopped (06 R224; 10 R338). -/
def State.floorWrite (s : State) (off : Nat) (w : Word) : State :=
  let v (cls : Nat) : Nat := bitsOf w (2 * cls + 1) (2 * cls)
  if (List.range 4).any (fun cls => v cls == 3) || v 2 == 2 || v 3 == 2 then s.reservedWrite 16 (regAddr off)
  else (s.plainWrite off w).settleRegs

/-- Registers of 00 to 09: caps, cache maintenance, stacks, fault queues, translation. -/
def State.write00 (s : State) (off : Nat) (w : Word) : State :=
  if 0x1000 ≤ off ∧ off < 0x1200 then s.after (execPwrCapWrite ((off - 0x1000) / 8) w s)
  else if grdFloor 0 ≤ off ∧ off < grdFloor 16 then s.floorWrite off w
  else if 0x00080000 ≤ off ∧ off < 0x00080400 ∧ off % 0x40 = 0x10 then s.cmoStart ((off - 0x00080000) / 0x40) w
  else if 0x00200000 ≤ off ∧ off < 0x00230000 ∧ 0x800 ≤ off % 0x1000 then
    s.after (execStkRetWrite ((off - 0x00200000) / 0x1000) (off % 0x1000 / 8 - 0x100) w s)
  else if 0x00350000 ≤ off ∧ off < 0x00350440 then
    let u := (off - 0x00350000) / 0x40
    let r := off % 0x40
    if r = 0x08 then s.after (execFltConsWrite u w true s)
    else if r = 0x18 then
      let a := bitsOf w 33 32
      let s := if bitsOf w 63 34 ≠ 0 then s.reservedWrite 16 (regAddr off) else s
      if a = 1 ∨ a = 2 then s.resolve u (bitsOf w 31 0) (a == 2) else s.setB (fFltRsErr u) true
    else if r = 0x20 then s.after (execFltPush u w s)
    else s.plainWrite off w
  else if off = trnCmd then s.trnCommand w
  else s.plainWrite off w

/-- Registers of 10: the tick sequencer. -/
def State.write10 (s : State) (off : Nat) (w : Word) : State :=
  if off = tsqCtrl then
    let s := s.checkReserved 16 off w
    let s := if bitsOf w 2 2 = 1 then s.after (execBankSwapRequest s) else s
    let run := bitsOf w 0 0
    if run = s.get fTsqRun then s
    else if run = 1 then s.after (execTickProgramStart s)
    else s.after (execTickProgramStop s)
  else if off = tsqPeriod then s.after (execTsqPeriodWrite w s)
  else if off = tsqCfg then s.after (execTsqCfgWrite w s)
  else if off = tsqTcmd then s.after (if bitsOf w 1 0 = 2 then execTaskUnload w s else execTaskLoad w s)
  else if 0x00520000 ≤ off ∧ off < 0x00520800 then
    s.after (execSeqSlotWrite ((off - 0x00520000) / 0x20) (off % 0x20 / 8) w s)
  else if 0x00600000 ≤ off ∧ off < 0x00700000 then
    -- the standby bank, except while a swap is pending
    if s.flag fTsqSwap then s.refuseWrite (regAddr off) 4
    else if (off - 0x00600000) / 0x80000 = s.get fTsqBank then s.refuseWrite (regAddr off) 2
    else (s.plainWrite off w).sramWritten (regAddr off) 8
  else if 0x00700000 ≤ off ∧ off < 0x00720000 then
    if s.tstate ((off - 0x00700000) / 0x80) ≠ tsUnloaded then s.refuseWrite (regAddr off) 2 else s.plainWrite off w
  else s.plainWrite off w

/-- Registers of 11 to 13: probes, event queues, labels, open sites, host tiles. `ok`: PF0's Bus Master Enable. -/
def State.write11 (s : State) (off : Nat) (w : Word) (ok : Bool) : State :=
  if 0x00910000 ≤ off ∧ off < 0x00920000 ∧ 0x100 ≤ off % 0x400 then
    let r := off % 0x40 / 8
    if r < 3 then s.probeWrite ((off - 0x00910000) / 0x400) ((off % 0x400 - 0x100) / 0x40) r 16 w else s.plainWrite off w
  else if 0x008C0000 ≤ off ∧ off < 0x008C0440 then
    let u := (off - 0x008C0000) / 0x40
    if off % 0x40 = 0x08 then s.evqConsWrite u true w true
    else if off % 0x40 = 0x18 then s.evqConsWrite u false w true
    else s.plainWrite off w
  else if 0x00940000 ≤ off ∧ off < 0x00940040 then s.after (execSlrCfgWrite ((off - 0x00940000) / 8) w s)
  else if 0x00940100 ≤ off ∧ off < 0x00940500 then s.after (execGuaranteeWrite ((off - 0x00940100) / 8) w s)
  else if 0x00A00000 ≤ off ∧ off < 0x00A08000 then
    let k := (off - 0x00A00000) / 0x1000
    let r := off % 0x1000
    if r = 0x008 then s.osCtlWrite k w
    else if 0x100 ≤ r ∧ r < 0x180 then s.after (execOsGrantWrite k ((r - 0x100) / 8) w s)
    else s.plainWrite off w
  else if 0x00B00000 ≤ off ∧ off < 0x00B04000 then
    let q := (off - 0x00B00000) / 0x1000
    let r := off % 0x1000
    if r < 0x100 then s.after (execHtBindWrite q (r / 8) w s)
    else
      let s := s.checkReserved 16 off w
      if bitsOf w 0 0 = 1 then s.releasePort q ok else s
  else s.plainWrite off w

/-- Registers of 14 and 15: tenancy, the life cycle. `ok`: the erasure of user secrets reads back as done. -/
def State.write14 (s : State) (off : Nat) (w : Word) (ok : Bool) : State :=
  if 0x00C00000 ≤ off ∧ off < 0x00C01000 then
    let u := (off - 0x00C00000) / 0x100
    let r := off % 0x100
    if r = 0 then s.tenCfgWrite u w
    else if 0x08 ≤ r ∧ r < 0x28 ∧ s.flag (fTenValid u) then s.refuseWrite (regAddr off) 2
    else s.plainWrite off w
  else if 0x00C20000 ≤ off ∧ off < 0x00C21000 then
    s.after (execTenPermWrite ((off - 0x00C20000) / 0x100) (off % 0x100 / 8) w s)
  else if 0x00C30000 ≤ off ∧ off < 0x00C30400 then
    let r := (off - 0x00C30000) / 0x10
    s.after (if off % 0x10 = 0 then execComRgnWrite r w s else execComRldWrite r w s)
  else if 0x00D00040 ≤ off ∧ off < 0x00D000A0 then
    if s.get fLcsState = 5 then s.refuseWrite (regAddr off) 2 else s.plainWrite off w
  else if off = lcsCmd then
    let s := s.checkReserved 16 off w
    if bitsOf w 0 0 = 1 then s.after (execLcTransition [] true none ok s) else s
  else if off = tstObssel then s.obsWrite w
  else s.plainWrite off w

/-- Registers of 16 to 19: resets, reliability, the twin, clocks, power, management. -/
def State.write16 (s : State) (off : Nat) (w : Word) : State :=
  if off = bootCtl then s.after (execFwready w s)
  else if off = rstCtl then
    let scope := bitsOf w 31 29
    s.after (if scope = 2 then execResetGroup w s else if scope = 3 then execResetPartition w s
      else if scope = 4 then execResetWhole w s else execResetCore w s)
  else if off = lspCc then s.after (execControlCoreOffline w s)
  else if off = snpCfg then s.after (execSnpCfgWrite w s)
  else if 0x00F01000 ≤ off ∧ off < 0x00F05000 then s.after (execSnpRngWrite ((off - 0x00F01000) / 0x40) (off % 0x40 / 8) w s)
  else if off = twnCfg then s.after (execTwinFailover w s)
  else if off = mirCfg then s.after (execMirCfgWrite none w s)
  else if 0x00F00100 ≤ off ∧ off < 0x00F00300 then s.after (execMirCfgWrite (some ((off - 0x00F00100) / 8)) w s)
  else if off = hubClken then s.clkenWrite w
  else if off = fPkgCap.off then s.after (execPwrCfgWrite w s)
  else if off = coolIn then s.after (execCoolInWrite w s)
  else if 0x01000100 ≤ off ∧ off < 0x010001C8 then s.clkWrite ((off - 0x01000100) / 8) w
  else s.plainWrite off w

/-- A write of the register at an offset. -/
def State.regWrite (s : State) (off : Nat) (w : Word) (ok : Bool) : State :=
  if off < 0x00500000 then s.write00 off w
  else if off < 0x00800000 then s.write10 off w
  else if off < 0x00C00000 then s.write11 off w ok
  else if off < 0x00E00000 then s.write14 off w ok
  else s.write16 off w

/-- A read of the register at an offset; an event queue's word outside cons to prod is an underrun (11 R401). -/
def State.regRead (s : State) (off : Nat) : State × Word :=
  if 0x00800000 ≤ off ∧ off < 0x00880000 then s.evqRead ((off - 0x00800000) / 0x8000) (off % 0x8000 / 8)
  else if 0x00880000 ≤ off ∧ off < 0x008A0000 then s.evqRead 16 ((off - 0x00880000) / 8)
  else s.readReg off

/-- The life-cycle block, which control cores only read (15). -/
def lcsBlock (off : Nat) : Bool := decide (0x00D00000 ≤ off ∧ off < 0x00E00000)

/-! ## A control core's uncached accesses (07 R228, R253)

A control core's loads and stores outside S-space are single accesses past its caches. The two register rows carry them:
an operand `off` from 2^44 on is a whole device address, with the size of the access above bit 47 (log 82). -/

/-- The device address, and the number of bytes, of an uncached access (R253). -/
def looseAddr (off : Nat) : Nat := off % 2 ^ 48
def looseSize (off : Nat) : Nat := 2 ^ (3 - off / 2 ^ 48)

/-- An access of `n` bytes at window offset `o` reaches the guest; the adapter answers one beyond wsz itself (12 R437). -/
def State.windowServes (s : State) (k o n : Nat) : Bool :=
  s.openCarries k && (s.opn k).link && decide (o + n ≤ s.windowBytes k)

/-- A word of hub SRAM that is read shows a double-bit error (07 R256; 17 R563). -/
def State.sramUpset (s : State) (a : Nat) : State :=
  if s.sramBad a then s else { s with badWords := s.badWords ++ [(a, true)] }

/-- The R-space words that hub SRAM holds: tick programs and translation entries. -/
def sramReg (off : Nat) : Bool :=
  decide ((0x00400000 ≤ off ∧ off < 0x00418000) ∨ (0x00600000 ≤ off ∧ off < 0x00700000))

/-- A read at a device address of P-space, O-space or C-space: the data, the poison trap of a scratchpad or context store
word (07 R256, R257), or an address error; `odata` is what an O-space window answers. -/
def State.uncachedRead (s : State) (off : Nat) (odata : List Byte) (upset : Bool) : State :=
  let a := looseAddr off
  let n := looseSize off
  let err := s.emit "address-error" [a] []
  if a % n ≠ 0 then err
  else match s.place a with
  | .stack _ _ => s
  | .core c o =>
    if s.katRuns c then s
    else if s.noCore c then err
    else if (s.spadPoison c o n).isSome then (s.enterTile a).emit "control-core-trap" [1, a] []
    else (s.enterTile a).emit "control-core-data" [a] (s.spadBytes c o n)
  | .window k o =>
    if s.windowServes k o n then
      if s.windowWaits k then s else (s.windowSend k o n false []).emit "control-core-data" [a] (odata.take n)
    else err
  | .ctx _ =>
    let s := if upset then s.sramUpset (a / 8 * 8) else s
    if s.sramBad (a / 8 * 8) then s.emit "control-core-trap" [1, a] [] else s.emit "control-core-data" [a] (s.bytes a n)
  | _ => err

/-- A write of the low bytes of a word; a record that the program references is refused (07 R242). -/
def State.uncachedWrite (s : State) (off : Nat) (w : Word) : State :=
  let a := looseAddr off
  let n := looseSize off
  let err := s.emit "address-error" [a] []
  let bs := bytesLE n w.toNat
  if a % n ≠ 0 then err
  else match s.place a with
  | .stack _ _ => s
  | .core c o => if s.katRuns c then s else if s.noCore c then err else (s.enterTile a).setSpad c o bs
  | .window k o =>
    if s.windowServes k o n then (if s.windowWaits k then s else s.windowSend k o n true bs) else err
  | .ctx o => if s.recordNamed (o / 1024) then (s.refuseWrite a 2).emit "address-error" [a] [] else s.putCtx a bs
  | _ => err

/-- REGISTER_WRITE of the register at R-space offset `off` by a control core (agent 0), by the service domain (agent 1), or
by another agent at site agent − 2, which is refused. `ok` is what the outside contributes: PF0's Bus Master Enable for a
release of a port, the read-back of an erasure for LCS_CMD. In the safe state the control cores are stopped (07 R259). -/
def execRegisterWrite (agent off : Nat) (w : Word) (ok : Bool) (s : State) : Out :=
  .next (
    if agent = 0 ∧ s.inSafe then s
    else if agent = 0 ∧ 2 ^ 44 ≤ off then s.uncachedWrite off w
    else if (findReg off).isNone ∨ 2 ^ 32 ≤ off then s.emit "address-error" [regAddr off] []
    else if 2 ≤ agent then s.outsider (agent - 2) (regAddr off) 1
    else if agent = 0 ∧ lcsBlock off then s.outsider 0x3F (regAddr off) 1
    else match s.gatedReg off with
    | some n => s.busError off n 1
    | none => s.regWrite off w ok)

/-- RS_REGISTER_READ: a read of the register at its offset, by agents as for REGISTER_WRITE; RS fields clear. -/
def execRsRegisterRead (agent : Nat) (x : RegisterLook) (s : State) : Out :=
  let off := x.off
  .next (
    if agent = 0 ∧ s.inSafe then s
    else if agent = 0 ∧ 2 ^ 44 ≤ off then s.uncachedRead off x.odata x.upset
    else if (findReg off).isNone ∨ 2 ^ 32 ≤ off then s.emit "address-error" [regAddr off] []
    else if 2 ≤ agent then s.outsider (agent - 2) (regAddr off) 0
    -- in CD0 hold management reads what R635 lists alone (19 R640)
    else if agent = 1 ∧ s.get fBootMode = 2 ∧ !([bootStat, fBootTime.off, ccxDomst].contains off) then
      s.emit "address-error" [regAddr off] []
    else match s.gatedReg off with
    | some n => s.busError off n 0
    | none =>
      let s := if x.upset && sramReg off then s.sramUpset (regAddr off) else s
      -- no data from an uncorrectable word: a trap of the control core, an address error to the service domain (07 R256, R257)
      if s.sramBad (regAddr off) then
        (if agent = 0 then s.emit "control-core-trap" [1, regAddr off] [] else s.emit "address-error" [regAddr off] [])
      else
        let r := s.regRead off
        r.1.emit "register-read" [off] (bytesLE 8 r.2.toNat))

/-! ## The debug port (15 R520, R531) -/

/-- The debug port's access is served. -/
def State.debugOpen (s : State) : Bool := s.cro.aux && s.get fLcsState != 2 && s.get fLcsState != 5

/-- The debug port's access waits: for the stack in a thermal hold, in retraining, for a granule on its way out (08 R281,
R285, R301), or for a credit of the guest (12 R429). -/
def State.debugWaits (s : State) (a : Nat) (write : Bool) : Bool :=
  match s.place a with
  | .stack t o => s.stackServes t o && s.runWaits t o 8 write
  | .window k _ => s.windowWaits k
  | _ => false

/-- A read of 8 bytes at a device address. -/
def State.debugRead (s : State) (a : Nat) (odata : List Byte) : State × Option (List Byte) :=
  match s.place a with
  | .stack t o => if s.stackServes t o then s.readStack t o 8 0x2 else (s, none)
  | .core c o => if s.noCore c ∨ (s.spadPoison c o 8).isSome then (s, none) else (s, some (s.spadBytes c o 8))
  | .reg off =>
    match s.gatedReg off with
    | some n => (s.busError off n 0, none)
    | none =>
      if s.sramBad (regAddr off) then (s, none)
      else
        let r := s.regRead off
        (r.1, some (bytesLE 8 r.2.toNat))
  | .window k o => if s.windowServes k o 8 then (s.windowSend k o 8 false [], some (odata.take 8)) else (s, none)
  | .ctx _ => if s.sramBad a then (s, none) else (s, some (s.bytes a 8))
  | .nothing => (s, none)

/-- A write of 8 bytes at a device address; false where it fails. -/
def State.debugWrite (s : State) (a : Nat) (w : Word) (ok : Bool) : State × Bool :=
  let bs := bytesLE 8 w.toNat
  match s.place a with
  | .stack t o => if s.stackServes t o then s.writeStack t o bs else (s, false)
  | .core c o => if s.noCore c then (s, false) else (s.setSpad c o bs, true)
  | .reg off =>
    match s.gatedReg off with
    | some n => (s.busError off n 1, false)
    | none => (s.regWrite off w ok, true)
  | .window k o => if s.windowServes k o 8 then (s.windowSend k o 8 true bs, true) else (s, false)
  | .ctx o => if s.recordNamed (o / 1024) then (s.refuseWrite a 2, false) else (s.putCtx a bs, true)
  | .nothing => (s, false)

/-- Where DEBUG_PORT_ACCESS names no device address: 0 to 3 the boundary scan's BYPASS, IDCODE, SAMPLE and EXTEST, 4 a
full-scan shift of the logic state (R520). PRESUMED numbers (log 103). -/
def scanBase : Nat := 2 ^ 48
def State.scanPermitted (s : State) (i : Nat) : Bool := s.cro.aux && (decide (i < 4) || (decide (i = 4) && s.debugOpen))

/-- A shift of the chain: no rule gives the chains, so what comes out is free. It reaches nothing of the security engine
(R521), and changes no state of the device. -/
def State.scanShift (s : State) (i : Nat) : State :=
  if s.scanPermitted i then ({ s with freeCtr := s.freeCtr + 1 }).emit "scan-data" [i] (Config.scanShift i s.freeCtr)
  else s.emit "debug-address-error" [scanBase + i] []

/-- DEBUG_PORT_ACCESS: from `scanBase` on a scan instruction; with `sr` a read of that special register of core `a`; else a
read, or with `w` a write, of the word at device address `a`. `ok` as for REGISTER_WRITE; `odata` is what an O-space window
answers. -/
def execDebugPortAccess (sr : Option Nat) (a : Nat) (w : Option Word) (ok : Bool) (odata : List Byte) (s : State) : Out :=
  .next (
    if sr.isNone ∧ scanBase ≤ a then s.scanShift (a - scanBase)
    else if !s.debugOpen then s.emit "debug-address-error" [a] []
    else match sr with
    | some n =>
      if !(srListed n) ∨ s.noCore a then s.emit "debug-address-error" [a] []
      else (s.srClear a n).emit "debug-data" [a, n] (bytesLE 8 (s.srRead a n).toNat)
    | none =>
      if a % 8 ≠ 0 then s.emit "debug-address-error" [a] []
      else if s.debugWaits a w.isSome then s
      else match w with
      | none =>
        let r := s.debugRead a odata
        match r.2 with
        | some bs => r.1.emit "debug-data" [a] bs
        | none => r.1.emit "debug-address-error" [a] []
      | some w =>
        let r := s.debugWrite a w ok
        if r.2 then r.1 else r.1.emit "debug-address-error" [a] [])

/-! ## BAR0 (13 R455, R462, R463) -/

/-- HEP_FSTAT as it reads: the stored flags with what follows from the binding. -/
def State.fstatWord (s : State) (q f : Nat) : Word :=
  let w := s.rd (hepFstat q f)
  let on := s.flag (fBindEn q f)
  let blocked := bitsOf w 5 3 != 0
  let w := putBits w 55 52 (if on then s.get (fBindTenant q f) else 0)
  let w := putBits (putBits w 51 51 (if on then 1 else 0)) 50 50 (s.get (fBindAdmin q f))
  putBits (putBits w 40 32 (fnQueues f)) 0 0 (if on && !blocked then 1 else 0)

/-- A read of the aligned 8 bytes at BAR0 offset `o`. -/
def State.bar0Read (s : State) (q f o : Nat) : State × Word :=
  if o = 0x000 then (s, s.fstatWord q f)
  else if o = 0x008 then (s, s.rd (hepIvec q f))
  else if o = 0x010 then (s, s.rd ccxDomst)
  else if o = 0x018 then
    (s, match s.boundTo q f with
      | some u => BitVec.ofNat 64 (s.get (fTsqIng u))
      | none => 0)
  else if 0x20000 ≤ o ∧ o < 0x20000 + 16 * fnVectors f then (s, s.rd (hepKey q f o))
  else if 0x28000 ≤ o ∧ o < 0x28000 + fnVectors f / 8 then (s, s.rd (hepKey q f o))
  else if o = 0x40000 ∧ f = 0 then s.readReg (hepPort q)
  else if o = 0x40008 ∧ f = 0 then (if s.inRecovery then s.readReg (hepRecov q) else (s, 0))
  else match s.boundTo q f with
  | none => (s, 0)
  | some u =>
    if 0x2000 ≤ o ∧ o < 0x2000 + 0x20 * fnQueues f then (s, s.rd (hepKey q f o))
    else if 0x4000 ≤ o ∧ o ≤ 0x4020 then s.readReg (evqBlk u + (o - 0x4000))
    else if 0x4100 ≤ o ∧ o ≤ 0x4110 then s.readReg (fltBlk u + (o - 0x4100))
    else if 0x8000 ≤ o ∧ o < 0xC000 then (s, s.rd (fltRec u 0 0 + (o - 0x8000)))
    else if 0x10000 ≤ o ∧ o < 0x18000 then s.evqRead u ((o - 0x10000) / 8)
    else (s, 0)

/-- A write of HEP_IVEC: a vector beyond the table is ignored; a source that is enabled is armed (R474). -/
def State.ivecWrite (s : State) (q f m : Nat) (w : Word) : State :=
  let off := hepIvec q f
  let old := s.rd off
  let new := (s.writeFields off m w).rd off
  if [bitsOf new 43 33, bitsOf new 32 22, bitsOf new 21 11, bitsOf new 10 0].any (fun v => decide (fnVectors f ≤ v)) then s.cfgErr q f
  else
    let s := s.wr off new
    let up (b : Nat) : Bool := bitsOf new b b == 1 && bitsOf old b b == 0
    let s := if up 60 then s.arm q f srcEvp else s
    let s := if up 61 then s.arm q f srcEvn else s
    if up 62 then s.arm q f srcFlt else s

/-- A write of the MSI-X table: an entry that is unmasked sends its pending message. -/
def State.msixWrite (s : State) (q f o m : Nat) (w : Word) : State :=
  let v := (o - 0x20000) / 16
  let was := s.flag (fMsixMask q f v)
  let s := s.writeFields (hepKey q f o) m w
  if was ∧ !(s.flag (fMsixMask q f v)) ∧ s.flag (fMsixPba q f v) then (s.set (fMsixPba q f v) 0).msix q f v else s

/-- A write of the bits `m` of the aligned 8 bytes at BAR0 offset `o`. -/
def State.bar0Write (s : State) (q f o m : Nat) (w : Word) (ok : Bool) : State :=
  let who := (s.boundTo q f).getD 16
  let x := maskW w m
  let check (s : State) (off : Nat) : State := s.checkReserved who off x
  let low := m % 2 == 1
  let whole (old : Word) : Word := (old &&& ~~~ (BitVec.ofNat 64 m)) ||| x
  if o = 0x000 then (check s (hepFstat q f)).writeFields (hepFstat q f) m w
  else if o = 0x008 then (check s (hepIvec q f)).ivecWrite q f m w
  else if 0x20000 ≤ o ∧ o < 0x20000 + 16 * fnVectors f then s.msixWrite q f o m w
  else if o = 0x40000 ∧ f = 0 then
    let s := check s (hepPort q)
    let s := if low ∧ bitsOf w 0 0 = 1 then s.releasePort q ok else s
    if low ∧ bitsOf w 1 1 = 1 then s.quiescePort q else s
  else if o = 0x40008 ∧ f = 0 then
    if !s.inRecovery then s
    else
      let s := (check s (hepRecov q)).writeFields (hepRecov q) m w
      let s := if low ∧ bitsOf w 2 2 = 1 then s.claimBuf q else s
      if low ∧ bitsOf w 1 1 = 1 then s.goBuf q (s.get (fRecLen64 q)) ok else s
  else match s.boundTo q f with
  | none => s
  | some u =>
    if o = 0x018 then (if bitsOf x 63 32 ≠ 0 then s.reservedWrite u (regAddr (hepKey q f o)) else s)
    else if 0x1000 ≤ o ∧ o < 0x2000 then
      let i := o % 0x800 / 8
      if fnQueues f ≤ i then s
      else
        let s := if bitsOf x 63 12 ≠ 0 then s.reservedWrite u (regAddr (hepKey q f o)) else s
        if !low then s
        else if o < 0x1800 then s.sqDoorbell q f i (bitsOf w 11 0)
        else s.cqDoorbell q f i (bitsOf w 11 0)
    else if 0x2000 ≤ o ∧ o < 0x2000 + 0x20 * fnQueues f then s.queueWrite q f ((o - 0x2000) / 0x20) (o % 0x20 / 8) m w
    else if o = 0x4008 then s.evqConsWrite u true (whole (s.rd (fEvqPcons u).off)) false
    else if o = 0x4018 then s.evqConsWrite u false (whole (s.rd (fEvqNcons u).off)) false
    else if o = 0x4000 ∨ o = 0x4010 ∨ o = 0x4020 then check s ((fEvqPprod u).off + (o - 0x4000))
    else if o = 0x4100 ∨ o = 0x4110 then check s ((fFltProd u).off + (o - 0x4100))
    else if o = 0x4108 then s.after (execFltConsWrite u (whole (s.rd (fFltCons u).off)) false s)
    else s

/-- A configuration request for the `size` bytes at offset `o`, within one double word: data, or the write's completion. -/
def State.cfgAccess (s : State) (q f o size : Nat) (w : Option Word) : State :=
  if 4 < o % 4 + size ∨ size = 0 ∨ 0x1000 ≤ o then s.answerHost q "host-unsupported" [q, f, o] []
  else
    let d := o / 4 * 4
    let sh := 8 * (o % 4)
    match w with
    | none => s.answerHost q "host-config-data" [q, f, o] (bytesLE size (s.cfgRead q f d / 2 ^ sh))
    | some w => (s.cfgWrite q f d ((2 ^ (8 * size) - 1) * 2 ^ sh) (w.toNat % 2 ^ (8 * size) * 2 ^ sh)).answerHost q
        "host-config-done" [q, f, o] []

/-- BAR0_ACCESS of `size` bytes at offset `off` of function f of host tile q: a read, or with `w` a write of that word's
low bytes. `ok`: PF0's Bus Master Enable for a release of the port; success of a flash write for go. An offset from 2^20 on
is a request at that much less in configuration space (R456 to R459; log 83). A function that SR-IOV does not present answers
nothing as its own (R453). -/
def execBar0Access (q f off size : Nat) (w : Option Word) (ok : Bool) (s : State) : Out :=
  .next (
    if 3 < q ∨ 16 < f ∨ !(s.flag (fClkRun 22)) then s
    -- in recovery mode PF0 stands alone (16 R544); before the device is up, configuration requests are to be repeated (16 R549)
    else if (s.inRecovery ∧ f ≠ 0) ∨ !(s.fnThere q f) then
      (if w.isNone ∨ 2 ^ 20 ≤ off then s.answerHost q "host-unsupported" [q, f, off] [] else s)
    else if 2 ^ 20 ≤ off then
      if s.cro.retry.contains q then s.answerHost q "host-config-retry" [q, f, off - 2 ^ 20] []
      else s.cfgAccess q f (off - 2 ^ 20) size w
    else
      let fits := decide ((size = 4 ∨ size = 8) ∧ off % size = 0)
      let o := off / 8 * 8
      let sh := 8 * (off % 8)
      match w with
      | none =>
        if !fits then s.answerHost q "host-completer-abort" [q, f, off] []
        else
          let r := s.bar0Read q f o
          r.1.answerHost q "host-read-data" [q, f, off] (bytesLE size (r.2.toNat / 2 ^ sh))
      | some w =>
        if !fits then s
        else s.bar0Write q f o ((2 ^ (8 * size) - 1) * 2 ^ sh) (BitVec.ofNat 64 (w.toNat % 2 ^ (8 * size) * 2 ^ sh)) ok)

end Sys2Proof.Machine
end

