-- ==== Sys2Proof/Machine/Scalar.lean ====
section
/-! DEFINITION. Scalar instructions: ALU, immediates, loads and stores, branches and jumps (04 R122, R126 to R132). -/

namespace Sys2Proof.Machine

/-! ## ALU (R126) -/

/-- The number of leading zeros, from bit `n` down. -/
def clzFrom (w : Word) : Nat → Nat
  | 0 => 0
  | n + 1 => if w.getLsbD n then 0 else clzFrom w n + 1

/-- The number of trailing zeros among the bits from `i`; `n` bits are left. -/
def ctzFrom (w : Word) (i : Nat) : Nat → Nat
  | 0 => 0
  | n + 1 => if w.getLsbD i then 0 else ctzFrom w (i + 1) n + 1

def b2w (b : Bool) : Word := if b then 1 else 0

def aluShl (x y : Word) : Word := x <<< (y.toNat % 64)
def aluShr (x y : Word) : Word := x >>> (y.toNat % 64)
def aluSra (x y : Word) : Word := x.sshiftRight (y.toNat % 64)
def aluMulh (x y : Word) : Word := ((x.signExtend 128 * y.signExtend 128) >>> 64).setWidth 64
def aluMulhu (x y : Word) : Word := ((x.setWidth 128 * y.setWidth 128) >>> 64).setWidth 64

/-- A three-register ALU instruction. -/
def State.alu (s : State) (c : Nat) (d a b : Fin 32) (f : Word → Word → Word) : State :=
  s.scalar c d [a, b] (fun k => f (k.sreg a) (k.sreg b))

def execAdd (c : Nat) (d a b : Fin 32) (s : State) : Out := .next (s.alu c d a b (fun x y => x + y))
def execSub (c : Nat) (d a b : Fin 32) (s : State) : Out := .next (s.alu c d a b (fun x y => x - y))
def execAnd (c : Nat) (d a b : Fin 32) (s : State) : Out := .next (s.alu c d a b (fun x y => x &&& y))
def execOr (c : Nat) (d a b : Fin 32) (s : State) : Out := .next (s.alu c d a b (fun x y => x ||| y))
def execXor (c : Nat) (d a b : Fin 32) (s : State) : Out := .next (s.alu c d a b (fun x y => x ^^^ y))
def execShl (c : Nat) (d a b : Fin 32) (s : State) : Out := .next (s.alu c d a b aluShl)
def execShr (c : Nat) (d a b : Fin 32) (s : State) : Out := .next (s.alu c d a b aluShr)
def execSra (c : Nat) (d a b : Fin 32) (s : State) : Out := .next (s.alu c d a b aluSra)
def execSlt (c : Nat) (d a b : Fin 32) (s : State) : Out := .next (s.alu c d a b (fun x y => b2w (x.slt y)))
def execMin (c : Nat) (d a b : Fin 32) (s : State) : Out := .next (s.alu c d a b (fun x y => if x.slt y then x else y))
def execMax (c : Nat) (d a b : Fin 32) (s : State) : Out := .next (s.alu c d a b (fun x y => if x.slt y then y else x))
def execMinu (c : Nat) (d a b : Fin 32) (s : State) : Out := .next (s.alu c d a b (fun x y => if x.ult y then x else y))
def execMaxu (c : Nat) (d a b : Fin 32) (s : State) : Out := .next (s.alu c d a b (fun x y => if x.ult y then y else x))
def execMul (c : Nat) (d a b : Fin 32) (s : State) : Out := .next (s.alu c d a b (fun x y => x * y))
def execMulh (c : Nat) (d a b : Fin 32) (s : State) : Out := .next (s.alu c d a b aluMulh)
def execMulhu (c : Nat) (d a b : Fin 32) (s : State) : Out := .next (s.alu c d a b aluMulhu)
def execSltu (c : Nat) (d a b : Fin 32) (s : State) : Out := .next (s.alu c d a b (fun x y => b2w (x.ult y)))

def execPopc (c : Nat) (d a : Fin 32) (s : State) : Out :=
  .next (s.scalar c d [a] (fun k => BitVec.ofNat 64 (popcount 64 (k.sreg a).toNat)))
def execClz (c : Nat) (d a : Fin 32) (s : State) : Out :=
  .next (s.scalar c d [a] (fun k => BitVec.ofNat 64 (clzFrom (k.sreg a) 64)))
def execCtz (c : Nat) (d a : Fin 32) (s : State) : Out :=
  .next (s.scalar c d [a] (fun k => BitVec.ofNat 64 (ctzFrom (k.sreg a) 0 64)))

/-! ## Immediates (R127) -/

def sext16 (i : BitVec 16) : Word := i.signExtend 64
def zext16 (i : BitVec 16) : Word := i.setWidth 64

def State.aluImm (s : State) (c : Nat) (d a : Fin 32) (f : Word → Word) : State :=
  s.scalar c d [a] (fun k => f (k.sreg a))

def execAddi (c : Nat) (d a : Fin 32) (imm : BitVec 16) (s : State) : Out := .next (s.aluImm c d a (fun x => x + sext16 imm))
def execAndi (c : Nat) (d a : Fin 32) (imm : BitVec 16) (s : State) : Out := .next (s.aluImm c d a (fun x => x &&& zext16 imm))
def execOri (c : Nat) (d a : Fin 32) (imm : BitVec 16) (s : State) : Out := .next (s.aluImm c d a (fun x => x ||| zext16 imm))
def execXori (c : Nat) (d a : Fin 32) (imm : BitVec 16) (s : State) : Out := .next (s.aluImm c d a (fun x => x ^^^ zext16 imm))
def execSlti (c : Nat) (d a : Fin 32) (imm : BitVec 16) (s : State) : Out :=
  .next (s.aluImm c d a (fun x => b2w (x.slt (sext16 imm))))
def execSltiu (c : Nat) (d a : Fin 32) (imm : BitVec 16) (s : State) : Out :=
  .next (s.aluImm c d a (fun x => b2w (x.ult (zext16 imm))))
def execLui (c : Nat) (d : Fin 32) (imm : BitVec 16) (s : State) : Out :=
  .next (s.scalar c d [] (fun _ => sext16 imm <<< 16))
def ins32 (x : Word) (imm : BitVec 16) : Word := (x &&& 0x00000000FFFFFFFF) ||| (zext16 imm <<< 32)
def execIns32 (c : Nat) (d a : Fin 32) (imm : BitVec 16) (s : State) : Out := .next (s.aluImm c d a (fun x => ins32 x imm))

/-- SHI: kind 0 left, 1 right with zero fill, 2 right with sign fill. -/
def shi (kind : Fin 3) (amt : Fin 64) (x : Word) : Word :=
  if kind = 0 then x <<< amt.val else if kind = 1 then x >>> amt.val else x.sshiftRight amt.val
def execShi (c : Nat) (d a : Fin 32) (kind : Fin 3) (amt : Fin 64) (s : State) : Out :=
  .next (s.aluImm c d a (shi kind amt))

/-! ## Loads and stores (R128 to R130) -/

/-- The checks of R129 in priority order: alignment, then the scratchpad's end. -/
def accessCheck (o : Word) (n : Nat) : Option (Nat × Nat) :=
  if o.toNat % n ≠ 0 then some (0x03, o.toNat)
  else if 0x7FFF < o.toNat then some (0x04, o.toNat)
  else none

def sextTo64 (n v : Nat) : Word := (BitVec.ofNat (8 * n) v).signExtend 64

/-- A load of `n` bytes, extended with the sign or with zeros. -/
def State.load (s : State) (c : Nat) (d a : Fin 32) (imm : BitVec 16) (n : Nat) (sign : Bool) : State :=
  s.issue c [d, a] [] (fun k =>
    let o := effAddr k a imm
    match accessCheck o n with
    | some e => s.raiseSync c e.1 e.2
    | none =>
      if k.extFree [(o.toNat, n)] [] then
        match s.spadPoison c o.toNat n with
        | some w => s.raiseSync c 0x05 w
        | none =>
          let v := s.spadNat c o.toNat n
          (s.modCore c (fun k => k.setS d (if sign then sextTo64 n v else BitVec.ofNat 64 v))).retire c
      else s)

/-- A store of the low `n` bytes of s[d]. -/
def State.store (s : State) (c : Nat) (d a : Fin 32) (imm : BitVec 16) (n : Nat) : State :=
  s.issue c [d, a] [] (fun k =>
    let o := effAddr k a imm
    match accessCheck o n with
    | some e => s.raiseSync c e.1 e.2
    | none =>
      if k.extFree [] [(o.toNat, n)] then
        (s.setSpad c o.toNat (bytesLE n (k.sreg d).toNat)).retire c
      else s)

def execLdb (c : Nat) (d a : Fin 32) (imm : BitVec 16) (s : State) : Out := .next (s.load c d a imm 1 true)
def execLdbu (c : Nat) (d a : Fin 32) (imm : BitVec 16) (s : State) : Out := .next (s.load c d a imm 1 false)
def execLdh (c : Nat) (d a : Fin 32) (imm : BitVec 16) (s : State) : Out := .next (s.load c d a imm 2 true)
def execLdhu (c : Nat) (d a : Fin 32) (imm : BitVec 16) (s : State) : Out := .next (s.load c d a imm 2 false)
def execLdw (c : Nat) (d a : Fin 32) (imm : BitVec 16) (s : State) : Out := .next (s.load c d a imm 4 true)
def execLdwu (c : Nat) (d a : Fin 32) (imm : BitVec 16) (s : State) : Out := .next (s.load c d a imm 4 false)
def execLdd (c : Nat) (d a : Fin 32) (imm : BitVec 16) (s : State) : Out := .next (s.load c d a imm 8 true)
def execStb (c : Nat) (d a : Fin 32) (imm : BitVec 16) (s : State) : Out := .next (s.store c d a imm 1)
def execSth (c : Nat) (d a : Fin 32) (imm : BitVec 16) (s : State) : Out := .next (s.store c d a imm 2)
def execStw (c : Nat) (d a : Fin 32) (imm : BitVec 16) (s : State) : Out := .next (s.store c d a imm 4)
def execStd (c : Nat) (d a : Fin 32) (imm : BitVec 16) (s : State) : Out := .next (s.store c d a imm 8)

/-! ## Branches and jumps (R131, R132) -/

/-- The target of a pc-relative jump, as a 64-bit word. -/
def relTarget (pc : Nat) (words : Int) : Word := BitVec.ofInt 64 ((pc : Int) + 4 * words)

/-- A taken branch: a target outside 0x0000 to 0x7FFC raises a scratchpad-address exception at the branch. -/
def State.branchTo (s : State) (c : Nat) (target : Word) : State :=
  if 0x7FFC < target.toNat then s.raiseSync c 0x04 target.toNat else s.jump c target.toNat

def State.branch (s : State) (c : Nat) (a b : Fin 32) (off : BitVec 16) (p : Word → Word → Bool) : State :=
  s.issue c [a, b] [] (fun k =>
    if p (k.sreg a) (k.sreg b) then s.branchTo c (relTarget k.pc off.toInt) else s.retire c)

def execBeq (c : Nat) (a b : Fin 32) (off : BitVec 16) (s : State) : Out := .next (s.branch c a b off (fun x y => x == y))
def execBne (c : Nat) (a b : Fin 32) (off : BitVec 16) (s : State) : Out := .next (s.branch c a b off (fun x y => x != y))
def execBlt (c : Nat) (a b : Fin 32) (off : BitVec 16) (s : State) : Out := .next (s.branch c a b off (fun x y => x.slt y))
def execBge (c : Nat) (a b : Fin 32) (off : BitVec 16) (s : State) : Out := .next (s.branch c a b off (fun x y => !x.slt y))
def execBltu (c : Nat) (a b : Fin 32) (off : BitVec 16) (s : State) : Out := .next (s.branch c a b off (fun x y => x.ult y))
def execBgeu (c : Nat) (a b : Fin 32) (off : BitVec 16) (s : State) : Out := .next (s.branch c a b off (fun x y => !x.ult y))

/-- A jump that links: s[d] takes the offset of the next instruction, unless the target raises. -/
def State.link (s : State) (c : Nat) (d : Fin 32) (target : Word) : State :=
  if target.toNat % 4 ≠ 0 then s.raiseSync c 0x03 target.toNat
  else if 0x7FFC < target.toNat then s.raiseSync c 0x04 target.toNat
  else (s.modCore c (fun k => k.setS d (BitVec.ofNat 64 (k.pc + 4)))).jump c target.toNat

def execJal (c : Nat) (d : Fin 32) (off : BitVec 21) (s : State) : Out :=
  .next (s.issue c [d] [] (fun k => s.link c d (relTarget k.pc off.toInt)))
def execJalr (c : Nat) (d a : Fin 32) (imm : BitVec 16) (s : State) : Out :=
  .next (s.issue c [d, a] [] (fun k => s.link c d (effAddr k a imm)))

end Sys2Proof.Machine
end

