-- ==== Sys2Proof/Machine/Dispatch.lean ====
section
/-! DEFINITION. One arm per command: each calls that command's meaning. -/

namespace Sys2Proof.Machine

def exec (i : Instr) (s : State) : Host.Outcome State Fault Refusal :=
  match i with
  | .registerWrite agent off w ok => Sys2Proof.Machine.execRegisterWrite agent off w ok s
  | .rsRegisterRead agent x => Sys2Proof.Machine.execRsRegisterRead agent x s
  | .auxPowerOn record dies slot => Sys2Proof.Machine.execAuxPowerOn record dies slot s
  | .crystalQualifyWindow n => Sys2Proof.Machine.execCrystalQualifyWindow n s
  | .crystalQualifyTimeout => Sys2Proof.Machine.execCrystalQualifyTimeout s
  | .crystalMonitorWindow n => Sys2Proof.Machine.execCrystalMonitorWindow n s
  | .pwrgdRise phases straps => Sys2Proof.Machine.execPwrgdRise phases straps s
  | .pwrgdFall => Sys2Proof.Machine.execPwrgdFall s
  | .strapValueReceived k v south => Sys2Proof.Machine.execStrapValueReceived k v south s
  | .strapCheckTimeout => Sys2Proof.Machine.execStrapCheckTimeout s
  | .hubReleaseAndSelfTest hub sec cores logok => Sys2Proof.Machine.execHubReleaseAndSelfTest hub sec cores logok s
  | .imageVerify flash => Sys2Proof.Machine.execImageVerify flash s
  | .siteReleaseAndTrain x => Sys2Proof.Machine.execSiteReleaseAndTrain x s
  | .bringupZeroFill => Sys2Proof.Machine.execBringupZeroFill s
  | .bringupKnownAnswer bad => Sys2Proof.Machine.execBringupKnownAnswer bad s
  | .firmwareStart => Sys2Proof.Machine.execFirmwareStart s
  | .fwready w => Sys2Proof.Machine.execFwready w s
  | .fwreadyTimeout => Sys2Proof.Machine.execFwreadyTimeout s
  | .configRetryTimeout q => Sys2Proof.Machine.execConfigRetryTimeout q s
  | .pwrCapWrite n w => Sys2Proof.Machine.execPwrCapWrite n w s
  | .openSiteCurrentLimit k => Sys2Proof.Machine.execOpenSiteCurrentLimit k s
  | .coreRemap c fin => Sys2Proof.Machine.execCoreRemap c fin s
  | .scratchpadScrubStep c errs => Sys2Proof.Machine.execScratchpadScrubStep c errs s
  | .scratchpadCorrectWriteback c o => Sys2Proof.Machine.execScratchpadCorrectWriteback c o s
  | .add c d a b => Sys2Proof.Machine.execAdd c d a b s
  | .sub c d a b => Sys2Proof.Machine.execSub c d a b s
  | .and c d a b => Sys2Proof.Machine.execAnd c d a b s
  | .or c d a b => Sys2Proof.Machine.execOr c d a b s
  | .xor c d a b => Sys2Proof.Machine.execXor c d a b s
  | .shl c d a b => Sys2Proof.Machine.execShl c d a b s
  | .shr c d a b => Sys2Proof.Machine.execShr c d a b s
  | .sra c d a b => Sys2Proof.Machine.execSra c d a b s
  | .slt c d a b => Sys2Proof.Machine.execSlt c d a b s
  | .min c d a b => Sys2Proof.Machine.execMin c d a b s
  | .max c d a b => Sys2Proof.Machine.execMax c d a b s
  | .minu c d a b => Sys2Proof.Machine.execMinu c d a b s
  | .maxu c d a b => Sys2Proof.Machine.execMaxu c d a b s
  | .mul c d a b => Sys2Proof.Machine.execMul c d a b s
  | .mulh c d a b => Sys2Proof.Machine.execMulh c d a b s
  | .mulhu c d a b => Sys2Proof.Machine.execMulhu c d a b s
  | .popc c d a => Sys2Proof.Machine.execPopc c d a s
  | .clz c d a => Sys2Proof.Machine.execClz c d a s
  | .ctz c d a => Sys2Proof.Machine.execCtz c d a s
  | .sltu c d a b => Sys2Proof.Machine.execSltu c d a b s
  | .addi c d a imm => Sys2Proof.Machine.execAddi c d a imm s
  | .andi c d a imm => Sys2Proof.Machine.execAndi c d a imm s
  | .ori c d a imm => Sys2Proof.Machine.execOri c d a imm s
  | .xori c d a imm => Sys2Proof.Machine.execXori c d a imm s
  | .slti c d a imm => Sys2Proof.Machine.execSlti c d a imm s
  | .sltiu c d a imm => Sys2Proof.Machine.execSltiu c d a imm s
  | .lui c d imm => Sys2Proof.Machine.execLui c d imm s
  | .ins32 c d a imm => Sys2Proof.Machine.execIns32 c d a imm s
  | .shi c d a kind amt => Sys2Proof.Machine.execShi c d a kind amt s
  | .ldb c d a imm => Sys2Proof.Machine.execLdb c d a imm s
  | .ldbu c d a imm => Sys2Proof.Machine.execLdbu c d a imm s
  | .ldh c d a imm => Sys2Proof.Machine.execLdh c d a imm s
  | .ldhu c d a imm => Sys2Proof.Machine.execLdhu c d a imm s
  | .ldw c d a imm => Sys2Proof.Machine.execLdw c d a imm s
  | .ldwu c d a imm => Sys2Proof.Machine.execLdwu c d a imm s
  | .ldd c d a imm => Sys2Proof.Machine.execLdd c d a imm s
  | .stb c d a imm => Sys2Proof.Machine.execStb c d a imm s
  | .sth c d a imm => Sys2Proof.Machine.execSth c d a imm s
  | .stw c d a imm => Sys2Proof.Machine.execStw c d a imm s
  | .std c d a imm => Sys2Proof.Machine.execStd c d a imm s
  | .beq c a b off => Sys2Proof.Machine.execBeq c a b off s
  | .bne c a b off => Sys2Proof.Machine.execBne c a b off s
  | .blt c a b off => Sys2Proof.Machine.execBlt c a b off s
  | .bge c a b off => Sys2Proof.Machine.execBge c a b off s
  | .bltu c a b off => Sys2Proof.Machine.execBltu c a b off s
  | .bgeu c a b off => Sys2Proof.Machine.execBgeu c a b off s
  | .jal c d off => Sys2Proof.Machine.execJal c d off s
  | .jalr c d a imm => Sys2Proof.Machine.execJalr c d a imm s
  | .send c a b => Sys2Proof.Machine.execSend c a b s
  | .recv c a b => Sys2Proof.Machine.execRecv c a b s
  | .atomAdd c d a b => Sys2Proof.Machine.execAtomAdd c d a b s
  | .atomSwap c d a b => Sys2Proof.Machine.execAtomSwap c d a b s
  | .atomCas c d a b => Sys2Proof.Machine.execAtomCas c d a b s
  | .atomOr c d a b => Sys2Proof.Machine.execAtomOr c d a b s
  | .fenceS c => Sys2Proof.Machine.execFenceS c s
  | .sendDelivered id lost => Sys2Proof.Machine.execSendDelivered id lost s
  | .recvServe id lost => Sys2Proof.Machine.execRecvServe id lost s
  | .recvDataArrival x => Sys2Proof.Machine.execRecvDataArrival x s
  | .atomApply id lost => Sys2Proof.Machine.execAtomApply id lost s
  | .atomResultArrival x => Sys2Proof.Machine.execAtomResultArrival x s
  | .sendAckArrival id => Sys2Proof.Machine.execSendAckArrival id s
  | .messageErrorArrival id => Sys2Proof.Machine.execMessageErrorArrival id s
  | .waitcnt c k a => Sys2Proof.Machine.execWaitcnt c k a s
  | .waitcnti c k n => Sys2Proof.Machine.execWaitcnti c k n s
  | .cntrd c d k => Sys2Proof.Machine.execCntrd c d k s
  | .cntwr c k a => Sys2Proof.Machine.execCntwr c k a s
  | .cntsub c k a => Sys2Proof.Machine.execCntsub c k a s
  | .dmaFill c a => Sys2Proof.Machine.execDmaFill c a s
  | .dmaDrain c a => Sys2Proof.Machine.execDmaDrain c a s
  | .dmaCopy c a => Sys2Proof.Machine.execDmaCopy c a s
  | .dmaZero c a => Sys2Proof.Machine.execDmaZero c a s
  | .fenceD c => Sys2Proof.Machine.execFenceD c s
  | .dmaExtentCheck id => Sys2Proof.Machine.execDmaExtentCheck id s
  | .dmaChunk t lost odata => Sys2Proof.Machine.execDmaChunk t lost odata s
  | .dmaComplete id => Sys2Proof.Machine.execDmaComplete id s
  | .mfsr c d n => Sys2Proof.Machine.execMfsr c d n s
  | .mtsr c a n => Sys2Proof.Machine.execMtsr c a n s
  | .tbar c => Sys2Proof.Machine.execTbar c s
  | .tbarRelease k => Sys2Proof.Machine.execTbarRelease k s
  | .tend c => Sys2Proof.Machine.execTend c s
  | .eret c => Sys2Proof.Machine.execEret c s
  | .fenceI c => Sys2Proof.Machine.execFenceI c s
  | .coreStopReport c => Sys2Proof.Machine.execCoreStopReport c s
  | .tmac c tile a b z gov => Sys2Proof.Machine.execTmac c tile a b z gov s
  | .tensorOpComplete c shadow => Sys2Proof.Machine.execTensorOpComplete c shadow s
  | .tzero c tile => Sys2Proof.Machine.execTzero c tile s
  | .tst c tile a => Sys2Proof.Machine.execTst c tile a s
  | .tld c tile a => Sys2Proof.Machine.execTld c tile a s
  | .trow c vd tile r stochastic => Sys2Proof.Machine.execTrow c vd tile r stochastic s
  | .taddr c tile va r => Sys2Proof.Machine.execTaddr c tile va r s
  | .taddm c tile a => Sys2Proof.Machine.execTaddm c tile a s
  | .vld c v a imm => Sys2Proof.Machine.execVld c v a imm s
  | .vst c v a imm => Sys2Proof.Machine.execVst c v a imm s
  | .vaddH c d a b => Sys2Proof.Machine.execVaddH c d a b s
  | .vsubH c d a b => Sys2Proof.Machine.execVsubH c d a b s
  | .vmulH c d a b => Sys2Proof.Machine.execVmulH c d a b s
  | .vfmaH c d a b e => Sys2Proof.Machine.execVfmaH c d a b e s
  | .vminH c d a b => Sys2Proof.Machine.execVminH c d a b s
  | .vmaxH c d a b => Sys2Proof.Machine.execVmaxH c d a b s
  | .vabsH c d a => Sys2Proof.Machine.execVabsH c d a s
  | .vnegH c d a => Sys2Proof.Machine.execVnegH c d a s
  | .vrcpH c d a => Sys2Proof.Machine.execVrcpH c d a s
  | .vrsqH c d a => Sys2Proof.Machine.execVrsqH c d a s
  | .vexp2H c d a => Sys2Proof.Machine.execVexp2H c d a s
  | .vcltH c d a b => Sys2Proof.Machine.execVcltH c d a b s
  | .vceqH c d a b => Sys2Proof.Machine.execVceqH c d a b s
  | .vsel c d a b e => Sys2Proof.Machine.execVsel c d a b e s
  | .vaddI c d a b => Sys2Proof.Machine.execVaddI c d a b s
  | .vsubI c d a b => Sys2Proof.Machine.execVsubI c d a b s
  | .vand c d a b => Sys2Proof.Machine.execVand c d a b s
  | .vor c d a b => Sys2Proof.Machine.execVor c d a b s
  | .vxor c d a b => Sys2Proof.Machine.execVxor c d a b s
  | .vshlI c d a b => Sys2Proof.Machine.execVshlI c d a b s
  | .vshrI c d a b => Sys2Proof.Machine.execVshrI c d a b s
  | .vsraI c d a b => Sys2Proof.Machine.execVsraI c d a b s
  | .vcltI c d a b => Sys2Proof.Machine.execVcltI c d a b s
  | .vrsumH c d va => Sys2Proof.Machine.execVrsumH c d va s
  | .vrmaxH c d va => Sys2Proof.Machine.execVrmaxH c d va s
  | .vrminH c d va => Sys2Proof.Machine.execVrminH c d va s
  | .vrsumI c d va => Sys2Proof.Machine.execVrsumI c d va s
  | .vbcast c vd a => Sys2Proof.Machine.execVbcast c vd a s
  | .vext c d va lane => Sys2Proof.Machine.execVext c d va lane s
  | .vins c vd a lane => Sys2Proof.Machine.execVins c vd a lane s
  | .vldq c vd a stochastic => Sys2Proof.Machine.execVldq c vd a stochastic s
  | .vcvtHi c vd va stochastic => Sys2Proof.Machine.execVcvtHi c vd va stochastic s
  | .vcvtIh c vd va stochastic => Sys2Proof.Machine.execVcvtIh c vd va stochastic s
  | .qsb c d a b => Sys2Proof.Machine.execQsb c d a b s
  | .dqb c d a b => Sys2Proof.Machine.execDqb c d a b s
  | .cvtb c d a b => Sys2Proof.Machine.execCvtb c d a b s
  | .illegalInstruction c word => Sys2Proof.Machine.execIllegalInstruction c word s
  | .checkerArbitration ws fails => Sys2Proof.Machine.execCheckerArbitration ws fails s
  | .cmoClean c w => Sys2Proof.Machine.execCmoClean c w s
  | .cmoInvalidate c w => Sys2Proof.Machine.execCmoInvalidate c w s
  | .cmoCleanInvalidate c w => Sys2Proof.Machine.execCmoCleanInvalidate c w s
  | .cmoDone c => Sys2Proof.Machine.execCmoDone c s
  | .controlCacheFill addr stores => Sys2Proof.Machine.execControlCacheFill addr stores s
  | .controlCacheWriteback addr evict => Sys2Proof.Machine.execControlCacheWriteback addr evict s
  | .poisonLineTrap addr => Sys2Proof.Machine.execPoisonLineTrap addr s
  | .controlCacheError kind addr => Sys2Proof.Machine.execControlCacheError kind addr s
  | .directoryProbeTimeout p => Sys2Proof.Machine.execDirectoryProbeTimeout p s
  | .stackRead addr src errs => Sys2Proof.Machine.execStackRead addr src errs s
  | .stackWrite addr bs => Sys2Proof.Machine.execStackWrite addr bs s
  | .ueTenantCopy => Sys2Proof.Machine.execUeTenantCopy s
  | .stackCorrectWriteback addr => Sys2Proof.Machine.execStackCorrectWriteback addr s
  | .patrolScrub addr errs => Sys2Proof.Machine.execPatrolScrub addr errs s
  | .stackRefresh t layer => Sys2Proof.Machine.execStackRefresh t layer s
  | .retrainDue t p => Sys2Proof.Machine.execRetrainDue t p s
  | .retrainGroup t ps => Sys2Proof.Machine.execRetrainGroup t ps s
  | .retrainGroupDone t fails => Sys2Proof.Machine.execRetrainGroupDone t fails s
  | .retrainingOverdue t p => Sys2Proof.Machine.execRetrainingOverdue t p s
  | .channelRepair t c dead => Sys2Proof.Machine.execChannelRepair t c dead s
  | .layerRepair t l dead => Sys2Proof.Machine.execLayerRepair t l dead s
  | .repairCopyBurst t => Sys2Proof.Machine.execRepairCopyBurst t s
  | .repairCopyDone t => Sys2Proof.Machine.execRepairCopyDone t s
  | .stkRetWrite t k w => Sys2Proof.Machine.execStkRetWrite t k w s
  | .retirementFillDone t k => Sys2Proof.Machine.execRetirementFillDone t k s
  | .trnWrite w => Sys2Proof.Machine.execTrnWrite w s
  | .trnClear w => Sys2Proof.Machine.execTrnClear w s
  | .trnUpdateDone => Sys2Proof.Machine.execTrnUpdateDone s
  | .faultRecordWrite u => Sys2Proof.Machine.execFaultRecordWrite u s
  | .taskPark k => Sys2Proof.Machine.execTaskPark k s
  | .fltConsWrite u w fw => Sys2Proof.Machine.execFltConsWrite u w fw s
  | .fltPush u w => Sys2Proof.Machine.execFltPush u w s
  | .fltResolveRetry u seq => Sys2Proof.Machine.execFltResolveRetry u seq s
  | .fltResolveDrop u seq => Sys2Proof.Machine.execFltResolveDrop u seq s
  | .faultSweep u => Sys2Proof.Machine.execFaultSweep u s
  | .atsInvalidation q f page n => Sys2Proof.Machine.execAtsInvalidation q f page n s
  | .tickProgramStart => Sys2Proof.Machine.execTickProgramStart s
  | .tickProgramStop => Sys2Proof.Machine.execTickProgramStop s
  | .tsqPeriodWrite w => Sys2Proof.Machine.execTsqPeriodWrite w s
  | .tsqCfgWrite w => Sys2Proof.Machine.execTsqCfgWrite w s
  | .bankSwapRequest => Sys2Proof.Machine.execBankSwapRequest s
  | .admission => Sys2Proof.Machine.execAdmission s
  | .admissionRecheck => Sys2Proof.Machine.execAdmissionRecheck s
  | .tickBoundary => Sys2Proof.Machine.execTickBoundary s
  | .guardBandStart => Sys2Proof.Machine.execGuardBandStart s
  | .extensionDeadline => Sys2Proof.Machine.execExtensionDeadline s
  | .phase => Sys2Proof.Machine.execPhase s
  | .ingest => Sys2Proof.Machine.execIngest s
  | .runTask => Sys2Proof.Machine.execRunTask s
  | .waitt => Sys2Proof.Machine.execWaitt s
  | .commitTasks => Sys2Proof.Machine.execCommitTasks s
  | .atOffset => Sys2Proof.Machine.execAtOffset s
  | .atOffsetReached => Sys2Proof.Machine.execAtOffsetReached s
  | .skipIf => Sys2Proof.Machine.execSkipIf s
  | .programEvent => Sys2Proof.Machine.execProgramEvent s
  | .mirrorStart => Sys2Proof.Machine.execMirrorStart s
  | .endProgram => Sys2Proof.Machine.execEndProgram s
  | .taskBind => Sys2Proof.Machine.execTaskBind s
  | .coreWaveStart k => Sys2Proof.Machine.execCoreWaveStart k s
  | .drainStopDone k => Sys2Proof.Machine.execDrainStopDone k s
  | .taskLoad w => Sys2Proof.Machine.execTaskLoad w s
  | .taskUnload w => Sys2Proof.Machine.execTaskUnload w s
  | .taskCommandDone => Sys2Proof.Machine.execTaskCommandDone s
  | .seqSlotWrite n j w => Sys2Proof.Machine.execSeqSlotWrite n j w s
  | .contextRecordWrite addr w => Sys2Proof.Machine.execContextRecordWrite addr w s
  | .routerAccept n p ce => Sys2Proof.Machine.execRouterAccept n p ce s
  | .packetInject w0 w1 w2 data n => Sys2Proof.Machine.execPacketInject w0 w1 w2 data n s
  | .linkReplay n p kind => Sys2Proof.Machine.execLinkReplay n p kind s
  | .hubLinkNarrow n d => Sys2Proof.Machine.execHubLinkNarrow n d s
  | .wavelengthSpareSwap w b => Sys2Proof.Machine.execWavelengthSpareSwap w b s
  | .linkRetrain guide idx finish temp => Sys2Proof.Machine.execLinkRetrain guide idx finish temp s
  | .queueFeedback res fill cap => Sys2Proof.Machine.execQueueFeedback res fill cap s
  | .labelLatencyMissed site l => Sys2Proof.Machine.execLabelLatencyMissed site l s
  | .eventQueueWrite u ws => Sys2Proof.Machine.execEventQueueWrite u ws s
  | .evqConsWrite u prio w fw => Sys2Proof.Machine.execEvqConsWrite u prio w fw s
  | .evqWordRead u j => Sys2Proof.Machine.execEvqWordRead u j s
  | .lupProbeWrite n j r who w => Sys2Proof.Machine.execLupProbeWrite n j r who w s
  | .slrCfgWrite l w => Sys2Proof.Machine.execSlrCfgWrite l w s
  | .guaranteeWrite g w => Sys2Proof.Machine.execGuaranteeWrite g w s
  | .openSitePowerUp k => Sys2Proof.Machine.execOpenSitePowerUp k s
  | .ucieTrain k rate ok lanes => Sys2Proof.Machine.execUcieTrain k rate ok lanes s
  | .ucieModuleLoss k m lane => Sys2Proof.Machine.execUcieModuleLoss k m lane s
  | .bmlSend k b => Sys2Proof.Machine.execBmlSend k b s
  | .bmlRecv k b => Sys2Proof.Machine.execBmlRecv k b s
  | .rdata k b => Sys2Proof.Machine.execRdata k b s
  | .ackMsg k b => Sys2Proof.Machine.execAckMsg k b s
  | .merr k b => Sys2Proof.Machine.execMerr k b s
  | .mrd k ws => Sys2Proof.Machine.execMrd k ws s
  | .mrdd k tag => Sys2Proof.Machine.execMrdd k tag s
  | .mwr k ws => Sys2Proof.Machine.execMwr k ws s
  | .mcpl k tag => Sys2Proof.Machine.execMcpl k tag s
  | .matom k ws => Sys2Proof.Machine.execMatom k ws s
  | .ordMsg k off n => Sys2Proof.Machine.execOrdMsg k off n s
  | .ordd k ws => Sys2Proof.Machine.execOrdd k ws s
  | .owr k off data => Sys2Proof.Machine.execOwr k off data s
  | .ocpl k ws => Sys2Proof.Machine.execOcpl k ws s
  | .descMsg k b => Sys2Proof.Machine.execDescMsg k b s
  | .dack k b => Sys2Proof.Machine.execDack k b s
  | .heart k b => Sys2Proof.Machine.execHeart k b s
  | .treport k ws => Sys2Proof.Machine.execTreport k ws s
  | .throttle k => Sys2Proof.Machine.execThrottle k s
  | .credit k b => Sys2Proof.Machine.execCredit k b s
  | .gerr k ws => Sys2Proof.Machine.execGerr k ws s
  | .descriptorTimeout k => Sys2Proof.Machine.execDescriptorTimeout k s
  | .heartbeatLoss k => Sys2Proof.Machine.execHeartbeatLoss k s
  | .treportMissing k => Sys2Proof.Machine.execTreportMissing k s
  | .galertAsserted k => Sys2Proof.Machine.execGalertAsserted k s
  | .osIsolate k w => Sys2Proof.Machine.execOsIsolate k w s
  | .osRejoin k w => Sys2Proof.Machine.execOsRejoin k w s
  | .osGrantWrite k u w => Sys2Proof.Machine.execOsGrantWrite k u w s
  | .perstNAssert q lost absorbed => Sys2Proof.Machine.execPerstNAssert q lost absorbed s
  | .hostLinkUp q lanes speed => Sys2Proof.Machine.execHostLinkUp q lanes speed s
  | .hostLinkDown q trig lost absorbed => Sys2Proof.Machine.execHostLinkDown q trig lost absorbed s
  | .portQuiesce q => Sys2Proof.Machine.execPortQuiesce q s
  | .quiesceComplete q => Sys2Proof.Machine.execQuiesceComplete q s
  | .portRelease q bme => Sys2Proof.Machine.execPortRelease q bme s
  | .htBindWrite q f w => Sys2Proof.Machine.execHtBindWrite q f w s
  | .queueEnable q f j r w => Sys2Proof.Machine.execQueueEnable q f j r w s
  | .sqTailDoorbell q f j idx => Sys2Proof.Machine.execSqTailDoorbell q f j idx s
  | .cqHeadDoorbell q f j idx => Sys2Proof.Machine.execCqHeadDoorbell q f j idx s
  | .sqFetch q x => Sys2Proof.Machine.execSqFetch q x s
  | .sqFetchError q => Sys2Proof.Machine.execSqFetchError q s
  | .h2dCopy id data ok pages => Sys2Proof.Machine.execH2dCopy id data ok pages s
  | .d2hCopy id ok odata pages => Sys2Proof.Machine.execD2hCopy id ok odata pages s
  | .nop id => Sys2Proof.Machine.execNop id s
  | .svcMap id => Sys2Proof.Machine.execSvcMap id s
  | .svcUnmap id => Sys2Proof.Machine.execSvcUnmap id s
  | .svcResolve id => Sys2Proof.Machine.execSvcResolve id s
  | .svcLoadUnload id => Sys2Proof.Machine.execSvcLoadUnload id s
  | .svcProbe id => Sys2Proof.Machine.execSvcProbe id s
  | .svcReadreg id => Sys2Proof.Machine.execSvcReadreg id s
  | .svcRetire id => Sys2Proof.Machine.execSvcRetire id s
  | .svcResolveGranule id => Sys2Proof.Machine.execSvcResolveGranule id s
  | .svcBank id => Sys2Proof.Machine.execSvcBank id s
  | .svcSlotRecord id => Sys2Proof.Machine.execSvcSlotRecord id s
  | .cqEntryWrite x => Sys2Proof.Machine.execCqEntryWrite x s
  | .ingestCut u => Sys2Proof.Machine.execIngestCut u s
  | .msixMessage q f src => Sys2Proof.Machine.execMsixMessage q f src s
  | .cqCoalesceTimeout q f j => Sys2Proof.Machine.execCqCoalesceTimeout q f j s
  | .hostMemRead q f off n translated odata => Sys2Proof.Machine.execHostMemRead q f off n translated odata s
  | .hostMemWrite q f off bs translated poisoned => Sys2Proof.Machine.execHostMemWrite q f off bs translated poisoned s
  | .hostAtomicop q f off n kind x cmp odata => Sys2Proof.Machine.execHostAtomicop q f off n kind x cmp odata s
  | .bar0Access q f off size w ok => Sys2Proof.Machine.execBar0Access q f off size w ok s
  | .flr q f finish => Sys2Proof.Machine.execFlr q f finish s
  | .d3hotEntry q f => Sys2Proof.Machine.execD3hotEntry q f s
  | .tenantCreate u w => Sys2Proof.Machine.execTenantCreate u w s
  | .tenantAddTiles u w => Sys2Proof.Machine.execTenantAddTiles u w s
  | .tenantRemoveTiles u w => Sys2Proof.Machine.execTenantRemoveTiles u w s
  | .tenantTeardown u w => Sys2Proof.Machine.execTenantTeardown u w s
  | .teardownScrubDone u => Sys2Proof.Machine.execTeardownScrubDone u s
  | .tenPermWrite u j w => Sys2Proof.Machine.execTenPermWrite u j w s
  | .comRgnWrite r w => Sys2Proof.Machine.execComRgnWrite r w s
  | .comRldWrite r w => Sys2Proof.Machine.execComRldWrite r w s
  | .configDigestUpdate u => Sys2Proof.Machine.execConfigDigestUpdate u s
  | .firmwareSpaceRefused site addr write => Sys2Proof.Machine.execFirmwareSpaceRefused site addr write s
  | .spdmMessage port kind sid key => Sys2Proof.Machine.execSpdmMessage port kind sid key s
  | .getMeasurements sid j => Sys2Proof.Machine.execGetMeasurements sid j s
  | .bindSession sid u => Sys2Proof.Machine.execBindSession sid u s
  | .openWindow sid j dva npages gen => Sys2Proof.Machine.execOpenWindow sid j dva npages gen s
  | .regen sid j gen => Sys2Proof.Machine.execRegen sid j gen s
  | .closeWindow sid j => Sys2Proof.Machine.execCloseWindow sid j s
  | .getScrubReport sid u => Sys2Proof.Machine.execGetScrubReport sid u s
  | .spdmSessionEnd sid => Sys2Proof.Machine.execSpdmSessionEnd sid s
  | .getLcNonce sid => Sys2Proof.Machine.execGetLcNonce sid s
  | .lcTransition ws regs cut erased => Sys2Proof.Machine.execLcTransition ws regs cut erased s
  | .lcResetDelay => Sys2Proof.Machine.execLcResetDelay s
  | .debugPortAccess sr a w ok odata => Sys2Proof.Machine.execDebugPortAccess sr a w ok odata s
  | .tstObsselWrite w => Sys2Proof.Machine.execTstObsselWrite w s
  | .recoveryClaim q => Sys2Proof.Machine.execRecoveryClaim q s
  | .recoveryGo q len flashOk => Sys2Proof.Machine.execRecoveryGo q len flashOk s
  | .recoveryIdleTimeout => Sys2Proof.Machine.execRecoveryIdleTimeout s
  | .resetCore w => Sys2Proof.Machine.execResetCore w s
  | .resetGroup w => Sys2Proof.Machine.execResetGroup w s
  | .resetPartition w => Sys2Proof.Machine.execResetPartition w s
  | .partitionResetTimeout => Sys2Proof.Machine.execPartitionResetTimeout s
  | .resetWhole w => Sys2Proof.Machine.execResetWhole w s
  | .rstNLow => Sys2Proof.Machine.execRstNLow s
  | .scanSlice bad rail aborted => Sys2Proof.Machine.execScanSlice bad rail aborted s
  | .katRun t => Sys2Proof.Machine.execKatRun t s
  | .katResult p mask => Sys2Proof.Machine.execKatResult p mask s
  | .reliabilityConditionChange supply => Sys2Proof.Machine.execReliabilityConditionChange supply s
  | .logWrite ok => Sys2Proof.Machine.execLogWrite ok s
  | .bondLaneRepair n d j => Sys2Proof.Machine.execBondLaneRepair n d j s
  | .bondWidthStep n => Sys2Proof.Machine.execBondWidthStep n s
  | .controlCoreOffline w => Sys2Proof.Machine.execControlCoreOffline w s
  | .regulatorPhaseFault r => Sys2Proof.Machine.execRegulatorPhaseFault r s
  | .snpCfgWrite w => Sys2Proof.Machine.execSnpCfgWrite w s
  | .snpRngWrite r j w => Sys2Proof.Machine.execSnpRngWrite r j w s
  | .digestPassDone r faulty bad => Sys2Proof.Machine.execDigestPassDone r faulty bad s
  | .digestRangeLate r => Sys2Proof.Machine.execDigestRangeLate r s
  | .digestFrame q r lgen dig bad => Sys2Proof.Machine.execDigestFrame q r lgen dig bad s
  | .fetchFrame q t g b n => Sys2Proof.Machine.execFetchFrame q t g b n s
  | .fdataFrame q t g b data => Sys2Proof.Machine.execFdataFrame q t g b data s
  | .twinPairing auth cap digs role epoch standby => Sys2Proof.Machine.execTwinPairing auth cap digs role epoch standby s
  | .mirCfgWrite n w => Sys2Proof.Machine.execMirCfgWrite n w s
  | .mird q t kind target off data => Sys2Proof.Machine.execMird q t kind target off data s
  | .mend q t n => Sys2Proof.Machine.execMend q t n s
  | .mack q t => Sys2Proof.Machine.execMack q t s
  | .noticeFrame q => Sys2Proof.Machine.execNoticeFrame q s
  | .twinFailover w => Sys2Proof.Machine.execTwinFailover w s
  | .twinLinkSilence => Sys2Proof.Machine.execTwinLinkSilence s
  | .silq q p silent => Sys2Proof.Machine.execSilq q p silent s
  | .sila q silent => Sys2Proof.Machine.execSila q silent s
  | .peerHeart q => Sys2Proof.Machine.execPeerHeart q s
  | .twinLinkDown => Sys2Proof.Machine.execTwinLinkDown s
  | .domainGate w => Sys2Proof.Machine.execDomainGate w s
  | .domainGateEffect m => Sys2Proof.Machine.execDomainGateEffect m s
  | .domainUngate w => Sys2Proof.Machine.execDomainUngate w s
  | .pllLocked m ns => Sys2Proof.Machine.execPllLocked m ns s
  | .pllLockLoss m ns => Sys2Proof.Machine.execPllLockLoss m ns s
  | .clkRelock m w => Sys2Proof.Machine.execClkRelock m w s
  | .relockTimeout m => Sys2Proof.Machine.execRelockTimeout m s
  | .nsetWrite m w => Sys2Proof.Machine.execNsetWrite m w s
  | .freqRampStep m => Sys2Proof.Machine.execFreqRampStep m s
  | .thermalSample x => Sys2Proof.Machine.execThermalSample x s
  | .thermalLoop => Sys2Proof.Machine.execThermalLoop s
  | .powerCapLoop sites pkg => Sys2Proof.Machine.execPowerCapLoop sites pkg s
  | .railSample rails vin iin => Sys2Proof.Machine.execRailSample rails vin iin s
  | .vinOvercurrent => Sys2Proof.Machine.execVinOvercurrent s
  | .coolInWrite w => Sys2Proof.Machine.execCoolInWrite w s
  | .coolantReportStale => Sys2Proof.Machine.execCoolantReportStale s
  | .pwrCfgWrite w => Sys2Proof.Machine.execPwrCfgWrite w s
  | .i3cAddressAssign daddr ibi => Sys2Proof.Machine.execI3cAddressAssign daddr ibi s
  | .mctpControl eid => Sys2Proof.Machine.execMctpControl eid s
  | .pldmPlatformRequest id value => Sys2Proof.Machine.execPldmPlatformRequest id value s
  | .pldmPlatformEvent => Sys2Proof.Machine.execPldmPlatformEvent s
  | .pldmFruRead => Sys2Proof.Machine.execPldmFruRead s
  | .pldmFirmwareUpdate image flashOk => Sys2Proof.Machine.execPldmFirmwareUpdate image flashOk s
  | .mgtReset => Sys2Proof.Machine.execMgtReset s
  | .mgtFailover => Sys2Proof.Machine.execMgtFailover s
  | .mgtTenantConfig u key w => Sys2Proof.Machine.execMgtTenantConfig u key w s
  | .mgtReadLog j => Sys2Proof.Machine.execMgtReadLog j s
  | .mgtReadStatus => Sys2Proof.Machine.execMgtReadStatus s
  | .peerPortLaneLoss q x => Sys2Proof.Machine.execPeerPortLaneLoss q x s
  | .perstNDeassert q => Sys2Proof.Machine.execPerstNDeassert q s
  | .recoveryResetDelay => Sys2Proof.Machine.execRecoveryResetDelay s
  | .returnToD0 q f => Sys2Proof.Machine.execReturnToD0 q f s
  | .nodeFaultCopy seq => Sys2Proof.Machine.execNodeFaultCopy seq s

end Sys2Proof.Machine
end

