-- ==== Sys2Proof/Machine/Timebase.lean ====
section
/-! DEFINITION. What one step of the 100 MHz reference, 10 ns, brings whatever is commanded: hub time, the tick timebase, the
cycles of the compute domains, the tokens of the injectors, the age of the coolant report (11 R379, R405; 18 R593, R599,
R600, R619; 04 CORE_CYCLE). -/

namespace Sys2Proof.Machine

/-- The reference runs: CD0 has power and runs on the crystal (18 R593). -/
def State.refRuns (s : State) : Bool := s.cro.aux && s.cro.crystal

/-- Arithmetic cycles of compute domain m in 10 ns, in fortieths: n / 8 from the PLL, 20 MHz in bypass (18 R599, R600). -/
def State.cyclesPerStep (s : State) (m : Nat) : Nat :=
  if !(s.flag (fClkRun m)) then 0 else if s.flag (fClkSrc m) then 8 else 5 * (s.clk m).n

/-- The compute domains count their cycles. -/
def State.countCycles (s : State) : State :=
  { s with domCyc := (List.range 12).foldl (fun l g => smSetD l 0 (5 + g) (smGetD l 0 (5 + g) + s.cyclesPerStep (5 + g))) s.domCyc }

/-- The tick offset counts whole microseconds while the program runs (10 R338). -/
def State.countTick (s : State) : State :=
  if !s.ticking then s
  else
    let s := { s with seq := { s.seq with ns := (s.seq.ns + 10) % 1000 } }
    if s.seq.ns = 0 then s.addSat fTsqToff 1 else s

/-- The age of the coolant report in 0.1 s. -/
def State.countAge (s : State) : State :=
  match s.cro.coolAt with
  | none => s
  | some t => s.set fCoolAge (min 0xFFFF ((s.now - t) / 10000000))

/-- OS_STATk.rejoins counts the rejoins of the last 24 h (12 R447). -/
def State.ageRejoins (s : State) : State :=
  (List.range 8).foldl (fun s k =>
    if (s.opn k).rejoinAt = [] then s
    else (s.set (fOsRejoins k) (s.recentRejoins k).length).modOpen k (fun o => { o with rejoinAt := s.recentRejoins k })) s

/-- One step of the reference. Without power nothing happens; without the crystal only time since power-on passes. -/
def State.refStep (s : State) : State :=
  if !s.cro.aux then s
  else
    let s := { s with now := s.now + 1 }
    if !s.refRuns then s
    else (({ s with hubTime := (s.hubTime + 1) % 2 ^ 24 }.countTick).countCycles.refill).countAge.ageRejoins

end Sys2Proof.Machine
end

