-- ==== Sys2Proof/Safety.lean ====
section
/-! DEFINITION. What counts as a safe run, and the terms in which the statements speak of a command: that it completes,
what it leaves as it was, and when a core is ready to issue. -/

namespace Sys2Proof.Machine

/-! ## Runs -/

/-- The data of the state is in its one canonical form: memory lists rising addresses and no byte that reads as an unlisted
one. -/
def State.Canonical (s : State) : Prop := memWf s.mem = true

/-- A run of `n` steps is safe: no step stops, and every state that it passes is canonical. -/
def SafeRun : Nat → State → Prop
  | 0, s => s.Canonical
  | n + 1, s => s.Canonical ∧ ∃ t, step s = .next t ∧ SafeRun n t

/-! ## What a command does -/

/-- Command `i` completes at `s` in a state of which `P` holds. -/
def Completes (i : Instr) (s : State) (P : State → Prop) : Prop := ∃ t, exec i s = .next t ∧ P t

/-- Only core `c` differs. -/
def OnlyCore (s t : State) (c : Nat) : Prop := { t with cores := s.cores } = s ∧ ∀ c', c' ≠ c → t.core c' = s.core c'

/-- Only registers differ, and none but those at the offsets of the list. -/
def OnlyRegs (s t : State) (os : List Nat) : Prop := { t with regs := s.regs } = s ∧ ∀ o, o ∉ os → t.rd o = s.rd o

/-- Only one field of one register differs; the rest of its word is kept. -/
def OnlyField (s t : State) (f : Fld) : Prop :=
  OnlyRegs s t [f.off] ∧ ∀ g : Fld, g.off = f.off → g.fits = true → g.apart f = true → t.get g = s.get g

/-! ## Cores -/

/-- Core `c` issues, and no register of its scoreboard is awaited. -/
def Ready (s : State) (c : Nat) (rs : List (Fin 32)) (vs : List (Fin 16)) : Prop :=
  s.canIssue c = true ∧ rs.all (s.core c).regFree = true ∧ vs.all (s.core c).vregFree = true

/-- Ready, and the instruction is not the one at the scratchpad's last word, after which the program counter leaves it. -/
def ReadyMid (s : State) (c : Nat) (rs : List (Fin 32)) (vs : List (Fin 16)) : Prop :=
  Ready s c rs vs ∧ (s.core c).pc ≠ 0x7FFC

/-- Core `c` has done `f` to its registers and stands at the next instruction; nothing else has changed. -/
def Stepped (s t : State) (c : Nat) (f : Core → Core) : Prop :=
  t.core c = { f (s.core c) with pc := (s.core c).pc + 4, wait := none } ∧ OnlyCore s t c

end Sys2Proof.Machine
end

