-- ==== Sys2Proof/WellFormed.lean ====
section
/-! DEFINITION. The ranges of the commands' operands: which core, tile, stack, site, port, tenant, register a command may
name (00 R5 to R8; the register maps). A command that is not well formed names something that the package does not have. -/

namespace Sys2Proof

/-- A logical core address (00 R8). -/
def coreOk (c : Nat) : Bool := decide (c / 2 ^ 14 < 48 ∧ c / 2 ^ 7 % 128 < 80 ∧ c % 128 < 80)

/-- A physical core: one of the 84 columns and 80 rows of a tile (02 R42). -/
def physOk (p : Nat) : Bool := decide (p / 8192 < 48 ∧ p % 8192 < 6720)

/-- A register by its R-space offset, or, for a control core's uncached access, a whole device address below 2^48 with the
access's size above: 0 to 3 for 8, 4, 2 and 1 bytes, which its address is aligned to (07 R253). -/
def regOk (agent off : Nat) : Bool :=
  decide (agent < 66 ∧ ((off < 2 ^ 32 ∧ off % 8 = 0)
    ∨ (agent = 0 ∧ 2 ^ 44 ≤ off % 2 ^ 48 ∧ off / 2 ^ 48 < 4 ∧ off % 2 ^ (3 - off / 2 ^ 48) = 0)))

/-- Symbol positions of a burst with nonzero byte differences (08 R269, R270). -/
def symsOk (l : List (Nat × Nat)) : Bool := l.all (fun x => decide (x.1 < 288 ∧ 0 < x.2 ∧ x.2 < 256))

/-- The units that training names exist. -/
def trainingOk (x : Training) : Bool :=
  x.links.all (fun l => decide (l.1 < 256)) && x.guides.all (fun g => decide (g.1 < 12))
    && x.chans.all (fun y => decide (y.1 < 48 * 136)) && x.layers.all (fun y => decide (y.1 < 48 ∧ y.2 ≤ 16))
    && x.temps.all (fun y => decide (y.1 < 48)) && x.tiles.all (fun t => decide (t < 48)) && x.cores.all physOk && x.ports.all (fun n => decide (n < 64))
    && decide (x.peers.length ≤ 4 ∧ x.laser.length ≤ 4) && x.routers.all physOk && x.linkTemps.all (fun l => decide (l.1 < 512))
    && x.lanes.all (fun l => decide (l / 2048 < 128 ∧ l % 2048 < 1056))

/-- Whether every operand lies in its range. -/
def Instr.wf (i : Instr) : Bool :=
  match i with
  | .registerWrite agent off _ _ => regOk agent off
  | .rsRegisterRead agent x => regOk agent x.off
  | .auxPowerOn record dies slot => decide (slot < 8) && decide (record.length ≤ 18) && decide (dies.length ≤ 4)
  | .crystalQualifyWindow _ => true
  | .crystalQualifyTimeout => true
  | .crystalMonitorWindow _ => true
  | .pwrgdRise phases straps => straps.all (fun v => decide (v < 4)) && phases.all (fun r => decide (r < 260))
  | .pwrgdFall => true
  | .strapValueReceived k v _ => decide (k < 4) && decide (v < 4)
  | .strapCheckTimeout => true
  | .hubReleaseAndSelfTest _ _ cores _ => decide (cores < 2 ^ 18)
  | .imageVerify _ => true
  | .siteReleaseAndTrain x => trainingOk x
  | .bringupZeroFill => true
  | .bringupKnownAnswer bad => bad.all physOk
  | .firmwareStart => true
  | .fwready _ => true
  | .fwreadyTimeout => true
  | .configRetryTimeout q => decide (q < 4)
  | .pwrCapWrite n _ => decide (n < 64)
  | .openSiteCurrentLimit k => decide (k < 8)
  | .coreRemap c _ => coreOk c
  | .scratchpadScrubStep c errs => coreOk c && errs.all (fun x => decide (x.1 < 8))
  | .scratchpadCorrectWriteback c o => coreOk c && decide (o < 0x8000) && decide (o % 8 = 0)
  | .add c _ _ _ => coreOk c
  | .sub c _ _ _ => coreOk c
  | .and c _ _ _ => coreOk c
  | .or c _ _ _ => coreOk c
  | .xor c _ _ _ => coreOk c
  | .shl c _ _ _ => coreOk c
  | .shr c _ _ _ => coreOk c
  | .sra c _ _ _ => coreOk c
  | .slt c _ _ _ => coreOk c
  | .min c _ _ _ => coreOk c
  | .max c _ _ _ => coreOk c
  | .minu c _ _ _ => coreOk c
  | .maxu c _ _ _ => coreOk c
  | .mul c _ _ _ => coreOk c
  | .mulh c _ _ _ => coreOk c
  | .mulhu c _ _ _ => coreOk c
  | .popc c _ _ => coreOk c
  | .clz c _ _ => coreOk c
  | .ctz c _ _ => coreOk c
  | .sltu c _ _ _ => coreOk c
  | .addi c _ _ _ => coreOk c
  | .andi c _ _ _ => coreOk c
  | .ori c _ _ _ => coreOk c
  | .xori c _ _ _ => coreOk c
  | .slti c _ _ _ => coreOk c
  | .sltiu c _ _ _ => coreOk c
  | .lui c _ _ => coreOk c
  | .ins32 c _ _ _ => coreOk c
  | .shi c _ _ _ _ => coreOk c
  | .ldb c _ _ _ => coreOk c
  | .ldbu c _ _ _ => coreOk c
  | .ldh c _ _ _ => coreOk c
  | .ldhu c _ _ _ => coreOk c
  | .ldw c _ _ _ => coreOk c
  | .ldwu c _ _ _ => coreOk c
  | .ldd c _ _ _ => coreOk c
  | .stb c _ _ _ => coreOk c
  | .sth c _ _ _ => coreOk c
  | .stw c _ _ _ => coreOk c
  | .std c _ _ _ => coreOk c
  | .beq c _ _ _ => coreOk c
  | .bne c _ _ _ => coreOk c
  | .blt c _ _ _ => coreOk c
  | .bge c _ _ _ => coreOk c
  | .bltu c _ _ _ => coreOk c
  | .bgeu c _ _ _ => coreOk c
  | .jal c _ _ => coreOk c
  | .jalr c _ _ _ => coreOk c
  | .send c _ _ => coreOk c
  | .recv c _ _ => coreOk c
  | .atomAdd c _ _ _ => coreOk c
  | .atomSwap c _ _ _ => coreOk c
  | .atomCas c _ _ _ => coreOk c
  | .atomOr c _ _ _ => coreOk c
  | .fenceS c => coreOk c
  | .sendDelivered _ _ => true
  | .recvServe _ _ => true
  | .recvDataArrival _ => true
  | .atomApply _ _ => true
  | .atomResultArrival _ => true
  | .sendAckArrival _ => true
  | .messageErrorArrival _ => true
  | .waitcnt c _ _ => coreOk c
  | .waitcnti c _ _ => coreOk c
  | .cntrd c _ _ => coreOk c
  | .cntwr c _ _ => coreOk c
  | .cntsub c _ _ => coreOk c
  | .dmaFill c _ => coreOk c
  | .dmaDrain c _ => coreOk c
  | .dmaCopy c _ => coreOk c
  | .dmaZero c _ => coreOk c
  | .fenceD c => coreOk c
  | .dmaExtentCheck _ => true
  | .dmaChunk t _ _ => decide (t < 48)
  | .dmaComplete _ => true
  | .mfsr c _ _ => coreOk c
  | .mtsr c _ _ => coreOk c
  | .tbar c => coreOk c
  | .tbarRelease k => decide (k < 1024)
  | .tend c => coreOk c
  | .eret c => coreOk c
  | .fenceI c => coreOk c
  | .coreStopReport c => coreOk c
  | .tmac c _ _ _ _ _ => coreOk c
  | .tensorOpComplete c _ => coreOk c
  | .tzero c _ => coreOk c
  | .tst c _ _ => coreOk c
  | .tld c _ _ => coreOk c
  | .trow c _ _ _ _ => coreOk c
  | .taddr c _ _ _ => coreOk c
  | .taddm c _ _ => coreOk c
  | .vld c _ _ _ => coreOk c
  | .vst c _ _ _ => coreOk c
  | .vaddH c _ _ _ => coreOk c
  | .vsubH c _ _ _ => coreOk c
  | .vmulH c _ _ _ => coreOk c
  | .vfmaH c _ _ _ _ => coreOk c
  | .vminH c _ _ _ => coreOk c
  | .vmaxH c _ _ _ => coreOk c
  | .vabsH c _ _ => coreOk c
  | .vnegH c _ _ => coreOk c
  | .vrcpH c _ _ => coreOk c
  | .vrsqH c _ _ => coreOk c
  | .vexp2H c _ _ => coreOk c
  | .vcltH c _ _ _ => coreOk c
  | .vceqH c _ _ _ => coreOk c
  | .vsel c _ _ _ _ => coreOk c
  | .vaddI c _ _ _ => coreOk c
  | .vsubI c _ _ _ => coreOk c
  | .vand c _ _ _ => coreOk c
  | .vor c _ _ _ => coreOk c
  | .vxor c _ _ _ => coreOk c
  | .vshlI c _ _ _ => coreOk c
  | .vshrI c _ _ _ => coreOk c
  | .vsraI c _ _ _ => coreOk c
  | .vcltI c _ _ _ => coreOk c
  | .vrsumH c _ _ => coreOk c
  | .vrmaxH c _ _ => coreOk c
  | .vrminH c _ _ => coreOk c
  | .vrsumI c _ _ => coreOk c
  | .vbcast c _ _ => coreOk c
  | .vext c _ _ _ => coreOk c
  | .vins c _ _ _ => coreOk c
  | .vldq c _ _ _ => coreOk c
  | .vcvtHi c _ _ _ => coreOk c
  | .vcvtIh c _ _ _ => coreOk c
  | .qsb c _ _ _ => coreOk c
  | .dqb c _ _ _ => coreOk c
  | .cvtb c _ _ _ => coreOk c
  | .illegalInstruction c _ => coreOk c
  | .checkerArbitration _ _ => true
  | .cmoClean c _ => decide (c < 16)
  | .cmoInvalidate c _ => decide (c < 16)
  | .cmoCleanInvalidate c _ => decide (c < 16)
  | .cmoDone c => decide (c < 16)
  | .controlCacheFill addr stores => decide (addr < 2 ^ 48) && stores.all (fun x => decide (x.1 < 64))
  | .controlCacheWriteback addr _ => decide (addr < 2 ^ 48)
  | .poisonLineTrap addr => decide (addr < 2 ^ 48)
  | .controlCacheError kind addr => decide (kind < 5) && decide (addr < 2 ^ 48)
  | .directoryProbeTimeout p => decide (p < 18)
  | .stackRead addr src errs => decide (addr < 2 ^ 48) && decide (src < 16) && symsOk errs
  | .stackWrite addr bs => decide (addr < 2 ^ 48) && decide (bs.length ≤ 256)
  | .ueTenantCopy => true
  | .stackCorrectWriteback addr => decide (addr < 2 ^ 48)
  | .patrolScrub addr errs => decide (addr < 2 ^ 48) && symsOk errs
  | .stackRefresh t layer => decide (t < 48) && decide (layer < 17)
  | .retrainDue t p => decide (t < 48) && decide (p < 136)
  | .retrainGroup t ps => decide (t < 48) && ps.all (fun p => decide (p < 136))
  | .retrainGroupDone t fails => decide (t < 48) && fails.all (fun x => decide (x.1 < 136))
  | .retrainingOverdue t p => decide (t < 48) && decide (p < 136)
  | .channelRepair t c _ => decide (t < 48) && decide (c < 128)
  | .layerRepair t l _ => decide (t < 48) && decide (l < 16)
  | .repairCopyBurst t => decide (t < 48)
  | .repairCopyDone t => decide (t < 48)
  | .stkRetWrite t k _ => decide (t < 48) && decide (k < 256)
  | .retirementFillDone t k => decide (t < 48) && decide (k < 256)
  | .trnWrite _ => true
  | .trnClear _ => true
  | .trnUpdateDone => true
  | .faultRecordWrite u => decide (u < 17)
  | .taskPark k => decide (k < 1024)
  | .fltConsWrite u _ _ => decide (u < 17)
  | .fltPush u _ => decide (u < 17)
  | .fltResolveRetry u seq => decide (u < 17) && decide (seq < 2 ^ 32)
  | .fltResolveDrop u seq => decide (u < 17) && decide (seq < 2 ^ 32)
  | .faultSweep u => decide (u < 17)
  | .atsInvalidation q f _ _ => decide (q < 4) && decide (f < 17)
  | .tickProgramStart => true
  | .tickProgramStop => true
  | .tsqPeriodWrite _ => true
  | .tsqCfgWrite _ => true
  | .bankSwapRequest => true
  | .admission => true
  | .admissionRecheck => true
  | .tickBoundary => true
  | .guardBandStart => true
  | .extensionDeadline => true
  | .phase => true
  | .ingest => true
  | .runTask => true
  | .waitt => true
  | .commitTasks => true
  | .atOffset => true
  | .atOffsetReached => true
  | .skipIf => true
  | .programEvent => true
  | .mirrorStart => true
  | .endProgram => true
  | .taskBind => true
  | .coreWaveStart k => decide (k < 1024)
  | .drainStopDone k => decide (k < 1024)
  | .taskLoad _ => true
  | .taskUnload _ => true
  | .taskCommandDone => true
  | .seqSlotWrite n i _ => decide (n < 64) && decide (i < 4)
  | .contextRecordWrite addr _ => decide (addr < 2 ^ 48)
  | .routerAccept n p _ => decide (n < 64) && decide (p < 16)
  | .packetInject _ _ _ data _ => decide (data.length ≤ 2048)
  | .linkReplay n p _ => decide (n < 64) && decide (p < 16)
  | .hubLinkNarrow n d => decide (n < 64) && decide (d < 4)
  | .wavelengthSpareSwap w b => decide (w < 12) && decide (b < 32)
  | .linkRetrain _ idx _ _ => decide (idx < 512)
  | .queueFeedback res _ _ => decide (res < 64)
  | .labelLatencyMissed site l => decide (site < 64) && decide (l < 8)
  | .eventQueueWrite u _ => decide (u < 17)
  | .evqConsWrite u _ _ _ => decide (u < 17)
  | .evqWordRead u i => decide (u < 17) && decide (i < 16384)
  | .lupProbeWrite n j r who _ => decide (n < 64) && decide (j < 4) && decide (r < 3) && decide (who < 17)
  | .slrCfgWrite l _ => decide (l < 8)
  | .guaranteeWrite g _ => decide (g < 128)
  | .openSitePowerUp k => decide (k < 8)
  | .ucieTrain k _ ok _ => decide (k < 8) && decide (ok < 16)
  | .ucieModuleLoss k m _ => decide (k < 8) && decide (m < 4)
  | .bmlSend k _ => decide (k < 8)
  | .bmlRecv k _ => decide (k < 8)
  | .rdata k _ => decide (k < 8)
  | .ackMsg k _ => decide (k < 8)
  | .merr k _ => decide (k < 8)
  | .mrd k _ => decide (k < 8)
  | .mrdd k tag => decide (k < 8) && decide (tag < 2 ^ 16)
  | .mwr k _ => decide (k < 8)
  | .mcpl k tag => decide (k < 8) && decide (tag < 2 ^ 16)
  | .matom k _ => decide (k < 8)
  | .ordMsg k off _ => decide (k < 8) && decide (off < 2 ^ 40)
  | .ordd k _ => decide (k < 8)
  | .owr k off _ => decide (k < 8) && decide (off < 2 ^ 40)
  | .ocpl k _ => decide (k < 8)
  | .descMsg k _ => decide (k < 8)
  | .dack k _ => decide (k < 8)
  | .heart k _ => decide (k < 8)
  | .treport k _ => decide (k < 8)
  | .throttle k => decide (k < 8)
  | .credit k _ => decide (k < 8)
  | .gerr k _ => decide (k < 8)
  | .descriptorTimeout k => decide (k < 8)
  | .heartbeatLoss k => decide (k < 8)
  | .treportMissing k => decide (k < 8)
  | .galertAsserted k => decide (k < 8)
  | .osIsolate k _ => decide (k < 8)
  | .osRejoin k _ => decide (k < 8)
  | .osGrantWrite k u _ => decide (k < 8) && decide (u < 16)
  | .perstNAssert q _ _ => decide (q < 4)
  | .hostLinkUp q lanes speed => decide (q < 4) && decide (lanes ≤ 16) && decide (speed ≤ 6)
  | .hostLinkDown q trig _ _ => decide (q < 4) && decide (trig < 8)
  | .portQuiesce q => decide (q < 4)
  | .quiesceComplete q => decide (q < 4)
  | .portRelease q _ => decide (q < 4)
  | .htBindWrite q f _ => decide (q < 4) && decide (f < 17)
  | .queueEnable q f i r _ => decide (q < 4) && decide (f < 17) && decide (i < 256) && decide (r < 4)
  | .sqTailDoorbell q f i idx => decide (q < 4) && decide (f < 17) && decide (i < 256) && decide (idx < 4096)
  | .cqHeadDoorbell q f i idx => decide (q < 4) && decide (f < 17) && decide (i < 256) && decide (idx < 4096)
  | .sqFetch q _ => decide (q < 4)
  | .sqFetchError q => decide (q < 4)
  | .h2dCopy _ _ _ _ => true
  | .d2hCopy _ _ _ _ => true
  | .nop _ => true
  | .svcMap _ => true
  | .svcUnmap _ => true
  | .svcResolve _ => true
  | .svcLoadUnload _ => true
  | .svcProbe _ => true
  | .svcReadreg _ => true
  | .svcRetire _ => true
  | .svcResolveGranule _ => true
  | .svcBank _ => true
  | .svcSlotRecord _ => true
  | .cqEntryWrite _ => true
  | .ingestCut u => decide (u < 16)
  | .msixMessage q f _ => decide (q < 4) && decide (f < 17)
  | .cqCoalesceTimeout q f i => decide (q < 4) && decide (f < 17) && decide (i < 256)
  | .hostMemRead q f _ _ _ _ => decide (q < 4) && decide (f < 17)
  | .hostMemWrite q f _ _ _ _ => decide (q < 4) && decide (f < 17)
  | .hostAtomicop q f _ n _ _ _ _ => decide (q < 4 ∧ f < 17 ∧ (n = 4 ∨ n = 8))
  | .bar0Access q f _ _ _ _ => decide (q < 4) && decide (f < 17)
  | .flr q f _ => decide (q < 4) && decide (f < 17)
  | .d3hotEntry q f => decide (q < 4) && decide (f < 17)
  | .tenantCreate u _ => decide (u < 16)
  | .tenantAddTiles u _ => decide (u < 16)
  | .tenantRemoveTiles u _ => decide (u < 16)
  | .tenantTeardown u _ => decide (u < 16)
  | .teardownScrubDone u => decide (u < 16)
  | .tenPermWrite u i _ => decide (u < 16) && decide (i < 32)
  | .comRgnWrite r _ => decide (r < 64)
  | .comRldWrite r _ => decide (r < 64)
  | .configDigestUpdate u => decide (u < 16)
  | .firmwareSpaceRefused site addr _ => decide (site < 64) && decide (addr < 2 ^ 48)
  | .spdmMessage port _ _ _ => decide (port < 5)
  | .getMeasurements _ i => decide (i < 256)
  | .bindSession _ u => decide (u < 16)
  | .openWindow _ i dva _ _ => decide (i < 8) && decide (dva < 2 ^ 48)
  | .regen _ i _ => decide (i < 8)
  | .closeWindow _ i => decide (i < 8)
  | .getScrubReport _ u => decide (u < 16)
  | .spdmSessionEnd _ => true
  | .getLcNonce _ => true
  | .lcTransition ws regs _ _ => (regs || ws.length == 12)
  | .lcResetDelay => true
  | .debugPortAccess _ a _ _ _ => decide (a < 2 ^ 48 + 5)
  | .tstObsselWrite _ => true
  | .recoveryClaim q => decide (q < 4)
  | .recoveryGo q len _ => decide (q < 4) && decide (len < 2 ^ 24)
  | .recoveryIdleTimeout => true
  | .resetCore _ => true
  | .resetGroup _ => true
  | .resetPartition _ => true
  | .partitionResetTimeout => true
  | .resetWhole _ => true
  | .rstNLow => true
  | .scanSlice _ _ _ => true
  | .katRun t => decide (t < 48)
  | .katResult _ mask => decide (mask < 2 ^ 32)
  | .reliabilityConditionChange _ => true
  | .logWrite _ => true
  | .bondLaneRepair n d i => decide (n < 64) && decide (d < 2) && decide (i < 2048)
  | .bondWidthStep n => decide (n < 64)
  | .controlCoreOffline _ => true
  | .regulatorPhaseFault r => decide (r < 260)
  | .snpCfgWrite _ => true
  | .snpRngWrite r i _ => decide (r < 256) && decide (i < 8)
  | .digestPassDone r _ _ => decide (r < 256)
  | .digestRangeLate r => decide (r < 256)
  | .digestFrame q r _ _ _ => decide (q < 4) && decide (r < 256)
  | .fetchFrame q t _ _ _ => decide (q < 4) && decide (t < 48)
  | .fdataFrame q t _ _ _ => decide (q < 4) && decide (t < 48)
  | .twinPairing _ _ _ _ _ _ => true
  | .mirCfgWrite n _ => n.all (fun k => decide (k < 64))
  | .mird q _ _ _ _ _ => decide (q < 4)
  | .mend q _ _ => decide (q < 4)
  | .mack q _ => decide (q < 4)
  | .noticeFrame q => decide (q < 4)
  | .twinFailover _ => true
  | .twinLinkSilence => true
  | .silq q p _ => decide (q < 4) && decide (p < 4)
  | .sila q _ => decide (q < 4)
  | .peerHeart q => decide (q < 4)
  | .twinLinkDown => true
  | .domainGate _ => true
  | .domainGateEffect m => decide (m < 25)
  | .domainUngate _ => true
  | .pllLocked m _ => decide (m < 25)
  | .pllLockLoss m _ => decide (m < 25)
  | .clkRelock m _ => decide (m < 25)
  | .relockTimeout m => decide (m < 25)
  | .nsetWrite m _ => decide (m < 25)
  | .freqRampStep m => decide (m < 25)
  | .thermalSample _ => true
  | .thermalLoop => true
  | .powerCapLoop sites _ => sites.all (fun x => decide (x.1 < 64))
  | .railSample rails _ _ => rails.all (fun x => decide (x.1 < 260))
  | .vinOvercurrent => true
  | .coolInWrite _ => true
  | .coolantReportStale => true
  | .pwrCfgWrite _ => true
  | .i3cAddressAssign daddr _ => decide (daddr < 128)
  | .mctpControl eid => eid.all (fun e => decide (e < 256))
  | .pldmPlatformRequest _ _ => true
  | .pldmPlatformEvent => true
  | .pldmFruRead => true
  | .pldmFirmwareUpdate _ _ => true
  | .mgtReset => true
  | .mgtFailover => true
  | .mgtTenantConfig u _ _ => decide (u < 16)
  | .mgtReadLog _ => true
  | .mgtReadStatus => true
  | .peerPortLaneLoss q x => decide (q < 4 ∧ x.lanes ≤ 8)
  | .perstNDeassert q => decide (q < 4)
  | .recoveryResetDelay => true
  | .returnToD0 q f => decide (q < 4) && decide (f < 17)
  | .nodeFaultCopy _ => true

end Sys2Proof
end

