-- ==== Sys2Proof/Certificates/Slice0/Obligations.lean ====
section
/-! DEFINITION. The statements about the model, by chapter of the spec. Each definition's docstring names the rule that it
formalises. Helper functions beside them say what the spec's tables and formulas say, in the statements' own terms. -/

open Sys2Proof Sys2Proof.Machine

/-! ## The machine -/

/-- A step takes the command at the front of the queue and runs it on the state with the queue's rest (derived: the block's
interface). -/
def Obligations.StepRunsFrontCommand : Prop :=
  ∀ (s : State) (i : Instr) (rest : List Instr), s.pending = i :: rest → step s = exec i { s with pending := rest }

/-- On an empty queue one step of the 10 ns reference passes. Without power nothing changes; with power and without the
crystal only the time since power-on passes; with both, hub time advances by one, modulo 2^24 (R379), and the queue stays
empty, memory, scratchpads, cores, tasks and everything that waits stay as they were. What a step on an empty queue is, is
the model's choice (log entry 3). -/
def Obligations.EmptyQueuePassesTime : Prop :=
  ∀ s : State, s.pending = [] →
    (s.cro.aux = false → step s = .next s) ∧
    (s.cro.aux = true → s.cro.crystal = false → step s = .next { s with now := s.now + 1 }) ∧
    (s.cro.aux = true → s.cro.crystal = true → ∃ t, step s = .next t ∧ t.now = s.now + 1 ∧
      t.hubTime = (s.hubTime + 1) % 2 ^ 24 ∧ t.pending = [] ∧ t.mem = s.mem ∧ t.cores = s.cores ∧ t.tasks = s.tasks ∧
      t.net = s.net ∧ t.dma = s.dma ∧ t.bks = s.bks ∧ t.hosts = s.hosts ∧ t.opens = s.opens ∧ t.sec = s.sec ∧
      t.cro = s.cro ∧ t.peers = s.peers ∧ t.out = s.out)

/-- No command stops the machine: whatever the state, every command answers a next state (derived: each error that the spec
names ends in a record, an event, an error answer or the safe state). -/
def Obligations.NoCommandStops : Prop := ∀ (i : Instr) (s : State), ∃ t, exec i s = .next t

/-- What the state holds before the first power-on: every list empty, nothing waits, no power, and every register at its
reset value. The values come from the register maps; a life-cycle state of FIELD in the OTP is the model's choice (log
entry 6). -/
def ResetStateRule : Prop :=
  (∀ o, State.reset.rd o = regReset o) ∧ (∀ k, State.reset.byte k = 0) ∧ (∀ c, State.reset.core c = coreReset 0) ∧
  State.reset.pending = [] ∧ State.reset.out = [] ∧ State.reset.tasks = [] ∧ State.reset.net = [] ∧ State.reset.dma = [] ∧
  State.reset.hubTime = 0 ∧ State.reset.cro = Crocus.init ∧ State.reset.sec = Security.fresh Otp.field ∧
  State.reset.get fBootMode = 0 ∧ State.reset.get fTsqT = 33333 ∧ State.reset.get fTsqGuard = 667 ∧
  State.reset.get fTsqMargin = 10 ∧ State.reset.get fTsqStep = 2 ∧ State.reset.get fPkgCap = 7500 ∧
  State.reset.get fCoolAge = 0xFFFF ∧ State.reset.get (fFloor 3 1) = 1 ∧
  (coreReset 0).mode = .idle ∧ (coreReset 0).pc = 0 ∧ (∀ r, (coreReset 0).sreg r = 0) ∧
  (∀ c, coreSrReset c 0x000 = BitVec.ofNat 64 c) ∧ (∀ c, coreSrReset c 0x030 = 0x55) ∧
  (∀ c, coreSrReset c 0x031 = 0x1400) ∧ (∀ c, coreSrReset c 0x03C = 0x2C00)

/-- Memory is in its canonical form at reset. -/
def ResetIsCanonicalRule : Prop := State.reset.Canonical

/-- The machine before the first power-on: its state, and that memory is canonical there. -/
def Obligations.ResetState : Prop := ResetStateRule ∧ ResetIsCanonicalRule

/-- Every step keeps memory in its canonical form: addresses rise and no listed byte reads as an unlisted one. -/
def Obligations.StepKeepsCanonicalMemory : Prop := ∀ s t : State, s.Canonical → step s = .next t → t.Canonical

/-- Registers: a field just written reads the low bits of what was written, and every other field of every register, and
everything that is no register, is as before. -/
def FieldWriteReadsBackRule : Prop :=
  ∀ (s : State) (f : Fld) (v : Nat), f.fits = true → (s.set f v).get f = v % 2 ^ f.width ∧ OnlyField s (s.set f v) f

/-- Memory: after a write of bytes the bytes of the range read as written and every other byte as before. -/
def ByteWriteReadsBackRule : Prop :=
  ∀ (s : State) (k : Nat) (bs : List Byte),
    (∀ i, (h : i < bs.length) → (s.setBytes k bs).byte (k + i) = bs[i]) ∧
    (∀ a, (a < k ∨ k + bs.length ≤ a) → (s.setBytes k bs).byte a = s.byte a) ∧
    { s.setBytes k bs with mem := s.mem } = s

/-- Register fields and memory bytes: a write reads back, and everything else is as before (00 R9, R10). -/
def Obligations.WritesReadBack : Prop := FieldWriteReadsBackRule ∧ ByteWriteReadsBackRule

/-! ## Instruction words (04, 05) -/

/-- Decoding reads back what encoding wrote: for every core instruction the word that it encodes to decodes to it, for the
core that fetches it and the operation code of its DMA descriptor. -/
def Obligations.KisDecodeOfEncode : Prop :=
  ∀ (i : Instr) (w : BitVec 32), kisEncode i = some w → ∃ dop c, kisDecode dop c w = i

/-- A word with the fields that an instruction leaves unused as 0: the a field of MFSR, the d field of MTSR, which may hold
anything (R153). -/
def unusedCleared (w : BitVec 32) : BitVec 32 :=
  if bitsOf (w.zeroExtend 64) 31 26 = 0x20 ∧ bitsOf (w.zeroExtend 64) 15 12 = 0 then w &&& 0xFFE0FFFF
  else if bitsOf (w.zeroExtend 64) 31 26 = 0x20 ∧ bitsOf (w.zeroExtend 64) 15 12 = 1 then w &&& 0xFC1FFFFF
  else w

/-- Every instruction word that is read as an instruction is, but for unused fields of MFSR and MTSR, the one word of that
instruction, so no other bit of a word is dropped; every other word raises ILLEGAL_INSTRUCTION with the word as its information
(R124, R153). -/
def Obligations.KisEncodeOfDecode : Prop :=
  ∀ (dop c : Nat) (w : BitVec 32),
    (∀ i, kisRead dop c w.toNat = some i → kisEncode i = some (unusedCleared w)) ∧
    (kisRead dop c w.toNat = none → kisDecode dop c w = .illegalInstruction c w)

/-! ## Bring-up (16; 01 R17, R22, R23) -/

/-- Crocus holds the package in CD0 with a cause: no firmware runs, and FAULT_N is asserted (16, CD0 hold; 19 R627). -/
def HeldWith (t : State) (c : Nat) : Prop :=
  t.get fBootMode = 2 ∧ t.get fBootCause = c ∧ t.cro.running = false ∧ t.cro.faultN = true

/-- The package is in the safe state with a cause: no firmware runs, the sequencer stands in idle, the clocks of the compute
domains have stopped, FAULT_N is asserted (16 R551; 19 R627). -/
def SafeWith (t : State) (c : Nat) : Prop :=
  t.get fBootMode = 4 ∧ t.get fBootCause = c ∧ t.cro.running = false ∧ t.get fTsqRun = 0 ∧ t.get fTsqPhase = 5 ∧
  (∀ g < 12, t.get (fClkRun (5 + g)) = 0) ∧ t.cro.faultN = true

/-- The package is in recovery mode with a cause: the domains of tiles, open sites and peers stand still, and FAULT_N is
asserted (16 R544; 19 R627). -/
def RecoveringWith (t : State) (c : Nat) : Prop :=
  t.get fBootMode = 3 ∧ t.get fBootCause = c ∧ (∀ m ∈ 23 :: (List.range 17).map (· + 5), t.get (fClkRun m) = 0) ∧
  t.cro.faultN = true

/-- Power, crystal and straps. Power-on fuses the identity record once, runs the internal oscillator and reads the OTP: a
intent ahead is completed, with LCS_RESULT done and a whole-device reset due; a torn step holds the package with cause 0x02, a
scrapped unit with cause 0 (the model's choice), else C1 has ended. Eight
windows of the crystal in band and alike hand CD0 over; none within 50 ms holds with cause 0x03, and so does its later loss
in bring-up, while at run time it is the safe state. PWRGD ends C3 and keeps the straps of this power-on; its fall restarts
the wait of C3, except in the safe state and in CD0 hold, which stay. Each neighbour value that a die receives is checked against its own strap, and a mismatch, or 1 ms without
all of them, holds with cause 0x01 (R534 to R537, R539; 01 R22, R23; 12 R443). -/
def Obligations.PowerAndStraps : Prop :=
  ∀ s : State,
    (∀ record dies slot, Completes (.auxPowerOn record dies slot) s (fun t => t.cro.aux = true ∧ t.cro.crystal = false ∧
      t.cro.pwrgd = false ∧ t.get (fClkSrc 0) = 1 ∧ t.get (fClkRun 0) = 1 ∧ t.mem = [] ∧ t.cores = [] ∧ t.tasks = [] ∧
      t.get fMgtSlot = slot % 8 ∧
      t.ident = (if s.ident = [] then (List.range 18).map (fun i => record.getD i 0) else s.ident) ∧
      (s.sec.otp.ahead = true → t.cro.lcDelay = true ∧ t.get fLcsDone = 1 ∧ 1 ∉ t.cro.ended ∧
        t.sec.otp = s.sec.otp.burnTo s.sec.otp.goal (2 ^ 16)) ∧
      (s.sec.otp.ahead = false → s.sec.otp.torn = true → HeldWith t 0x02) ∧
      (s.sec.otp.ahead = false → s.sec.otp.torn = false → s.sec.otp.pos = 16 → HeldWith t 0) ∧
      (s.sec.otp.ahead = false → s.sec.otp.torn = false → s.sec.otp.pos ≠ 16 →
        t.atStep 1 2 = true ∧ t.get fBootStep = 2 ∧ t.get fLcsState = lcsOf s.sec.otp.pos % 8))) ∧
    (∀ n m, s.atStep 1 2 = true → 38800 ≤ n → n ≤ 41200 → s.cro.lastCount = some m → n ≤ m + 4 → m ≤ n + 4 →
      s.cro.good = 7 → Completes (.crystalQualifyWindow n) s (fun t =>
        t.cro.crystal = true ∧ t.get (fClkSrc 0) = 0 ∧ t.get (fClkLost 0) = 4 ∧ 2 ∈ t.cro.ended)) ∧
    (∀ n, s.atStep 1 2 = true → (n < 38800 ∨ 41200 < n) →
      exec (.crystalQualifyWindow n) s = .next { s with cro := { s.cro with good := 0, lastCount := some n } }) ∧
    (s.atStep 1 2 = true → Completes .crystalQualifyTimeout s (fun t => HeldWith t 0x03)) ∧
    (∀ n, s.cro.aux = true → s.cro.crystal = true →
      (38800 ≤ n → n ≤ 41200 → exec (.crystalMonitorWindow n) s = .next s) ∧
      ((n < 38800 ∨ 41200 < n) → Completes (.crystalMonitorWindow n) s (fun t => t.cro.crystal = false ∧
        (s.get fBootMode = 0 ∨ s.get fBootMode = 3 → HeldWith t 0x03) ∧ (s.get fBootMode = 1 → SafeWith t 0x03)))) ∧
    (∀ straps, s.atStep 2 3 = true → 4 ∉ s.cro.ended → s.cro.straps = none → Completes (.pwrgdRise [] straps) s (fun t =>
      t.cro.pwrgd = true ∧ t.atStep 3 4 = true ∧ (s.cro.ended = [0, 1, 2] → t.get fBootStep = 4) ∧
      ∀ k < 4, t.get (fDieStrap k) = if s.cro.strapsRead then s.get (fDieStrap k) else straps.getD k 0 % 4)) ∧
    (s.cro.aux = true → s.cro.pwrgd = true → Completes .pwrgdFall s (fun t =>
      t.cro.pwrgd = false ∧ t.cro.boots = s.cro.boots + 1 ∧ t.cores = [] ∧ t.tasks = [] ∧ t.cro.running = false ∧
      (s.get fBootMode = 2 → HeldWith t (s.get fBootCause)) ∧
      (s.get fBootMode = 4 → t.get fBootMode = 4 ∧ t.get fBootCause = s.get fBootCause) ∧
      (s.get fBootMode ≠ 2 → s.get fBootMode ≠ 4 → s.sec.otp.ahead = false → s.sec.otp.torn = false → s.sec.otp.pos ≠ 16 →
        s.cro.crystal = true → t.atStep 2 3 = true))) ∧
    (∀ k v south, k < 4 → s.checking = true → Completes (.strapValueReceived k v south) s (fun t =>
      t.get (if south then fDieNbrS k else fDieNbrE k) = v % 4 ∧ t.get (if south then fDieRxS k else fDieRxE k) = 1 ∧
      t.flag (if south then fDieSeamS k else fDieSeamE k) =
        decide (v % 4 = (s.get (fDieStrap k) + if south then 3 else 1) % 4) ∧
      ((∀ j < 4, t.flag (fDieRxS j) = true ∧ t.flag (fDieRxE j) = true) →
        (t.strapsOk = true → 4 ∈ t.cro.ended) ∧ (t.strapsOk = false → HeldWith t 0x01)))) ∧
    (s.checking = true → Completes .strapCheckTimeout s (fun t =>
      (s.strapsOk = true → 4 ∈ t.cro.ended) ∧ (s.strapsOk = false → HeldWith t 0x01)))

/-- Every regulator has its full phases, and no record of the log asks for a repair: what C5 restores changes nothing. -/
def NothingToRestore (s : State) : Prop := s.cro.stateRecords = [] ∧ ∀ r < 260, s.get (fRegP r) ≤ s.get (fRegW r)

/-- The verdict on an image, header first, whose body begins at `body` (R540, R541): the cause of its refusal, or none. -/
def imageVerdict (s : State) (b : Nat → Byte) (body : Nat) : Option Nat :=
  let fw := bitsOf (hdrWord b 1) 31 0
  let key := bitsOf (hdrWord b 0) 23 16
  let bytes (a n : Nat) : List Byte := (List.range n).map (fun i => b (a + i))
  if hdrBad b then some 0x04
  else if keyPermitted (s.get fLcsState) key = false
      ∨ Config.sm2Verify (if key = 1 then Config.fwManufKey else Config.fwProdKey) (bytes 0 128) (bytes 128 64) = false
      ∨ Config.sm3 (bytes body fw) ≠ numAt b 32 32 then some 0x05
  else if bitsOf (hdrWord b 0) 63 32 < s.sec.otp.floorN then some 0x06
  else none

/-- Self-test, training and the image. C5 keeps sixteen of the control cores that pass; a hub, cores or a security engine that
fail are the safe state with causes 0x08, 0x09 and 0x0C. C7 keeps what training found; a link below quarter width is cause
0x0B. C8 zeroes stacks and scratchpads once every open site stands; C9 ends. C6 takes a sound image, whose security version
and length it shows, or enters recovery mode with the cause of its check; without an answer of the flash the cause is 0x07
(R538, R541 to R544, R547, R641). -/
def SelfTestAndImageRule : Prop :=
  ∀ s : State,
    (∀ hub sec cores logok, s.atStep 4 5 = true → Completes (.hubReleaseAndSelfTest hub sec cores logok) s (fun t =>
      5 ∈ t.cro.ended)) ∧
    (∀ hub sec cores logok, s.atStep 4 5 = true → NothingToRestore s → s.cro.ccFree = List.range 18 →
      let ok := (List.range 18).filter (fun p => cores / 2 ^ p % 2 == 1)
      Completes (.hubReleaseAndSelfTest hub sec cores logok) s (fun t => 5 ∈ t.cro.ended ∧ t.mem = s.mem ∧
        t.cro.cc = (ok.take 16).map some ∧ t.cro.ccFree = ok.drop 16 ∧
        (hub = false → SafeWith t 0x08) ∧ (hub = true → ok.length < 16 → SafeWith t 0x09) ∧
        (hub = true → 16 ≤ ok.length → sec = false → SafeWith t 0x0C) ∧
        (hub = true → 16 ≤ ok.length → sec = true → t.get fBootMode = 0 ∧ t.flag fBootLogok = logok))) ∧
    (∀ x : Training, s.atStep 5 7 = true → Completes (.siteReleaseAndTrain x) s (fun t =>
      t.cro.lanes = x.lanes ∧ t.peers.lanes = (List.range 4).map (fun q => x.peers.getD q 8) ∧
      (x.links.all (fun l => decide (l.2.1 < 3)) = true → 7 ∈ t.cro.ended) ∧
      (x.links.any (fun l => decide (3 ≤ l.2.1)) = true → t.get fBootMode = 4))) ∧
    (s.atStep 7 8 = true → (∀ k < 8, 3 ≤ s.get (fOsLstate k)) → Completes .bringupZeroFill s (fun t =>
      8 ∈ t.cro.ended ∧ (∀ a < 0x200000000000, t.byte a = 0) ∧ (∀ a, 0x200000000000 ≤ a → t.byte a = s.byte a) ∧
      t.badBursts = [] ∧ t.badWords = [] ∧ t.lines = [] ∧ t.cores = s.cores)) ∧
    (∀ bad, s.atStep 8 9 = true → Completes (.bringupKnownAnswer bad) s (fun t =>
      9 ∈ t.cro.ended ∧ t.cro.katBase = t.now ∧ t.now = s.now ∧ t.mem = s.mem)) ∧
    (∀ flash, s.atStep 5 6 = true →
      (flash = none → Completes (.imageVerify flash) s (fun t => RecoveringWith t 0x07)) ∧
      (∀ l, flash = some l →
        let b := fun i => l.getD i 0
        Completes (.imageVerify flash) s (fun t => match imageVerdict s b 0x1000 with
          | some c => RecoveringWith t c
          | none => 6 ∈ t.cro.ended ∧ t.get fImgSvn = bitsOf (hdrWord b 0) 63 32 ∧
            t.get fImgLen64 = (3 + bitsOf (hdrWord b 1) 31 0 / 64 + (bitsOf (hdrWord b 1) 63 32 + 63) / 64) % 2 ^ 24 ∧
            (∃ x, t.cro.image = some x ∧ x.svn = bitsOf (hdrWord b 0) 63 32 ∧
              x.body = (List.range (bitsOf (hdrWord b 1) 31 0)).map (fun i => b (0x1000 + i))) ∧ t.mem = s.mem))) ∧
    (s.atStep 6 10 = true → 9 ∈ s.cro.ended → s.cro.running = false → Completes .firmwareStart s (fun t =>
      t.cro = { s.cro with running := true } ∧ OnlyRegs { s with cro := t.cro } t [ccxDomst]))

/-- Ready and recovery. FWREADY while firmware initialises makes the package ready; 300 ms without it are the safe state with
cause 0x0E. PERST_N opens the window in which a port answers retries, its end closes it. In recovery mode the first claim
holds the buffer, a go by the holder has the image checked and, sound, written; the reset follows after 1 ms; 10 s without
a write release the buffer (R538, R544 to R546, R548 to R550). -/
def ReadyAndRecoveryRule : Prop :=
  ∀ s : State,
    (∀ w, s.starting = true → w = 1 → Completes (.fwready w) s (fun t =>
      t.ready = true ∧ t.get fBootStep = 11 ∧ t.cro.retry = [] ∧ t.cro.running = true ∧ t.mem = s.mem)) ∧
    (∀ w, setsReserved bootCtl w = false → s.starting = false → exec (.fwready w) s = .next s) ∧
    (s.starting = true → Completes .fwreadyTimeout s (fun t => SafeWith t 0x0E)) ∧
    (∀ q < 4, Completes (.perstNDeassert q) s (fun t => t.host q = { s.host q with perstHigh := true } ∧
      (∀ p, p ≠ q → t.host p = s.host p) ∧ { t with cro := s.cro, hosts := s.hosts } = s ∧
      t.cro = (if s.get fBootMode = 0 ∧ s.cro.retry.contains q = false then { s.cro with retry := s.cro.retry ++ [q] } else s.cro))) ∧
    (∀ q, Completes (.configRetryTimeout q) s (fun t => q ∉ t.cro.retry ∧ { t with cro := s.cro } = s)) ∧
    (∀ q < 4, s.get fBootMode = 3 → s.recHold = none → Completes (.recoveryClaim q) s (fun t => t.recHold = some q ∧
      t.get (fRecState q) = 0 ∧ (∀ p < 4, t.flag (fRecOwn p) = decide (p = q) ∧ t.flag (fRecOther p) = decide (p ≠ q)) ∧
      t.cro = s.cro ∧ t.mem = s.mem)) ∧
    (∀ q r, s.recHold = some r → exec (.recoveryClaim q) s = .next s) ∧
    (∀ q len flashOk, q < 4 → s.get fBootMode = 3 → s.recHold = some q → s.cro.recDelay = false →
      Completes (.recoveryGo q len flashOk) s (fun t =>
        let w := hdrWord s.bufByte 1
        let fits := decide (1 ≤ len ∧ len ≤ 131072 ∧ 192 + bitsOf w 31 0 + bitsOf w 63 32 ≤ 64 * len)
        t.get (fRecLen64 q) = len % 2 ^ 24 ∧
        match (if fits then imageVerdict s s.bufByte 192 else some 0x04) with
        | some c => t.get (fRecState q) = c ∧ t.recHold = none ∧ t.cro.recDelay = false
        | none => t.recHold = some q ∧
          if flashOk then t.get (fRecState q) = 3 ∧ t.cro.recDelay = true else t.get (fRecState q) = 7 ∧ t.cro.recDelay = false)) ∧
    (∀ q < 4, s.recHold = some q → s.cro.recDelay = false → Completes .recoveryIdleTimeout s (fun t =>
      t.recHold = none ∧ t.cro.recBuf = [] ∧ t.mem = s.mem)) ∧
    (s.cro.recDelay = true → Completes .recoveryResetDelay s (fun t =>
      t.cores = [] ∧ t.tasks = [] ∧ t.recHold = none ∧ t.cro.recDelay = false ∧ t.cro.recBuf = [])) ∧
    (s.cro.recDelay = false → exec .recoveryResetDelay s = .next s)


/-- Bring-up from self-test to ready, and recovery (16). -/
def Obligations.BringUp : Prop := SelfTestAndImageRule ∧ ReadyAndRecoveryRule

/-! ## Registers (00 R9 to R11; 14 R509; 18 R597) -/

/-- Registers whose writes do nothing beyond the access codes: cache maintenance operands, staging words of translation, the
photonic routing switch, scan control, the reset status, the scan counts, the digest status. -/
def plainRegs : List Nat :=
  (List.range 16).flatMap (fun c => [cmoAddr c, cmoLen c]) ++ (List.range 3).map trnStg
    ++ [hubRcfg, fFscanEn.off, rstStat, fscanStat, snpStat]

/-- The registers above, and those that take a plain write for now: the descriptors of tasks that are not loaded, the keys of
tenants that are not valid, the life-cycle request outside SCRAPPED (00 R10; 10; 14; 15). -/
def PlainNow (s : State) (off : Nat) : Prop :=
  off ∈ plainRegs ∨
  (0x00700000 ≤ off ∧ off < 0x00720000 ∧ s.tstate ((off - 0x00700000) / 0x80) = tsUnloaded) ∨
  (0x00C00000 ≤ off ∧ off < 0x00C01000 ∧ 0x08 ≤ off % 0x100 ∧ off % 0x100 < 0x28 ∧
    s.flag (fTenValid ((off - 0x00C00000) / 0x100)) = false) ∨
  (0x00D00040 ≤ off ∧ off < 0x00D000A0 ∧ s.get fLcsState ≠ 5)

/-- Row `i` of the table names the write of `w` to the register at an offset; `ok` as in the row of the write. -/
def RowOfWrite (s : State) (off : Nat) (w : Word) (ok : Bool) (i : Instr) : Prop :=
  if 0x1000 ≤ off ∧ off < 0x1200 then i = .pwrCapWrite ((off - 0x1000) / 8) w
  else if 0x00200000 ≤ off ∧ off < 0x00230000 ∧ 0x800 ≤ off % 0x1000 then
    i = .stkRetWrite ((off - 0x00200000) / 0x1000) (off % 0x1000 / 8 - 0x100) w
  else if 0x00350000 ≤ off ∧ off < 0x00350440 ∧ off % 0x40 = 0x08 then i = .fltConsWrite ((off - 0x00350000) / 0x40) w true
  else if 0x00080000 ≤ off ∧ off < 0x00080400 ∧ off % 0x40 = 0x10 then
    let c := (off - 0x00080000) / 0x40
    i = (if bitsOf w 2 1 = 2 then .cmoInvalidate c w else if bitsOf w 2 1 = 3 then .cmoCleanInvalidate c w else .cmoClean c w)
  else if 0x00350000 ≤ off ∧ off < 0x00350440 ∧ off % 0x40 = 0x18 then
    let u := (off - 0x00350000) / 0x40
    bitsOf w 63 34 = 0 ∧ (bitsOf w 33 32 = 1 ∧ i = .fltResolveRetry u (bitsOf w 31 0) ∨
      bitsOf w 33 32 = 2 ∧ i = .fltResolveDrop u (bitsOf w 31 0))
  else if 0x00350000 ≤ off ∧ off < 0x00350440 ∧ off % 0x40 = 0x20 then i = .fltPush ((off - 0x00350000) / 0x40) w
  else if off = trnCmd then bitsOf w 1 0 = 1 ∧ i = .trnWrite w ∨ bitsOf w 1 0 = 2 ∧ i = .trnClear w
  else if off = tsqCtrl then
    setsReserved off w = false ∧
      (bitsOf w 2 2 = 1 ∧ bitsOf w 0 0 = s.get fTsqRun ∧ i = .bankSwapRequest ∨
       bitsOf w 2 2 = 0 ∧ bitsOf w 0 0 = 1 ∧ s.get fTsqRun = 0 ∧ i = .tickProgramStart ∨
       bitsOf w 2 2 = 0 ∧ bitsOf w 0 0 = 0 ∧ s.get fTsqRun = 1 ∧ i = .tickProgramStop)
  else if off = tsqPeriod then i = .tsqPeriodWrite w
  else if off = tsqCfg then i = .tsqCfgWrite w
  else if off = tsqTcmd then i = (if bitsOf w 1 0 = 2 then .taskUnload w else .taskLoad w)
  else if 0x00520000 ≤ off ∧ off < 0x00520800 then i = .seqSlotWrite ((off - 0x00520000) / 0x20) (off % 0x20 / 8) w
  else if 0x00910000 ≤ off ∧ off < 0x00920000 ∧ 0x100 ≤ off % 0x400 ∧ off % 0x40 < 0x18 then
    i = .lupProbeWrite ((off - 0x00910000) / 0x400) ((off % 0x400 - 0x100) / 0x40) (off % 0x40 / 8) 16 w
  else if 0x008C0000 ≤ off ∧ off < 0x008C0440 ∧ (off % 0x40 = 0x08 ∨ off % 0x40 = 0x18) then
    i = .evqConsWrite ((off - 0x008C0000) / 0x40) (off % 0x40 == 0x08) w true
  else if 0x00940000 ≤ off ∧ off < 0x00940040 then i = .slrCfgWrite ((off - 0x00940000) / 8) w
  else if 0x00940100 ≤ off ∧ off < 0x00940500 then i = .guaranteeWrite ((off - 0x00940100) / 8) w
  else if 0x00A00000 ≤ off ∧ off < 0x00A08000 ∧ 0x100 ≤ off % 0x1000 ∧ off % 0x1000 < 0x180 then
    i = .osGrantWrite ((off - 0x00A00000) / 0x1000) ((off % 0x1000 - 0x100) / 8) w
  else if 0x00A00000 ≤ off ∧ off < 0x00A08000 ∧ off % 0x1000 = 0x008 then
    let k := (off - 0x00A00000) / 0x1000
    bitsOf w 0 0 = 1 ∧ i = .osIsolate k w ∨ bitsOf w 0 0 = 0 ∧ bitsOf w 1 1 = 1 ∧ i = .osRejoin k w
  else if 0x00B00000 ≤ off ∧ off < 0x00B04000 ∧ off % 0x1000 < 0x100 then
    i = .htBindWrite ((off - 0x00B00000) / 0x1000) (off % 0x1000 / 8) w
  else if 0x00B00000 ≤ off ∧ off < 0x00B04000 then
    setsReserved off w = false ∧ bitsOf w 0 0 = 1 ∧ i = .portRelease ((off - 0x00B00000) / 0x1000) ok
  else if 0x00C00000 ≤ off ∧ off < 0x00C01000 ∧ off % 0x100 = 0 then
    let u := (off - 0x00C00000) / 0x100
    i = (if s.flag (fTenValid u) = false then .tenantCreate u w else if bitsOf w 63 63 = 0 then .tenantTeardown u w
      else if ∀ n ∈ maskTiles (s.get (fTenTiles u)), n ∈ maskTiles (bitsOf w 47 0) then .tenantAddTiles u w
      else .tenantRemoveTiles u w)
  else if off = lcsCmd then setsReserved off w = false ∧ bitsOf w 0 0 = 1 ∧ i = .lcTransition [] true none ok
  else if off = tstObssel then i = .tstObsselWrite w
  else if 0x00C20000 ≤ off ∧ off < 0x00C21000 then i = .tenPermWrite ((off - 0x00C20000) / 0x100) (off % 0x100 / 8) w
  else if 0x00C30000 ≤ off ∧ off < 0x00C30400 then
    i = (if off % 0x10 = 0 then .comRgnWrite ((off - 0x00C30000) / 0x10) w else .comRldWrite ((off - 0x00C30000) / 0x10) w)
  else if off = bootCtl then i = .fwready w
  else if off = rstCtl then
    i = (if bitsOf w 31 29 = 2 then .resetGroup w else if bitsOf w 31 29 = 3 then .resetPartition w
      else if bitsOf w 31 29 = 4 then .resetWhole w else .resetCore w)
  else if off = lspCc then i = .controlCoreOffline w
  else if off = snpCfg then i = .snpCfgWrite w
  else if 0x00F01000 ≤ off ∧ off < 0x00F05000 then i = .snpRngWrite ((off - 0x00F01000) / 0x40) (off % 0x40 / 8) w
  else if off = twnCfg then i = .twinFailover w
  else if off = mirCfg then i = .mirCfgWrite none w
  else if 0x00F00100 ≤ off ∧ off < 0x00F00300 then i = .mirCfgWrite (some ((off - 0x00F00100) / 8)) w
  else if off = hubClken then
    i = (if ∃ m ∈ List.range 25, s.flag (fClkEn m) = true ∧ bitsOf w m m = 0 then .domainGate w else .domainUngate w)
  else if 0x01000100 ≤ off ∧ off < 0x010001C8 then
    let m := (off - 0x01000100) / 8
    i = (if bitsOf w 3 3 = 1 then .clkRelock m w else .nsetWrite m w)
  else if off = fPkgCap.off then i = .pwrCfgWrite w
  else if off = coolIn then i = .coolInWrite w
  else False

/-- Firmware space is open to the agent for the register at an offset: a control core outside the safe state, which writes no
life-cycle register, or the service domain (14 R509; 07 R259). -/
def RegisterOpen (s : State) (agent off : Nat) : Prop :=
  agent < 2 ∧ (agent = 0 → s.get fBootMode ≠ 4 ∧ (off < 0x00D00000 ∨ 0x00E00000 ≤ off))

/-- REGISTER_WRITE by a control core or the service domain completes for every register of the map. Where a row of the table
names the register's write, it does what that row does. Where the register has no operation, RW fields take the written bits, a W1C field clears where a 1 is written, every other field and register keeps; a
value in a reserved bit raises event 0x01 in the firmware queue and the rest of the write stands (R10, R11). An offset
without a register is an address error; an agent that is not of firmware space, and a control core that writes the life-cycle
block, are refused with event 0x09 (14 R509). A register of a gated block is a bus error with event 0x08 (18 R597). In the
safe state a control core does nothing (07 R259). -/
def RegisterWriteRule : Prop :=
  ∀ (s : State) (agent off : Nat) (w : Word) (ok : Bool),
    (∀ d, RegisterOpen s agent off → off < 2 ^ 32 → findReg off = some d → s.gatedReg off = none →
      exec (.registerWrite agent off w ok) s = .next (s.regWrite off w ok) ∧
      (∀ i, s.get fBootMode ≠ 4 → RowOfWrite s off w ok i → exec (.registerWrite agent off w ok) s = exec i s) ∧
      -- a word of the standby program bank, while no swap is pending (10)
      (0x00600000 ≤ off → off < 0x00700000 → s.flag fTsqSwap = false → (off - 0x00600000) / 0x80000 ≠ s.get fTsqBank →
        Completes (.registerWrite agent off w ok) s (fun t => t.rd off = w ∧ t.sramBad (regAddr off) = false ∧
          OnlyRegs { s with badWords := t.badWords } t [off])) ∧
      (PlainNow s off →
        let s' := if setsReserved off w = true then s.raiseG 16 0x01 (packW [(0x200000000000 + off, 0)]) else s
        Completes (.registerWrite agent off w ok) s (fun t => OnlyRegs s' t [off] ∧ ∀ f ∈ d.flds, bitsOf (t.rd off) f.hi f.lo =
          match f.acc with
          | .rw => bitsOf w f.hi f.lo
          | .w1c => if bitsOf w f.hi f.lo = 1 then 0 else bitsOf (s'.rd off) f.hi f.lo
          | _ => bitsOf (s'.rd off) f.hi f.lo))) ∧
    (∀ n, RegisterOpen s agent off → off < 2 ^ 32 → findReg off ≠ none → s.gatedReg off = some n →
      exec (.registerWrite agent off w ok) s =
        .next ((s.raiseX 16 0x08 [] (packW [(0x200000000000 + off, 0), (n, 48), (1, 56)])).emit "bus-error"
          [0x200000000000 + off] [])) ∧
    (agent ≠ 0 ∨ s.get fBootMode ≠ 4 → off < 2 ^ 44 → findReg off = none → exec (.registerWrite agent off w ok) s =
      .next (s.emit "address-error" [0x200000000000 + off] [])) ∧
    (2 ≤ agent → off < 2 ^ 32 → findReg off ≠ none → exec (.registerWrite agent off w ok) s =
      .next ((s.raiseX 16 0x09 [] (packW [(0x200000000000 + off, 0), ((agent - 2) % 64, 48), (1, 56)])).emit "address-error"
        [0x200000000000 + off] [])) ∧
    (0x00D00000 ≤ off → off < 0x00E00000 → s.get fBootMode ≠ 4 → findReg off ≠ none →
      exec (.registerWrite 0 off w ok) s =
        .next ((s.raiseX 16 0x09 [] (packW [(0x200000000000 + off, 0), (0x3F, 48), (1, 56)])).emit "address-error"
          [0x200000000000 + off] [])) ∧
    (s.get fBootMode = 4 → exec (.registerWrite 0 off w ok) s = .next s)

/-- The read of a register is open: to a control core outside the safe state, to the service domain outside CD0 hold. -/
def ReadOpen (s : State) (agent off : Nat) : Prop :=
  agent < 2 ∧ (agent = 0 → s.get fBootMode ≠ 4) ∧ (agent = 1 → s.get fBootMode ≠ 2) ∧ off < 2 ^ 32

/-- RS_REGISTER_READ completes for every register: it answers the fields, WO fields as 0, and clears the RS fields (R10). A word
of an event ring reads as it stands from cons up to prod, and outside as 0 with the underrun counted (11 R401). A word of hub
SRAM that is, or in this read becomes, uncorrectable gives no data: a trap of the control core, an address error to the
service domain (07 R256, R257). A register of a gated block is a bus error with event 0x08 (18 R597). In CD0 hold management
reads three registers alone (19 R635, R640). -/
def RegisterReadRule : Prop :=
  ∀ (s : State) (agent off : Nat) (bs : List Byte) (upset : Bool),
    (∀ d, ReadOpen s agent off → findReg off = some d → s.gatedReg off = none → s.sramBad (regAddr off) = false →
      (upset = false ∨ sramReg off = false) →
      ((off < 0x00800000 ∨ 0x008A0000 ≤ off) → Completes (.rsRegisterRead agent ⟨off, bs, upset⟩) s (fun t => ∃ v : Word,
        t.out = s.out ++ [⟨"register-read", [off], bytesLE 8 v.toNat⟩] ∧ OnlyRegs { s with out := t.out } t [off] ∧
        ∀ f ∈ d.flds, bitsOf v f.hi f.lo = (if f.acc = .wo then 0 else bitsOf (s.rd off) f.hi f.lo) ∧
          bitsOf (t.rd off) f.hi f.lo = if f.acc = .rs then 0 else bitsOf (s.rd off) f.hi f.lo)) ∧
      (∀ u i, ((u < 16 ∧ i < 4096 ∧ off = 0x00800000 + 0x8000 * u + 8 * i) ∨
          (u = 16 ∧ i < 16384 ∧ off = 0x00880000 + 8 * i)) →
        (s.evqLive u i = true → exec (.rsRegisterRead agent ⟨off, bs, upset⟩) s =
          .next (s.emit "register-read" [off] (bytesLE 8 (s.rd (evqWord u i)).toNat))) ∧
        (s.evqLive u i = false → Completes (.rsRegisterRead agent ⟨off, bs, upset⟩) s (fun t =>
          t.out = s.out ++ [⟨"register-read", [off], bytesLE 8 0⟩] ∧ OnlyField { s with out := t.out } t (fEvqUnd u) ∧
          t.get (fEvqUnd u) = min (s.get (fEvqUnd u) + 1) (2 ^ (fEvqUnd u).width - 1))))) ∧
    (ReadOpen s agent off → findReg off ≠ none → s.gatedReg off = none →
      (s.sramBad (regAddr off) = true ∨ (upset = true ∧ sramReg off = true)) →
      Completes (.rsRegisterRead agent ⟨off, bs, upset⟩) s (fun t => t.regs = s.regs ∧ t.mem = s.mem ∧
        t.sramBad (regAddr off) = true ∧ t.out = s.out ++ [if agent = 0 then ⟨"control-core-trap", [1, 0x200000000000 + off], []⟩
          else ⟨"address-error", [0x200000000000 + off], []⟩])) ∧
    -- in CD0 hold management reads the boot registers and the domain states alone (19 R640)
    (agent = 1 → s.get fBootMode = 2 → off < 2 ^ 32 → findReg off ≠ none →
      off ≠ bootStat → off ≠ fBootTime.off → off ≠ ccxDomst →
      exec (.rsRegisterRead agent ⟨off, bs, upset⟩) s = .next (s.emit "address-error" [0x200000000000 + off] [])) ∧
    (∀ n, ReadOpen s agent off → findReg off ≠ none → s.gatedReg off = some n →
      exec (.rsRegisterRead agent ⟨off, bs, upset⟩) s =
        .next ((s.raiseX 16 0x08 [] (packW [(0x200000000000 + off, 0), (n, 48), (0, 56)])).emit "bus-error"
          [0x200000000000 + off] []))

/-- A control core's uncached accesses. The two register rows carry them at a device address from 2^44 on with the access's
size above bit 47 (the model's encoding, log entry 82): an aligned access of 8, 4, 2 or 1 bytes to a scratchpad of a present
core answers or writes exactly those bytes and changes no other byte, and an aligned read of the context store answers its
bytes (07 R228, R243, R253). -/
def UncachedAccessRule : Prop :=
  ∀ (s : State) (a e : Nat) (w : Word) (ok : Bool) (bs : List Byte), s.get fBootMode ≠ 4 → 2 ^ 44 ≤ a → a < 2 ^ 48 → e < 4 →
    let n := 2 ^ (3 - e)
    a % n = 0 →
    (∀ c o, s.place a = .core c o → s.katRuns c = false → s.noCore c = false →
      (s.spadPoison c o n = none → Completes (.rsRegisterRead 0 ⟨a + 2 ^ 48 * e, bs, false⟩) s (fun t =>
        ⟨"control-core-data", [a], s.spadBytes c o n⟩ ∈ t.out ∧ t.mem = s.mem ∧ t.regs = s.regs ∧ t.cores = s.cores)) ∧
      Completes (.registerWrite 0 (a + 2 ^ 48 * e) w ok) s (fun t =>
        (∀ i < n, (t.spad c (o + i)).toNat = w.toNat / 256 ^ i % 256) ∧
        (∀ x, (x < spadAddr c o ∨ spadAddr c o + n ≤ x) → t.byte x = s.byte x) ∧ t.regs = s.regs ∧ t.cores = s.cores)) ∧
    (∀ o, s.place a = .ctx o → s.sramBad (a / 8 * 8) = false → exec (.rsRegisterRead 0 ⟨a + 2 ^ 48 * e, bs, false⟩) s =
      .next (s.emit "control-core-data" [a] (s.bytes a n)))

/-- A write of a guard floor stands, and in force at once while the sequencer is stopped, unless a field holds 0b11, or pf2 or
pf3 holds 0b10: then it has no effect but the reserved-write event (06 R224; 10 R338). -/
def FloorWriteRule : Prop :=
  ∀ (s : State) (p : Nat) (w : Word) (ok : Bool), p < 16 → s.get fBootMode ≠ 4 →
    let bad := (List.range 4).any (fun cls => decide (bitsOf w (2 * cls + 1) (2 * cls) = 3)) || decide (bitsOf w 5 4 = 2)
      || decide (bitsOf w 7 6 = 2)
    (bad = true → exec (.registerWrite 0 (grdFloor p) w ok) s =
      .next (s.raiseG 16 0x01 (packW [(0x200000000000 + grdFloor p, 0)]))) ∧
    (bad = false → setsReserved (grdFloor p) w = false → Completes (.registerWrite 0 (grdFloor p) w ok) s (fun t =>
      (∀ cls < 4, t.get (fFloor p cls) = bitsOf w (2 * cls + 1) (2 * cls)) ∧ t.mem = s.mem ∧ t.cores = s.cores))

/-- The rows that firmware carries out. -/
def FirmwareRow (i : Instr) : Prop :=
  match i with
  | .cmoClean .. | .cmoInvalidate .. | .cmoCleanInvalidate .. | .domainGate .. | .domainUngate .. | .clkRelock ..
    | .nsetWrite .. | .pwrCfgWrite .. | .coolInWrite .. | .portQuiesce .. | .portRelease .. | .htBindWrite ..
    | .slrCfgWrite .. | .guaranteeWrite .. | .osIsolate .. | .osRejoin .. | .osGrantWrite .. | .controlCoreOffline ..
    | .snpCfgWrite .. | .snpRngWrite .. | .pwrCapWrite .. | .resetCore .. | .resetGroup .. | .resetPartition ..
    | .tstObsselWrite .. | .tsqPeriodWrite .. | .tsqCfgWrite .. | .bankSwapRequest .. | .taskLoad .. | .taskUnload ..
    | .seqSlotWrite .. | .stackRead .. | .stackWrite .. | .stkRetWrite .. | .tenantCreate .. | .tenantAddTiles ..
    | .tenantRemoveTiles .. | .tenantTeardown .. | .teardownScrubDone .. | .tenPermWrite .. | .comRgnWrite ..
    | .comRldWrite .. | .trnWrite .. | .trnClear .. | .fltPush .. | .fltResolveRetry .. | .fltResolveDrop ..
    | .mirCfgWrite .. | .twinFailover .. => True
  | .lupProbeWrite _ _ _ who _ => who = 16
  | .evqConsWrite _ _ _ fw => fw = true
  | .fltConsWrite _ _ fw => fw = true
  | .registerWrite agent _ _ _ => agent = 0
  | .rsRegisterRead agent _ => agent = 0
  | _ => False

/-- In the safe state the control cores have stopped: a row that firmware carries out changes nothing (07 R259; that the same
write by the service domain or the debug port changes nothing either is the model's choice, log entry 96). -/
def SafeStateRule : Prop := ∀ (s : State) (i : Instr), s.get fBootMode = 4 → FirmwareRow i → exec i s = .next s

/-- Accesses to registers and a control core's uncached accesses, and what remains of them in the safe state. -/
def Obligations.RegisterAccess : Prop := SafeStateRule ∧ RegisterWriteRule ∧ RegisterReadRule ∧ UncachedAccessRule ∧ FloorWriteRule

/-! ## Upkeep of sites and cores (01 R30; 02 R42 to R51, R75, R76; 06 R223; 17 R575, R576) -/

/-- Open site k is isolated with a cause: its link is off, its rails are down, no module carries, its site is isolated
(12 R446). -/
def IsolatedWith (t : State) (k c : Nat) : Prop :=
  t.get (fOsLstate k) = 5 ∧ t.get (fOsCause k) = c ∧ t.get (fOsRate k) = 0 ∧ t.get (fOsMods k) = 0 ∧
  t.get (fSiteState (openSite k)) = 4 ∧ (t.opn k).link = false ∧ (t.opn k).rails = false ∧ (t.opn k).released = false

/-- Open site k is in use: initialising, or with a link. -/
def InUse (s : State) (k : Nat) : Prop := k < 8 ∧ 1 ≤ s.get (fOsLstate k) ∧ s.get (fOsLstate k) ≤ 4

/-- PWR_CAP_WRITE keeps a cap between half the class budget and the budget. An over-current at an open site isolates it with
cause 5. The scrubber visits one word of each bank and moves on by one row, and each word it finds in error is in error; a
corrected word is good again, and no other word changes. A remap first fences the core; once its task has stopped the row
spare serves, or, with the spare used up, the core is absent, and either way the core starts from its reset state with a
zero scratchpad. -/
def CoreUpkeepRule : Prop :=
  ∀ s : State,
    (∀ n w, n < 64 → s.get fBootMode ≠ 4 → setsReserved (siteCfg n) w = false →
      let b := if n % 16 ≤ 11 then 110 else if n % 16 ≤ 13 then 90 else 25
      Completes (.pwrCapWrite n w) s (fun t => t.get (fSitePwrCap n) = max (b / 2) (min b (bitsOf w 47 40)) ∧
        OnlyField { s with caps := t.caps, floors := t.floors, labels := t.labels } t (fSitePwrCap n) ∧
        -- in force at once while the sequencer is stopped (10 R338)
        (s.ticking = true → t.caps = s.caps) ∧ (s.ticking = false → t.capOf n = max (b / 2) (min b (bitsOf w 47 40))))) ∧
    (∀ k, InUse s k → (s.opn k).rails = true → Completes (.openSiteCurrentLimit k) s (fun t =>
      IsolatedWith t k 5 ∧ t.mem = s.mem ∧ t.cores = s.cores)) ∧
    (∀ c errs, s.absent c = false → s.coreClock c = true →
      let base := spadAddr c (64 * (s.core c).scrub)
      Completes (.scratchpadScrubStep c errs) s (fun t =>
        t.core c = { s.core c with scrub := ((s.core c).scrub + 1) % 512 } ∧ (∀ c', c' ≠ c → t.core c' = s.core c') ∧
        t.mem = s.mem ∧ t.regs = s.regs ∧ (∀ e ∈ errs, e.1 < 8 → ∃ u, (base + 8 * e.1, u) ∈ t.badWords) ∧
        ∀ x, (x.1 < base ∨ base + 64 ≤ x.1) → (x ∈ t.badWords ↔ x ∈ s.badWords))) ∧
    (∀ c o, Completes (.scratchpadCorrectWriteback c o) s (fun t =>
      { t with badWords := s.badWords } = s ∧ ∀ x, x ∈ t.badWords ↔ x ∈ s.badWords ∧ x ≠ (spadAddr c o, false))) ∧
    (∀ c, s.cro.retire.contains c = true → s.katRuns c = false → s.get (fSiteState (tileSite (coreTile c))) ≠ 5 →
      ((s.core c).fenced = false → Completes (.coreRemap c false) s (fun t =>
        (t.core c).fenced = true ∧ t.cro = s.cro ∧ t.mem = s.mem)) ∧
      ((s.core c).fenced = true → s.coreBusy c = false → isCore c = true → Completes (.coreRemap c true) s (fun t =>
        let b := coreX c / 20
        let n := coreTile c
        let gone := s.flag (fAbsent n (coreX c) (coreY c)) || s.flag (fRemapUsed n (coreY c) b) ||
          s.cro.badSpares.contains (physCore n (coreY c) (spareCol b))
        (gone = true → t.flag (fAbsent n (coreX c) (coreY c)) = true) ∧
        (gone = false → t.flag (fRemapUsed n (coreY c) b) = true ∧ t.get (fRemapJ n (coreY c) b) = coreX c % 20 ∧
          t.flag (fAbsent n (coreX c) (coreY c)) = false) ∧
        (t.core c).fenced = false ∧ (t.core c).mode = .idle ∧ (t.core c).pc = 0 ∧ (∀ r, (t.core c).sreg r = 0) ∧
        (∀ o < 2 ^ 15, t.spad c o = 0) ∧ c ∉ t.cro.retire ∧
        ∀ a, (a < spadAddr c 0 ∨ spadAddr c 0 + 2 ^ 15 ≤ a) → t.byte a = s.byte a)))

/-- CHECKER_ARBITRATION of a shadow mismatch: a lane set that fails the known-answer test is permanently wrong; where both
pass, the set that differs from the sum formed a third time has had a transient, both where neither agrees. Each part is
logged with its core, and a core that is wrong for good is due for its remap (06 R223; 17 R575, R576). -/
def CheckerArbitrationRule : Prop :=
  ∀ (s : State) (ws : List Word) (fails : Nat),
    let c := bitsOf (ws.headD 0) 51 32
    let p := physCore (coreTile c) (coreY c) (s.servedBy c)
    let unit (part : Nat) := s.namedCore p + part * 2 ^ 20 + p % 8192 % 84 * 2 ^ 23
    let S := BitVec.ofNat 32 (bitsOf (ws.getD 3 0) 31 0)
    let S' := BitVec.ofNat 32 (bitsOf (ws.getD 3 0) 63 32)
    let third := BitVec.ofInt 32 (recordSum ws)
    let logged (t : State) (kind part : Nat) := ∃ d, ⟨kind, 0x01, unit part, d⟩ ∈ t.logWait
    bitsOf (ws.headD 0) 23 16 = 0x12 → s.absent c = false → s.cro.running = true →
    Completes (.checkerArbitration ws fails) s (fun t => t.mem = s.mem ∧ t.cores = s.cores ∧
      (fails % 2 = 1 → logged t 3 1) ∧ (fails / 2 % 2 = 1 → logged t 3 2) ∧
      (fails % 4 ≠ 0 → ∀ c', s.logicalOf p = some c' → c' ∈ t.cro.retire) ∧
      (fails % 4 = 0 → (third = S' → logged t 2 1) ∧ (third ≠ S' → third = S → logged t 2 2) ∧
        (third ≠ S' → third ≠ S → logged t 2 1 ∧ logged t 2 2)))


/-- Upkeep of sites and cores, and arbitration between a core's lane sets (01, 02, 06, 17). -/
def Obligations.CoreUpkeep : Prop := CoreUpkeepRule ∧ CheckerArbitrationRule

/-! ## Scalar instructions (04) -/

/-- The three-register ALU instructions with their results, as the table of R126 says them: arithmetic over numbers, signed
where the rule says so, and the low 64 bits. -/
def aluTable : List ((Nat → Fin 32 → Fin 32 → Fin 32 → Instr) × (Word → Word → Word)) :=
  [(.add, fun x y => BitVec.ofNat 64 (x.toNat + y.toNat)),
   (.sub, fun x y => BitVec.ofInt 64 ((x.toNat : Int) - y.toNat)),
   (.and, fun x y => BitVec.ofNat 64 (x.toNat &&& y.toNat)),
   (.or, fun x y => BitVec.ofNat 64 (x.toNat ||| y.toNat)),
   (.xor, fun x y => BitVec.ofNat 64 (x.toNat ^^^ y.toNat)),
   (.shl, fun x y => BitVec.ofNat 64 (x.toNat * 2 ^ (y.toNat % 64))),
   (.shr, fun x y => BitVec.ofNat 64 (x.toNat / 2 ^ (y.toNat % 64))),
   (.sra, fun x y => BitVec.ofInt 64 (x.toInt / 2 ^ (y.toNat % 64))),
   (.slt, fun x y => if x.toInt < y.toInt then 1 else 0),
   (.min, fun x y => if x.toInt < y.toInt then x else y),
   (.max, fun x y => if x.toInt < y.toInt then y else x),
   (.minu, fun x y => if x.toNat < y.toNat then x else y),
   (.maxu, fun x y => if x.toNat < y.toNat then y else x),
   (.mul, fun x y => BitVec.ofNat 64 (x.toNat * y.toNat)),
   (.mulh, fun x y => BitVec.ofInt 64 (x.toInt * y.toInt / 2 ^ 64)),
   (.mulhu, fun x y => BitVec.ofNat 64 (x.toNat * y.toNat / 2 ^ 64)),
   (.sltu, fun x y => if x.toNat < y.toNat then 1 else 0)]

/-- ALU instructions write f(s[a], s[b]) to s[d] and nothing else of the machine; with d = s0 nothing is written, and the
program counter passes on (R126, R122). POPC counts the 1 bits, CLZ the zeros above the highest 1, CTZ those below the
lowest. -/
def AluResultsRule : Prop :=
  ∀ (s : State) (c : Nat) (d a b : Fin 32), ReadyMid s c [d, a, b] [] →
    (∀ e ∈ aluTable, Completes (e.1 c d a b) s (fun t =>
      Stepped s t c (fun k => k.setS d (e.2 (k.sreg a) (k.sreg b))))) ∧
    Completes (.popc c d a) s (fun t => Stepped s t c (fun k =>
      k.setS d (BitVec.ofNat 64 ((List.range 64).countP (fun i => (k.sreg a).toNat.testBit i))))) ∧
    Completes (.clz c d a) s (fun t => Stepped s t c (fun k =>
      k.setS d (BitVec.ofNat 64 (if k.sreg a = 0 then 64 else 63 - (k.sreg a).toNat.log2)))) ∧
    Completes (.ctz c d a) s (fun t => ∃ n ≤ 64, Stepped s t c (fun k => k.setS d (BitVec.ofNat 64 n)) ∧
      (∀ i < n, (((s.core c).sreg a).toNat).testBit i = false) ∧
      (n < 64 → (((s.core c).sreg a).toNat).testBit n = true))

/-- The immediate instructions with their results, as the table of R127 says them. -/
def immTable : List ((Nat → Fin 32 → Fin 32 → BitVec 16 → Instr) × (Word → BitVec 16 → Word)) :=
  [(.addi, fun x i => BitVec.ofInt 64 ((x.toNat : Int) + i.toInt)),
   (.andi, fun x i => BitVec.ofNat 64 (x.toNat &&& i.toNat)),
   (.ori, fun x i => BitVec.ofNat 64 (x.toNat ||| i.toNat)),
   (.xori, fun x i => BitVec.ofNat 64 (x.toNat ^^^ i.toNat)),
   (.slti, fun x i => if x.toInt < i.toInt then 1 else 0),
   (.sltiu, fun x i => if x.toNat < i.toNat then 1 else 0),
   (.ins32, fun x i => BitVec.ofNat 64 (x.toNat % 2 ^ 32 + i.toNat * 2 ^ 32))]

/-- Immediate instructions write their result to s[d] and nothing else; LUI takes no source; SHI shifts by its immediate
amount left, right with zero fill, or right with sign fill (R127). -/
def ImmediateResultsRule : Prop :=
  ∀ (s : State) (c : Nat) (d a : Fin 32) (imm : BitVec 16), ReadyMid s c [d, a] [] →
    (∀ e ∈ immTable, Completes (e.1 c d a imm) s (fun t => Stepped s t c (fun k => k.setS d (e.2 (k.sreg a) imm)))) ∧
    Completes (.lui c d imm) s (fun t => Stepped s t c (fun k => k.setS d (BitVec.ofInt 64 (imm.toInt * 2 ^ 16)))) ∧
    (∀ (kind : Fin 3) (amt : Fin 64), Completes (.shi c d a kind amt) s (fun t => Stepped s t c (fun k =>
      k.setS d (match kind with
        | 0 => BitVec.ofNat 64 ((k.sreg a).toNat * 2 ^ amt.val)
        | 1 => BitVec.ofNat 64 ((k.sreg a).toNat / 2 ^ amt.val)
        | 2 => BitVec.ofInt 64 ((k.sreg a).toInt / 2 ^ amt.val)))))

/-- The arithmetic instructions, with register and with immediate operands (04 R126, R127). -/
def Obligations.AluResults : Prop := AluResultsRule ∧ ImmediateResultsRule

/-- The loads with their sizes and whether they extend the sign (R128). -/
def loadTable : List ((Nat → Fin 32 → Fin 32 → BitVec 16 → Instr) × Nat × Bool) :=
  [(.ldb, 1, true), (.ldbu, 1, false), (.ldh, 2, true), (.ldhu, 2, false), (.ldw, 4, true), (.ldwu, 4, false),
   (.ldd, 8, true)]

/-- The little-endian number of n bytes, with the sign where asked. -/
def extended (n : Nat) (sign : Bool) (v : Nat) : Word :=
  if sign ∧ 2 ^ (8 * n - 1) ≤ v then BitVec.ofInt 64 ((v : Int) - 2 ^ (8 * n)) else BitVec.ofNat 64 v

/-- A load writes the bytes at s[a] + sext(imm16), extended, to s[d] and nothing else; an offset that is not a multiple of
the size raises alignment (cause 0x03), one beyond 0x7FFF scratchpad-address (0x04), each with the offset, and a load that
meets an uncorrectable word scratchpad-poison (0x05) with the word's offset (R128, R129). -/
def LoadResultsRule : Prop :=
  ∀ (s : State) (c : Nat) (d a : Fin 32) (imm : BitVec 16), ∀ e ∈ loadTable,
    let n := e.2.1
    let o := (BitVec.ofInt 64 (((s.core c).sreg a).toNat + imm.toInt)).toNat
    (ReadyMid s c [d, a] [] → o % n = 0 → o ≤ 0x7FFF → (s.core c).extFree [(o, n)] [] = true → s.spadPoison c o n = none →
      Completes (e.1 c d a imm) s (fun t => Stepped s t c (fun k => k.setS d (extended n e.2.2 (s.spadNat c o n))))) ∧
    (Ready s c [d, a] [] → o % n ≠ 0 → exec (e.1 c d a imm) s = .next (s.raiseSync c 0x03 o)) ∧
    (Ready s c [d, a] [] → o % n = 0 → 0x7FFF < o → exec (e.1 c d a imm) s = .next (s.raiseSync c 0x04 o)) ∧
    (∀ w, Ready s c [d, a] [] → o % n = 0 → o ≤ 0x7FFF → (s.core c).extFree [(o, n)] [] = true → s.spadPoison c o n = some w →
      exec (e.1 c d a imm) s = .next (s.raiseSync c 0x05 w))

/-- The stores with their sizes (R128). -/
def storeTable : List ((Nat → Fin 32 → Fin 32 → BitVec 16 → Instr) × Nat) :=
  [(.stb, 1), (.sth, 2), (.stw, 4), (.std, 8)]

/-- A store writes the low n bytes of s[d], least significant first, at s[a] + sext(imm16) of the core's own scratchpad, and
every other byte of memory reads as before; the core passes on with its registers unchanged; a misaligned offset and one
beyond 0x7FFF raise as for loads, and move no byte (R128, R129). -/
def StoreResultsRule : Prop :=
  ∀ (s : State) (c : Nat) (d a : Fin 32) (imm : BitVec 16), ∀ e ∈ storeTable,
    let n := e.2
    let o := (BitVec.ofInt 64 (((s.core c).sreg a).toNat + imm.toInt)).toNat
    (ReadyMid s c [d, a] [] → o % n = 0 → o ≤ 0x7FFF → (s.core c).extFree [] [(o, n)] = true →
      Completes (e.1 c d a imm) s (fun t =>
        (∀ i < n, (t.spad c (o + i)).toNat = ((s.core c).sreg d).toNat / 256 ^ i % 256) ∧
        (∀ x, (x < spadAddr c o ∨ spadAddr c o + n ≤ x) → t.byte x = s.byte x) ∧
        Stepped { s with mem := t.mem, badWords := t.badWords } t c id)) ∧
    (Ready s c [d, a] [] → o % n ≠ 0 → exec (e.1 c d a imm) s = .next (s.raiseSync c 0x03 o)) ∧
    (Ready s c [d, a] [] → o % n = 0 → 0x7FFF < o → exec (e.1 c d a imm) s = .next (s.raiseSync c 0x04 o))

/-- The scalar loads and stores (04 R128, R129). -/
def Obligations.LoadsAndStores : Prop := LoadResultsRule ∧ StoreResultsRule

/-- The branches with the comparison that takes them (R131). -/
def branchTable : List ((Nat → Fin 32 → Fin 32 → BitVec 16 → Instr) × (Word → Word → Bool)) :=
  [(.beq, fun x y => decide (x.toNat = y.toNat)), (.bne, fun x y => decide (x.toNat ≠ y.toNat)),
   (.blt, fun x y => decide (x.toInt < y.toInt)), (.bge, fun x y => decide (y.toInt ≤ x.toInt)),
   (.bltu, fun x y => decide (x.toNat < y.toNat)), (.bgeu, fun x y => decide (y.toNat ≤ x.toNat))]

/-- A branch whose comparison holds goes to its own offset + sext(off16) × 4, one whose comparison fails passes on, and
nothing else changes; a taken branch to a target outside 0x0000 to 0x7FFC raises scratchpad-address with the target (R131). -/
def BranchResultsRule : Prop :=
  ∀ (s : State) (c : Nat) (a b : Fin 32) (off : BitVec 16), ∀ e ∈ branchTable, Ready s c [a, b] [] →
    let k := s.core c
    let target := (BitVec.ofInt 64 ((k.pc : Int) + 4 * off.toInt)).toNat
    (e.2 (k.sreg a) (k.sreg b) = false → k.pc ≠ 0x7FFC → Completes (e.1 c a b off) s (fun t => Stepped s t c id)) ∧
    (e.2 (k.sreg a) (k.sreg b) = true → target ≤ 0x7FFC → Completes (e.1 c a b off) s (fun t =>
      t.core c = { k with pc := target, wait := none } ∧ OnlyCore s t c)) ∧
    (e.2 (k.sreg a) (k.sreg b) = true → 0x7FFC < target → exec (e.1 c a b off) s = .next (s.raiseSync c 0x04 target))

/-- JAL and JALR write the offset of the next instruction to s[d] and go to their target, JAL's its own offset +
sext(off21) × 4, JALR's s[a] + sext(imm16) as s[a] stood; a misaligned JALR target raises alignment, a target beyond
0x7FFC scratchpad-address, and s[d] is not written (R131). -/
def JumpResultsRule : Prop :=
  ∀ (s : State) (c : Nat) (d a : Fin 32) (off : BitVec 21) (imm : BitVec 16),
    let k := s.core c
    let jal := (BitVec.ofInt 64 ((k.pc : Int) + 4 * off.toInt)).toNat
    let jalr := (BitVec.ofInt 64 ((k.sreg a).toNat + imm.toInt)).toNat
    (Ready s c [d] [] → jal % 4 = 0 → jal ≤ 0x7FFC → Completes (.jal c d off) s (fun t =>
      t.core c = { k.setS d (BitVec.ofNat 64 (k.pc + 4)) with pc := jal, wait := none } ∧ OnlyCore s t c)) ∧
    (Ready s c [d] [] → jal % 4 = 0 → 0x7FFC < jal → exec (.jal c d off) s = .next (s.raiseSync c 0x04 jal)) ∧
    (Ready s c [d, a] [] → jalr % 4 = 0 → jalr ≤ 0x7FFC → Completes (.jalr c d a imm) s (fun t =>
      t.core c = { k.setS d (BitVec.ofNat 64 (k.pc + 4)) with pc := jalr, wait := none } ∧ OnlyCore s t c)) ∧
    (Ready s c [d, a] [] → jalr % 4 ≠ 0 → exec (.jalr c d a imm) s = .next (s.raiseSync c 0x03 jalr)) ∧
    (Ready s c [d, a] [] → jalr % 4 = 0 → 0x7FFC < jalr → exec (.jalr c d a imm) s = .next (s.raiseSync c 0x04 jalr))


/-- The branches and jumps (04). -/
def Obligations.BranchesAndJumps : Prop := BranchResultsRule ∧ JumpResultsRule

/-! ## Messages (02, 04) -/

/-- The message word and the local offset of a SEND or RECV pass the checks of issue (R125, R134, R136): required-zero bits
zero, offsets multiples of 8, and the local extent inside the scratchpad. -/
def MsgGood (w b : Word) : Prop :=
  bitsOf w 63 48 = 0 ∧ destBadBits (mwDest w) = false ∧ bitsOf b 63 15 = 0 ∧ b.toNat % 8 = 0 ∧ bitsOf w 38 24 % 8 = 0 ∧
  b.toNat + 8 * (bitsOf w 47 43 + 1) ≤ 0x8000

/-- The word of an ATOM passes: one word, no counter, a core as destination, an aligned offset (R138). -/
def AtomGood (w : Word) : Prop :=
  bitsOf w 63 48 = 0 ∧ destBadBits (mwDest w) = false ∧ bitsOf w 47 43 = 0 ∧ bitsOf w 42 39 = 0 ∧ bitsOf w 23 22 = 0 ∧
  bitsOf w 38 24 % 8 = 0

/-- The core's CORE_MSGST with one request more outstanding. -/
def oneMore (c : Nat) (k : Core) : Core := k.swr 0x010 (putBits (k.srd c 0x010) 5 0 (bitsOf (k.srd c 0x010) 5 0 + 1))

/-- A request as it leaves core c: what the message word names (R134), with the sender's core and task. To a core of its own
tile it goes to the physical core that serves the destination now; off the tile it goes by the gateways of the two blocks
(02 R52, R66). -/
def requestOf (s : State) (c : Nat) (kind : MsgKind) (w : Word) (id lofs rd : Nat) (cmp : Word) (data : List Byte) : Msg :=
  let d := bitsOf w 23 0
  let near := destKind d = 0 ∧ isCore d ∧ coreTile d = coreTile c
  { route := s.routeOf c d
    phys := if near then some (8192 * coreTile c + 84 * coreY d + s.servedBy d) else none
    gateOut := if near then none else some (coreY c / 20 * 4 + coreX c / 20)
    gateIn := if near ∨ destKind d ≠ 0 then none else some (coreY d / 20 * 4 + coreX d / 20)
    kind := kind, src := c, task := (s.core c).task, dst := bitsOf w 23 0, roff := bitsOf w 38 24,
    len := 8 * (bitsOf w 47 43 + 1), ctr := bitsOf w 42 39, lofs := lofs, rd := rd, cmp := cmp, data := data, req := id }

/-- The ATOM instructions with the operation that each asks for (R135). -/
def atomTable : List ((Nat → Fin 32 → Fin 32 → Fin 32 → Instr) × MsgKind) :=
  [(.atomAdd, .atomAdd), (.atomSwap, .atomSwap), (.atomCas, .atomCas), (.atomOr, .atomOr)]

/-- SEND, RECV and ATOM, where their checks pass and an entry is free, put one request into flight, occupy one of the 32
outstanding entries and pass on: SEND with the payload read at s[b], RECV,
once no queued store is to write its local bytes, with the local offset s[b], ATOM with its operand
s[b], its compare value s[d] and s[d] awaited; nothing else changes. With 32 requests outstanding the instruction waits.
FENCE.S waits while a request is outstanding, then passes on (R135 to R138, R140). -/
def MessageIssueRule : Prop :=
  ∀ (s : State) (c : Nat) (d a b : Fin 32),
    let k := s.core c
    let w := k.sreg a
    let o := (k.sreg b).toNat
    let out := bitsOf (k.srd c 0x010) 5 0
    let len := 8 * (bitsOf w 47 43 + 1)
    (ReadyMid s c [a, b] [] → MsgGood w (k.sreg b) → k.extFree [(o, len)] [] = true → out < 32 → s.spadPoison c o len = none →
      s.senderError c w = none →
      Completes (.send c a b) s (fun t =>
        t.net = s.net ++ [(s.nextId, requestOf s c .send w s.nextId 0 0 0 (s.spadBytes c o len))] ∧
        t.nextId = s.nextId + 1 ∧ Stepped { s with net := t.net, nextId := t.nextId } t c (oneMore c))) ∧
    (ReadyMid s c [a, b] [] → MsgGood w (k.sreg b) → k.extFree [] [(o, len)] = true → out < 32 → s.senderError c w = none →
      Completes (.recv c a b) s (fun t =>
        t.net = s.net ++ [(s.nextId, requestOf s c .recvReq w s.nextId o 0 0 [])] ∧
        t.nextId = s.nextId + 1 ∧ Stepped { s with net := t.net, nextId := t.nextId } t c (oneMore c))) ∧
    (∀ e ∈ atomTable, ReadyMid s c [d, a, b] [] → AtomGood w → out < 32 → s.senderError c w = none →
      Completes (e.1 c d a b) s (fun t =>
        t.net = s.net ++ [(s.nextId, requestOf s c e.2 w s.nextId 0 d.val (k.sreg d) (bytesLE 8 o))] ∧
        t.nextId = s.nextId + 1 ∧
        Stepped { s with net := t.net, nextId := t.nextId } t c (fun k =>
          { oneMore c k with atoms := k.atoms ++ [(s.nextId, d.val)] }))) ∧
    (Ready s c [a, b] [] → MsgGood w (k.sreg b) → 32 ≤ out →
      exec (.send c a b) s = .next s ∧ exec (.recv c a b) s = .next s) ∧
    (∀ e ∈ atomTable, Ready s c [d, a, b] [] → AtomGood w → 32 ≤ out → exec (e.1 c d a b) s = .next s) ∧
    (ReadyMid s c [] [] → out = 0 → Completes (.fenceS c) s (fun t => Stepped s t c id)) ∧
    (out ≠ 0 → exec (.fenceS c) s = .next s)

/-- The checks of SEND, RECV and ATOM that fail raise at the instruction and inject no packet: a 1 in a required-zero bit the
illegal-operand exception with the word (R125), an offset that is not a multiple of 8 alignment with the offset, a local
extent past 0x8000 scratchpad-address with s[b] (R136, R137), an ATOM that asks for more than one word, a counter or a node
illegal-operand (R138). -/
def MessageChecksRule : Prop :=
  ∀ (s : State) (c : Nat) (d a b : Fin 32),
    let k := s.core c
    let w := k.sreg a
    let o := (k.sreg b).toNat
    let len := 8 * (bitsOf w 47 43 + 1)
    let bad := bitsOf w 63 48 ≠ 0 ∨ destBadBits (mwDest w) = true
    (∀ i, i = Instr.send c a b ∨ i = Instr.recv c a b → Ready s c [a, b] [] →
      (bad → exec i s = .next (s.raiseSync c 0x02 w.toNat)) ∧
      (¬bad → 0x8000 ≤ o → exec i s = .next (s.raiseSync c 0x02 o)) ∧
      (¬bad → o < 0x8000 → o % 8 ≠ 0 → exec i s = .next (s.raiseSync c 0x03 o)) ∧
      (¬bad → o < 0x8000 → o % 8 = 0 → bitsOf w 38 24 % 8 ≠ 0 → exec i s = .next (s.raiseSync c 0x03 (bitsOf w 38 24))) ∧
      (¬bad → o < 0x8000 → o % 8 = 0 → bitsOf w 38 24 % 8 = 0 → 0x8000 < o + len →
        exec i s = .next (s.raiseSync c 0x04 o))) ∧
    (∀ e ∈ atomTable, Ready s c [d, a, b] [] →
      (bad ∨ len ≠ 8 ∨ bitsOf w 42 39 ≠ 0 ∨ bitsOf w 23 22 ≠ 0 → exec (e.1 c d a b) s = .next (s.raiseSync c 0x02 w.toNat)) ∧
      (¬bad → len = 8 → bitsOf w 42 39 = 0 → bitsOf w 23 22 = 0 → bitsOf w 38 24 % 8 ≠ 0 →
        exec (e.1 c d a b) s = .next (s.raiseSync c 0x03 (bitsOf w 38 24))))

/-- Message instructions: what issue puts on the network, and what it checks first (04). -/
def Obligations.MessageInstructions : Prop := MessageIssueRule ∧ MessageChecksRule

/-- The new word of each ATOM at its destination (R135). -/
def atomResult (kind : MsgKind) (old x cmp : Word) : Word :=
  match kind with
  | .atomAdd => BitVec.ofNat 64 (old.toNat + x.toNat)
  | .atomSwap => x
  | .atomCas => if old.toNat = cmp.toNat then x else old
  | _ => BitVec.ofNat 64 (old.toNat ||| x.toNat)

/-- A request that no earlier one blocks and that meets no error is served at its destination: a SEND's payload is written at
roff, its counter advances by len and the acknowledgement goes back (R56, R63); a RECV's bytes are read and go back (R137); an
ATOM writes its new word and the old one goes back (R138). Memory elsewhere is as before, and the sender's core is untouched
but for a counter of its own when it is the destination. An error turns the request into its message-error. -/
def MessageServiceRule : Prop :=
  ∀ (s : State) (id : Nat) (m : Msg) (lost : Bool), s.msg id = some m → s.blocked id m = false → destKind m.dst = 0 →
    (∀ e, s.arrivalError m lost = some e → e ≠ 0x4 → ∀ i, (i = Instr.sendDelivered id lost ∧ m.kind = .send) ∨
        (i = Instr.recvServe id lost ∧ m.kind = .recvReq) ∨ (i = Instr.atomApply id lost ∧ m.kind.isAtom = true) →
      exec i s = .next { s with net := smInsert s.net id { m with kind := .merr e, data := [], route := s.routeOf m.dst m.src } }) ∧
    (s.arrivalError m lost = none → m.kind = .send → ((s.core m.dst).ctr (ctrFin m.ctr)).toNat + m.len < 2 ^ 32 →
      Completes (.sendDelivered id lost) s (fun t =>
        (∀ i, (h : i < m.data.length) → t.spad m.dst (m.roff + i) = m.data[i]) ∧
        (∀ x, (x < spadAddr m.dst m.roff ∨ spadAddr m.dst m.roff + m.data.length ≤ x) → t.byte x = s.byte x) ∧
        t.core m.dst = (s.core m.dst).setCtr (ctrFin m.ctr)
          (BitVec.ofNat 32 (((s.core m.dst).ctr (ctrFin m.ctr)).toNat + m.len)) ∧
        t.net = smInsert s.net id { m with kind := .ack, data := [], route := s.routeOf m.dst m.src } ∧
        OnlyCore { s with mem := t.mem, badWords := t.badWords, net := t.net } t m.dst)) ∧
    (s.arrivalError m lost = none → m.kind = .recvReq → s.spadPoison m.dst m.roff m.len = none →
      exec (.recvServe id lost) s =
        .next { s with net := smInsert s.net id { m with kind := .recvData, data := s.spadBytes m.dst m.roff m.len, route := s.routeOf m.dst m.src } }) ∧
    (s.arrivalError m lost = none → m.kind.isAtom = true → s.spadPoison m.dst m.roff 8 = none →
      let old := BitVec.ofNat 64 (s.spadNat m.dst m.roff 8)
      let new := atomResult m.kind old (BitVec.ofNat 64 (natOfBytes m.data)) m.cmp
      exec (.atomApply id lost) s = .next
        { s.setSpad m.dst m.roff (bytesLE 8 new.toNat) with
          net := smInsert s.net id { m with kind := .atomRes, data := bytesLE 8 old.toNat, route := s.routeOf m.dst m.src } })

/-- What comes back to a sending core: RECV data is written at its local offset and counted (R137); an ATOM's old word goes
to its register (R138); an acknowledgement and every other answer frees the outstanding entry (R56, R140); a message-error is
recorded in CORE_MSGST with its code and destination where none is recorded yet, frees the entry, and waits as asynchronous
exception 0x06 (R61, R62). A payload marked uncorrectable on the way writes nothing, and its requester meets message-error
code 0x8 (11 R386). Each answer leaves the network. -/
def MessageAnswersRule : Prop :=
  ∀ (s : State) (id : Nat) (m : Msg), s.msg id = some m → m.src < 2 ^ 23 → isCore m.src = true →
    let c := m.src
    let out := bitsOf ((s.core c).srd c 0x010) 5 0
    let one (k : Core) : Core := k.swr 0x010 (putBits (k.srd c 0x010) 5 0 (out - 1))
    (m.kind = .ack → Completes (.sendAckArrival id) s (fun t =>
      t.core c = one (s.core c) ∧ t.net = smErase s.net id ∧ OnlyCore { s with net := t.net } t c)) ∧
    (m.kind = .atomRes → Completes (.atomResultArrival ⟨id, false⟩) s (fun t =>
      t.core c = ({ one (s.core c) with atoms := (s.core c).atoms.filter (fun x => x.1 != id) }).setS (regFin m.rd)
        (BitVec.ofNat 64 (natOfBytes m.data)) ∧ t.net = smErase s.net id ∧ OnlyCore { s with net := t.net } t c)) ∧
    (m.kind = .recvData → ((s.core c).ctr (ctrFin m.ctr)).toNat + m.len < 2 ^ 32 →
      Completes (.recvDataArrival ⟨id, false⟩) s (fun t =>
        (∀ i, (h : i < m.data.length) → t.spad c (m.lofs + i) = m.data[i]) ∧
        (∀ x, (x < spadAddr c m.lofs ∨ spadAddr c m.lofs + m.data.length ≤ x) → t.byte x = s.byte x) ∧
        t.core c = (one (s.core c)).setCtr (ctrFin m.ctr)
          (BitVec.ofNat 32 (((s.core c).ctr (ctrFin m.ctr)).toNat + m.len)) ∧
        t.net = smErase s.net id ∧ OnlyCore { s with mem := t.mem, badWords := t.badWords, net := t.net } t c)) ∧
    (∀ i, (i = Instr.recvDataArrival ⟨id, true⟩ ∧ m.kind = .recvData) ∨ (i = Instr.atomResultArrival ⟨id, true⟩ ∧ m.kind = .atomRes) →
      (s.core c).mode ≠ .running → Completes i s (fun t => t.mem = s.mem ∧ t.regs = s.regs ∧ t.net = smErase s.net id ∧
        t.cget c cSendOut = (out - 1) % 64 ∧ (∀ r, (t.core c).sreg r = (s.core c).sreg r) ∧
        (∀ k, (t.core c).ctr k = (s.core c).ctr k) ∧ (s.cget c cMsgSticky = 0 → t.cget c cMsgErrCode = 8) ∧
        (t.core c).async = (s.core c).async ++ [(0x06, packW [(m.dst, 0), (8, 44)])] ∧ ∀ c', c' ≠ c → t.core c' = s.core c')) ∧
    (∀ e, m.kind = .merr e → (s.core c).mode ≠ .running → Completes (.messageErrorArrival id) s (fun t =>
      t.cget c cSendOut = (out - 1) % 64 ∧
      (s.cget c cMsgSticky = 0 → t.cget c cMsgErrCode = e % 16 ∧ t.cget c cMsgErrDest = m.dst % 2 ^ 24) ∧
      (s.cget c cMsgSticky = 1 → t.cget c cMsgErrCode = s.cget c cMsgErrCode) ∧
      t.cget c cMsgSticky = 1 ∧ t.cget c cMsgErrCnt = min (s.cget c cMsgErrCnt + 1) 255 ∧
      (t.core c).async = (s.core c).async ++ [(0x06, packW [(m.dst, 0), (e, 44)])] ∧
      t.net = smErase s.net id ∧ OnlyCore { s with net := t.net } t c))


/-- Messages on their way: their service at the destination and their answers (04). -/
def Obligations.MessageTraffic : Prop := MessageServiceRule ∧ MessageAnswersRule

/-! ## Counters, special registers, the end of a program (04) -/

/-- WAITCNT and WAITCNTI pass on when the counter has reached the value, wait while it has not, and raise counter-overflow
when its overflow flag is set; CNTRD writes the counter, zero-extended, to s[d]; CNTWR writes the counter and clears its
flag; CNTSUB subtracts, raises counter-underflow when the subtrahend exceeds the counter and leaves it, and leaves a
saturated counter as it is. A 1 in s[a] bits [63:32] raises illegal-operand (R125, R142 to R144). -/
def CounterInstructionsRule : Prop :=
  ∀ (s : State) (c : Nat) (k : Fin 16) (a d : Fin 32) (n : BitVec 16),
    let x := s.core c
    let w := (x.sreg a).toNat
    let v := (x.ctr k).toNat
    let ovf := s.cget c (cOvf k) = 1
    (ReadyMid s c [a] [] → w < 2 ^ 32 → ¬ovf → w ≤ v → Completes (.waitcnt c k a) s (fun t => Stepped s t c id)) ∧
    (Ready s c [a] [] → w < 2 ^ 32 → ¬ovf → v < w → Completes (.waitcnt c k a) s (fun t =>
      t.core c = { x with wait := some k.val } ∧ OnlyCore s t c)) ∧
    (ReadyMid s c [] [] → ¬ovf → 8 * n.toNat ≤ v → Completes (.waitcnti c k n) s (fun t => Stepped s t c id)) ∧
    (Ready s c [] [] → ¬ovf → v < 8 * n.toNat → Completes (.waitcnti c k n) s (fun t =>
      t.core c = { x with wait := some k.val } ∧ OnlyCore s t c)) ∧
    (Ready s c [a] [] → w < 2 ^ 32 → ovf → exec (.waitcnt c k a) s = .next (s.raiseSync c 0x07 k.val)) ∧
    (Ready s c [] [] → ovf → exec (.waitcnti c k n) s = .next (s.raiseSync c 0x07 k.val)) ∧
    (ReadyMid s c [d] [] → Completes (.cntrd c d k) s (fun t => Stepped s t c (fun y => y.setS d (BitVec.ofNat 64 v)))) ∧
    (ReadyMid s c [a] [] → w < 2 ^ 32 → Completes (.cntwr c k a) s (fun t =>
      Stepped s t c (fun y => (y.setCtr k (BitVec.ofNat 32 w)).swr 0x011 (putBits (y.srd c 0x011) k.val k.val 0)))) ∧
    (ReadyMid s c [a] [] → w < 2 ^ 32 → ¬ovf → w ≤ v → Completes (.cntsub c k a) s (fun t =>
      Stepped s t c (fun y => y.setCtr k (BitVec.ofNat 32 (v - w))))) ∧
    (Ready s c [a] [] → w < 2 ^ 32 → ¬ovf → v < w → exec (.cntsub c k a) s = .next (s.raiseSync c 0x08 k.val)) ∧
    (ReadyMid s c [a] [] → w < 2 ^ 32 → ovf → Completes (.cntsub c k a) s (fun t => Stepped s t c id)) ∧
    (Ready s c [a] [] → 2 ^ 32 ≤ w → ∀ i, i = Instr.waitcnt c k a ∨ i = Instr.cntwr c k a ∨ i = Instr.cntsub c k a →
      exec i s = .next (s.raiseSync c 0x02 w))

/-- Special registers with the bits that a write stores and the bits that a written 1 clears (the register maps of 02, 03,
04, 05 and 06). CORE_SRSTATE, whose write of 0 stores its default, stands apart. -/
def srTable : List (Nat × Word × Word) :=
  [(0x000, 0, 0), (0x001, 0, 0), (0x002, 0, 0), (0x010, 0, 0x100), (0x011, 0, 0xFFFF), (0x012, 0, 0xF), (0x020, 0, 0),
   (0x021, 0x7FFC, 0), (0x022, 0x7FFC001F, 0), (0x038, 0x17FC0, 0), (0x039, 0xFFFF0000, 0x3F), (0x03A, 0xFFFFFFFFFFFFFFFF, 0),
   (0x03B, 0xFFFFFFFFFFFFFFFF, 0), (0x03D, 0, 0), (0x03E, 0, 0), (0x03F, 0, 0)]

/-- MTSR of a word without a 1 in a reserved field stores the writable bits, clears where a 1 is written to a W1C bit, keeps
the rest, and passes on; an unlisted number raises illegal-operand. MFSR writes the register to s[d]; CORE_TICK reads the
tick number; an unlisted number raises illegal-operand with the instruction word; read-and-clear counts read, then 0 (R133). -/
def SpecialRegistersRule : Prop :=
  ∀ (s : State) (c : Nat) (a d : Fin 32) (n : BitVec 12),
    let k := s.core c
    let w := k.sreg a
    (∀ e ∈ srTable, n.toNat = e.1 → ReadyMid s c [a] [] → k.tq = [] → srRefuses e.1 w = false →
      (srReserved e.1).any (fun f => bitsOf w f.1 f.2 != 0) = false → e.1 ≠ 0x039 ∨ k.srd c 0x039 &&& ~~~0xFFFF3F3F = 0 →
      Completes (.mtsr c a n) s (fun t => ∃ v : Word, Stepped s t c (fun y => y.swr e.1 v) ∧
        ∀ i < 64, v.getLsbD i = (if e.2.1.getLsbD i then w.getLsbD i
          else if e.2.2.getLsbD i && w.getLsbD i then false
          else if e.1 ∈ [0x021, 0x038] then false else if e.1 = 0x022 ∧ i ≠ 8 then false else (k.srd c e.1).getLsbD i))) ∧
    (n.toNat = 0x013 → ReadyMid s c [a] [] → Completes (.mtsr c a n) s (fun t =>
      Stepped s t c (fun y => y.swr 0x013 (if w = 0 then 0x4B64000000000001 else w)))) ∧
    (Ready s c [a] [] → srListed n.toNat = false →
      exec (.mtsr c a n) s = .next (s.raiseSync c 0x02 (0x20 * 2 ^ 26 + a.val * 2 ^ 16 + 0x1000 + n.toNat))) ∧
    (ReadyMid s c [d] [] → n.toNat ∈ [0x010, 0x011, 0x013, 0x020, 0x021, 0x022, 0x031, 0x032, 0x038, 0x03C] →
      Completes (.mfsr c d n) s (fun t => (d ≠ 0 → (t.core c).sreg d = k.srd c n.toNat) ∧
        (t.core c).pc = k.pc + 4 ∧ (∀ r, r ≠ d → (t.core c).sreg r = k.sreg r) ∧
        (n.toNat ≠ 0x010 → (t.core c).sr = k.sr) ∧ (n.toNat = 0x010 → t.cget c cMsgErrCnt = 0) ∧ OnlyCore s t c)) ∧
    (ReadyMid s c [d] [] → k.tq = [] → n.toNat ∈ [0x03D, 0x03E, 0x03F] → Completes (.mfsr c d n) s (fun t =>
      (d ≠ 0 → (t.core c).sreg d = k.srd c n.toNat) ∧ (t.core c).srd c n.toNat = 0 ∧ (t.core c).pc = k.pc + 4 ∧
      OnlyCore s t c)) ∧
    (ReadyMid s c [d] [] → n.toNat = 0x001 → Completes (.mfsr c d n) s (fun t =>
      Stepped s t c (fun y => y.setS d (s.rd tsqTick)))) ∧
    (Ready s c [d] [] → srListed n.toNat = false →
      exec (.mfsr c d n) s = .next (s.raiseSync c 0x02 (0x20 * 2 ^ 26 + d.val * 2 ^ 21 + n.toNat)))

/-- Special registers, and the instructions that read counters (04). -/
def Obligations.SpecialRegisters : Prop := CounterInstructionsRule ∧ SpecialRegistersRule

/-- TBAR holds the core at its next barrier; when every present core of the group has reached it, TBAR_RELEASE lets all of
them go on behind it (R154). TEND, once nothing of the core is outstanding, ends it, and the last of its group makes the
task Done, unless a refused command parks it (R155). ERET goes on at CORE_EPC with inh cleared (R159). FENCE.I passes on (R121). An illegal word raises cause
0x01 with the word (R124). -/
def ProgramControlRule : Prop :=
  ∀ (s : State) (c k : Nat),
    let x := s.core c
    (Ready s c [] [] → x.task = some k → Completes (.tbar c) s (fun t =>
      t.core c = { x with mode := .atBarrier, bars := x.bars + 1 } ∧ OnlyCore s t c)) ∧
    (∀ n, s.present k ≠ [] → (s.present k).Nodup →
      (∀ e ∈ s.present k, (s.core e).mode = .atBarrier ∧ (s.core e).task = some k ∧ (s.core e).bars = n ∧
        (s.core e).async = [] ∧ (s.core e).pc ≠ 0x7FFC) →
      Completes (.tbarRelease k) s (fun t =>
        (∀ e ∈ s.present k, t.core e = { s.core e with mode := .running, pc := (s.core e).pc + 4, wait := none }) ∧
        (∀ e, e ∉ s.present k → t.core e = s.core e) ∧ { t with cores := s.cores } = s)) ∧
    (Ready s c [] [] → x.task = some k → s.outstanding c = 0 → s.dmaDone c = true →
      Completes (.tend c) s (fun t => t.core c = { x with mode := .ended } ∧ (∀ e, e ≠ c → t.core e = s.core e) ∧
        { t with cores := s.cores, regs := s.regs } = s ∧
        ((s.tstate k = tsRunning ∨ s.tstate k = tsCarried) → (s.task k).mustPark = false →
          (∀ e ∈ s.present k, e ≠ c → (s.core e).task = some k ∧ (s.core e).mode = .ended ∧ s.dmaDone e = true) →
          t.tstate k = tsDone) ∧
        ((∃ e ∈ s.present k, e ≠ c ∧ (s.core e).mode ≠ .ended) ∨ (s.task k).mustPark = true → t.regs = s.regs))) ∧
    (Ready s c [] [] → x.task = some k → s.outstanding c ≠ 0 ∨ s.dmaDone c = false → exec (.tend c) s = .next s) ∧
    (Ready s c [] [] → x.async = [] → Completes (.eret c) s (fun t =>
      (t.core c).pc = s.cget c cEpc ∧ t.cget c cInh = 0 ∧ (∀ r, (t.core c).sreg r = x.sreg r) ∧ OnlyCore s t c)) ∧
    (ReadyMid s c [] [] → Completes (.fenceI c) s (fun t => Stepped s t c id)) ∧
    (∀ word, Ready s c [] [] → kisLegal word = false →
      exec (.illegalInstruction c word) s = .next (s.raiseSync c 0x01 word.toNat))

/-- A synchronous exception writes CORE_EXC with cause and information and CORE_EPC with the instruction's offset. With a
handler allowed and enabled and inh clear the core goes on at the handler with inh set; otherwise it freezes; a cause in
the handler becomes the double exception 0x0C with the second cause as its information. Nothing else of the machine changes
(R157 to R160). -/
def ExceptionEntryRule : Prop :=
  ∀ (s : State) (c cause info : Nat), cause < 256 → info < 2 ^ 48 → (s.core c).pc < 2 ^ 15 →
    let t := s.raiseSync c cause info
    let k := s.core c
    OnlyCore s t c ∧ (∀ r, (t.core c).sreg r = k.sreg r) ∧ t.cget c cEpc = k.pc ∧
    (s.cget c cInh = 0 → t.cget c cExcCause = cause ∧ t.cget c cExcInfo = info) ∧
    (s.cget c cInh = 1 → t.cget c cExcCause = 0x0C ∧ t.cget c cExcInfo = cause ∧ (t.core c).mode = .frozen) ∧
    (s.cget c cInh = 0 → (∀ b, handlerBit cause = some b → s.cget c (cEn b) = 0) → (t.core c).mode = .frozen ∧
      (t.core c).pc = k.pc) ∧
    (∀ b, handlerBit cause = some b → s.cget c cInh = 0 → s.cget c (cEn b) = 1 →
      (t.core c).pc = s.cget c cHoff ∧ t.cget c cInh = 1 ∧ (t.core c).mode = k.mode)

/-- A frozen core of a running task reports: the task parks with a fault of cause 0x09 in its tenant's queue, numbered next,
that the tenant's firmware has to resolve, its work of the tick is discarded, and the core stands stopped (R160, R331). -/
def FrozenCoreParksTaskRule : Prop :=
  ∀ (s : State) (c k : Nat), (s.core c).mode = .frozen → (s.core c).task = some k → s.tstate k = tsRunning →
    Completes (.coreStopReport c) s (fun t => t.tstate k = tsParked ∧ (t.core c).mode = .stopped ∧
      (t.task k).discarded = true ∧ (t.task k).faultTick = s.tick ∧
      (∃ aux, (t.task k).open_ = (s.task k).open_ ++ [(s.faultNo (s.tdTenant k), 0x09, aux)]) ∧
      t.faultWait.length = s.faultWait.length + 1 ∧ t.mem = s.mem)

/-- Program control and exceptions: a core freezes with its cause, and its task parks (04, 09, 10). -/
def Obligations.ControlAndExceptions : Prop := ProgramControlRule ∧ ExceptionEntryRule ∧ FrozenCoreParksTaskRule

/-! ## DMA (02, 04, 09) -/

/-- The four DMA rows with the operation of their descriptors (R147). -/
def dmaTable : List ((Nat → Fin 32 → Instr) × Nat) := [(.dmaFill, 1), (.dmaDrain, 2), (.dmaCopy, 3), (.dmaZero, 4)]

/-- DMA reads the descriptor at s[a] and queues the command where its checks pass and fewer than four of the core's commands
are queued, and waits while four are, or while an earlier instruction of the core has yet to write bytes of a DRAIN's source
(07 R237); a misaligned offset raises alignment, a 1 in s[a] bits [63:15] illegal-operand, a
descriptor that fails a check of R149 the DMA-format exception, and nothing is queued. FENCE.D waits until every command of
the core has completed or been refused (R148, R149, R70). -/
def DmaIssueRule : Prop :=
  ∀ (s : State) (c : Nat) (a : Fin 32),
    let k := s.core c
    let o := (k.sreg a).toNat
    (∀ e ∈ dmaTable, ∀ d, ReadyMid s c [a] [] → o < 2 ^ 15 → o % 32 = 0 → k.extFree [(o, 32)] [] = true →
      parseDma c k.task o (s.spadBytes c o 32) = some d → d.op = e.2 → s.spadPoison c o 32 = none →
      ((s.dmaOf c).length < 4 → s.sourceOpen c d = false → Completes (e.1 c a) s (fun t => t.dma = s.dma ++ [(s.nextId, d)] ∧
        t.nextId = s.nextId + 1 ∧ Stepped { s with dma := t.dma, nextId := t.nextId } t c id)) ∧
      (4 ≤ (s.dmaOf c).length ∨ s.sourceOpen c d = true → exec (e.1 c a) s = .next s)) ∧
    (∀ e ∈ dmaTable, Ready s c [a] [] →
      (2 ^ 15 ≤ o → exec (e.1 c a) s = .next (s.raiseSync c 0x02 o)) ∧
      (o < 2 ^ 15 → o % 32 ≠ 0 → exec (e.1 c a) s = .next (s.raiseSync c 0x03 o)) ∧
      (o < 2 ^ 15 → o % 32 = 0 → k.extFree [(o, 32)] [] = true → parseDma c k.task o (s.spadBytes c o 32) = none →
        exec (e.1 c a) s = .next (s.raiseSync c 0x09 o))) ∧
    (ReadyMid s c [] [] → s.dmaDone c = true → Completes (.fenceD c) s (fun t => Stepped s t c id)) ∧
    (s.dmaDone c = false → exec (.fenceD c) s = .next s)

/-- The whole extent of a queued command is checked before any byte moves: where no part of it fails, the command is admitted
with its snapshot of the range entries; where a part fails, the command of a running task is refused: it moves nothing,
advances no counter, and its task is to park with an unresolved fault (R150, R316). An admitted command advances by one chunk
of at most 4 KiB, once every unit of it that travels on the hub has its tokens (R71, R73; 11 R405); a chunk whose payload the hub
loses is issued again (11 R386). A command whose every byte is moved, with no earlier overlapping one, leaves the queue and adds its
byte count to the counter that it names on the issuing core (R72, R152). -/
def DmaProgressRule : Prop :=
  ∀ (s : State) (id : Nat) (d : Dma), s.dmaGet id = some d →
    (d.st = .queued → s.earlierUnchecked id d.core = false → s.get fBootMode ≠ 4 → s.fencedTen = [] →
      (∀ a, d.pSide = some a → (s.core ((a - 0x100000000000) / 2 ^ 15)).fenced = false) →
      (s.dmaFails d = [] → s.pFail d = none → s.dmaHeld (s.dmaMaps d) (d.dvaSides.flatMap (fun y => d.runs y.1)) = false →
        exec (.dmaExtentCheck id) s =
          .next { s with dma := smInsert s.dma id { d with st := .admitted, maps := s.dmaMaps d } }) ∧
      (∀ k, s.dmaFails d ≠ [] → d.task = some k → s.tstate k = tsRunning → Completes (.dmaExtentCheck id) s (fun t =>
        t.dmaGet id = some { d with st := .refused, done := 0, maps := [] } ∧ (t.task k).mustPark = true ∧
        (t.task k).open_.length = (s.task k).open_.length + 1 ∧ t.faultWait.length = s.faultWait.length + 1 ∧
        t.mem = s.mem ∧ t.cores = s.cores ∧ t.regs = s.regs))) ∧
    (∀ tile lost odata sk, (s.nextDmaCore tile).bind s.dmaFront = some (id, d) →
      let n := min 16 ((d.total - d.done) / 256)
      let far := s.remoteUnits d d.done n
      s.dmaWaits d d.done n = false → s.remoteTurn tile = false → s.fencedCore d.core = false → s.chunkTokens d far = some sk →
      let s1 := { ((sk.chunkPackets d far).modStack tile (fun k => { k with idled := false })).modHub (fun h =>
        { h with remoteLast := h.remoteLast.filter (fun y => y != tile) }) with dmaLast := smInsert s.dmaLast tile d.core }
      (s.stack tile).slow = false ∨ (s.stack tile).idled = true →
      (∀ u, (lost && s1.dmaRemote d d.done n) = false → s1.dmaMove d n d.done odata = (u, none) →
        let st : DmaState := if d.done + 256 * n = d.total then .moved else .admitted
        exec (.dmaChunk tile lost odata) s =
          .next (u.dmaPut id { d with done := d.done + 256 * n, retried := false, st := st })) ∧
      -- a FILL from stacks in service moves each unit's bytes to the core's scratchpad, and nothing else
      (let c := (d.dst - 0x100000000000) / 2 ^ 15
       let o := d.dst % 2 ^ 15 + d.done
       let src (i : Nat) := d.device true (d.done + 256 * i)
       let st : DmaState := if d.done + 256 * n = d.total then .moved else .admitted
       d.op = 1 → d.done ≤ d.total → d.dst % 2 ^ 15 + d.total ≤ 2 ^ 15 → s.absent c = false →
        (∀ i < n, s.gone (src i) = false ∧ ∃ t o, s.place (src i) = .stack t o ∧
          s.burstCond (s.stackKey t o) (s.physCh (s.stackKey t o)) = .clean) →
        Completes (.dmaChunk tile false odata) s (fun t =>
          t.dmaGet id = some { d with done := d.done + 256 * n, retried := false, st := st } ∧
          (∀ i < n, ∀ t' o', s.place (src i) = .stack t' o' →
            t.spadBytes c (o + 256 * i) 256 = s.decoded (s.stackKey t' o') []) ∧
          (∀ x, (x < spadAddr c o ∨ spadAddr c o + 256 * n ≤ x) → t.byte x = s.byte x) ∧ t.cores = s.cores)) ∧
      (lost = true → s1.dmaRemote d d.done n = true → d.retried = false →
        exec (.dmaChunk tile lost odata) s = .next (s1.dmaPut id { d with retried := true }))) ∧
    (d.st = .moved → (s.dmaOf d.core).any (fun e => decide (e.1 < id ∧ e.2.st ≠ DmaState.refused) && e.2.overlaps d) = false →
      d.task = (s.core d.core).task → (s.core d.core).mode ≠ .ended → ((s.core d.core).ctr (ctrFin d.ctr)).toNat + d.total < 2 ^ 32 →
      Completes (.dmaComplete id) s (fun t => t.dma = smErase s.dma id ∧
        t.core d.core = (s.core d.core).setCtr (ctrFin d.ctr)
          (BitVec.ofNat 32 (((s.core d.core).ctr (ctrFin d.ctr)).toNat + d.total)) ∧
        OnlyCore { s with dma := t.dma } t d.core))


/-- DMA: issue of a descriptor, and the progress of a command (04). -/
def Obligations.DmaCommands : Prop := DmaIssueRule ∧ DmaProgressRule


/-! ## Codes of the narrow formats (03 R80, R87, R88) -/

/-- The values of codes. A KF4 code with exponent 0 has value m × 0.5, another 2^(e−1) × (1 + m/2), negative with the sign
bit, and its grid value is twice that (R80). A block scale has value m × 2^−17 for e = 0 and (8 + m) × 2^(e−18) otherwise;
code 0x00 is zero, and a larger code means a larger scale (R87). A superblock scale has value 0 for e = 0 and
(256 + m) × 2^(e−135) otherwise, and code 0x7F00 is 1.0 (R88). -/
def Obligations.CodeValues : Prop :=
  (∀ c < 16,
    let e := c / 2 % 4
    let m := c % 2
    let twice : Nat := if e = 0 then m else 2 ^ (e - 1) * (2 + m)
    gridOfCode fmtKF4 c = if 8 ≤ c then -(twice : Int) else twice) ∧
  (∀ c < 256,
    let e := c / 8
    let m : Nat := c % 8
    0 < (e5m3 c).d ∧ (e = 0 → (e5m3 c).n * 2 ^ 17 = (m * (e5m3 c).d : Nat)) ∧
    (1 ≤ e → (e5m3 c).n * 2 ^ 17 = ((8 + m) * 2 ^ (e - 1) * (e5m3 c).d : Nat)) ∧
    (∀ c' < 256, c < c' → (e5m3 c).lt (e5m3 c') = true)) ∧
  (e5m3 0x00).n = 0 ∧
  (∀ c < 65536,
    let e := c / 256
    let m : Nat := c % 256
    0 < (sscaleValue c).d ∧ (e = 0 → (sscaleValue c).n = 0) ∧
    (1 ≤ e → (sscaleValue c).n * 2 ^ 134 = ((256 + m) * 2 ^ (e - 1) * (sscaleValue c).d : Nat))) ∧
  Q.eq (sscaleValue 0x7F00) (Q.int 1) = true

/-! ## Tensor work (03, 05, 06) -/

/-- Element e of tile k of a core. -/
def tileEl (k : Core) (tile : Fin 8) (e : Fin 512) : F32 := (k.tile tile)[e]

/-- The rest of a tensor instruction's core: scalar and vector registers, counters, other tiles, the queue. -/
def TensorFrame (s t : State) (c : Nat) (tile : Fin 8) : Prop :=
  (∀ r, (t.core c).sreg r = (s.core c).sreg r) ∧ (∀ v, (t.core c).vreg v = (s.core c).vreg v) ∧
  (∀ r, (t.core c).ctr r = (s.core c).ctr r) ∧ (∀ u, u ≠ tile → (t.core c).tile u = (s.core c).tile u) ∧
  (t.core c).pc = (s.core c).pc + 4 ∧ OnlyCore s t c

/-- What a loaded F32 becomes: an infinity the largest finite value of its sign, a NaN +0, any other value itself (R180). -/
def loadedF32 (x : F32) : F32 :=
  if x.toNat / 2 ^ 23 % 256 = 255 then (if x.toNat % 2 ^ 23 ≠ 0 then 0 else if 2 ^ 31 ≤ x.toNat then 0xFF7FFFFF else 0x7F7FFFFF)
  else x

/-- Accumulator instructions on an idle tensor unit. TZERO clears the tile and its estimate; TST stores element e at s[a] + 4e
and nothing elsewhere; TLD loads it, with infinities and NaNs replaced; TROW writes one row, rounded to F16 (to
nearest even, or by 32 draws), to a vector register; TADDR adds a vector register's finite lanes, TADDM a tile in the scratchpad, each sum rounded once and never to an
infinity (R179 to R181, R102). -/
def AccumulatorInstructionsRule : Prop :=
  ∀ (s : State) (c : Nat) (tile : Fin 8) (a : Fin 32) (v : Fin 16) (r : Fin 16),
    let k := s.core c
    let o := (k.sreg a).toNat
    k.tq = [] →
    (ReadyMid s c [] [] → Completes (.tzero c tile) s (fun t =>
      (t.core c).tile tile = Vector.replicate 512 0 ∧ t.cget c (gEst tile.val) = 0 ∧ TensorFrame s t c tile)) ∧
    (ReadyMid s c [a] [] → o % 64 = 0 → o ≤ 0x7800 → Completes (.tst c tile a) s (fun t =>
      (∀ e : Fin 512, t.spadNat c (o + 4 * e.val) 4 = (tileEl k tile e).toNat) ∧
      (∀ x, (x < spadAddr c o ∨ spadAddr c o + 2048 ≤ x) → t.byte x = s.byte x) ∧
      Stepped { s with mem := t.mem, badWords := t.badWords } t c id)) ∧
    (ReadyMid s c [a] [] → o % 64 = 0 → o ≤ 0x7800 → s.spadPoison c o 2048 = none → Completes (.tld c tile a) s (fun t =>
      (∀ e : Fin 512, tileEl (t.core c) tile e = loadedF32 (BitVec.ofNat 32 (s.spadNat c (o + 4 * e.val) 4))) ∧
      TensorFrame s t c tile)) ∧
    (∀ st, ReadyMid s c [] [v] → Completes (.trow c v tile r st) s (fun t =>
      (∀ i : Fin 32, ((t.core c).vreg v)[i] = (toF16 (rndOf st (drawsFor st 32 (k.srd c 0x013)).2 i.val)
        (f32Val ((k.tile tile).toList.getD (32 * r.val + i.val) 0))).1) ∧
      (t.core c).srd c 0x013 = (drawsFor st 32 (k.srd c 0x013)).1 ∧
      (∀ u, u ≠ v → (t.core c).vreg u = k.vreg u) ∧ (∀ u, (t.core c).tile u = k.tile u) ∧
      (∀ q, (t.core c).sreg q = k.sreg q) ∧ (t.core c).pc = k.pc + 4 ∧ OnlyCore s t c)) ∧
    (ReadyMid s c [] [v] → (∀ i : Fin 32, (f16Val (k.vreg v)[i]).isFin = true) → Completes (.taddr c tile v r) s (fun t =>
      (∀ e : Fin 512, tileEl (t.core c) tile e =
        if e.val / 32 = r.val then
          (f32Sat .nearestEven (Q.add (f32Val (tileEl k tile e)).q (f16Val ((k.vreg v).toList.getD (e.val % 32) 0)).q)).1
        else tileEl k tile e) ∧ TensorFrame s t c tile)) ∧
    (ReadyMid s c [a] [] → o % 64 = 0 → o ≤ 0x7800 → s.spadPoison c o 2048 = none → Completes (.taddm c tile a) s (fun t =>
      (∀ e : Fin 512, tileEl (t.core c) tile e = (f32Sat .nearestEven (Q.add (f32Val (tileEl k tile e)).q
        (f32Val (loadedF32 (BitVec.ofNat 32 (s.spadNat c (o + 4 * e.val) 4)))).q)).1) ∧ TensorFrame s t c tile))

/-- The offset of TST, TLD and TADDM: a 1 in s[a] bits [63:15] raises illegal-operand, a misaligned one alignment, one whose
2,048 bytes pass the scratchpad's end scratchpad-address; TADDR of a lane that is no number raises the arithmetic exception
with reason 0x02 and the lane; TMAC with gov 3 is illegal (R165, R179, R181, R196, R198). -/
def TensorChecksRule : Prop :=
  ∀ (s : State) (c : Nat) (tile : Fin 8) (a b : Fin 32) (v r : Fin 16) (z : Bool),
    let o := ((s.core c).sreg a).toNat
    (∀ i, i = Instr.tst c tile a ∨ i = Instr.tld c tile a ∨ i = Instr.taddm c tile a → Ready s c [a] [] →
      (2 ^ 15 ≤ o → exec i s = .next (s.raiseSync c 0x02 o)) ∧
      (o < 2 ^ 15 → o % 64 ≠ 0 → exec i s = .next (s.raiseSync c 0x03 o)) ∧
      (o < 2 ^ 15 → o % 64 = 0 → 0x7800 < o → exec i s = .next (s.raiseSync c 0x04 o))) ∧
    (∀ n, Ready s c [] [v] → badLane ((s.core c).vreg v) = some n →
      exec (.taddr c tile v r) s = .next (s.raiseSync c 0x0B (0x02 * 2 ^ 40 + n * 2 ^ 16))) ∧
    (Ready s c [a, b] [] → exec (.tmac c tile a b z 3) s = .next (s.raiseSync c 0x02
      (0x22 * 2 ^ 26 + tile.val * 2 ^ 21 + a.val * 2 ^ 16 + b.val * 2 ^ 11 + (0x1 + (if z then 0x10 else 0) + 0x60))))

/-- Accumulator instructions, and the checks of the tensor instructions (05). -/
def Obligations.AccumulatorsAndChecks : Prop := AccumulatorInstructionsRule ∧ TensorChecksRule

/-- TMAC, where its strips pass their checks, enters the tensor queue with both tails, and a KT2 strip's data bytes, captured,
and passes on; where the guard is off nothing else changes; with three instructions in the unit, or while an instruction ahead
of it has yet to write a byte that it reads, the companion's tail among them, it waits (R165 to R168, R175; 06 R207). -/
def TmacIssueRule : Prop :=
  ∀ (s : State) (c : Nat) (tile : Fin 8) (a b : Fin 32) (z : Bool) (gov : Fin 4),
    let k := s.core c
    let aw := k.sreg a
    let ww := k.sreg b
    let cls := macClass (swFmt ww)
    gov ≠ 3 → s.pairCheck c aw ww = none →
    let mode := s.effMode c cls gov.val
    let op (comp : Option (Nat × List Byte)) : MacOp :=
      { pc := k.pc, tile := tile.val, z := z, aWord := aw, wWord := ww,
        aTail := s.spadBytes c (swOff aw + tailOffset (swFmt aw)) 64,
        wTail := s.spadBytes c (swOff ww + tailOffset (swFmt ww)) 64,
        kt2 := if swFmt ww = fmtKT2 then s.spadBytes c (swOff ww + 13 * (32 * swStrip ww)) 416 else [],
        cls := cls, mode := mode, thr := if cls ≤ 1 then s.cget c (gThr cls) else 0, phase := s.cget c gPhase, comp := comp }
    let reads := macIssueReads aw ww ++ s.companionReads c cls mode (swOff aw)
    (ReadyMid s c [a, b] [] → k.tq.length < 3 → k.extFree reads [] = true →
      reads.findSome? (fun e => s.spadPoison c e.1 e.2) = none →
      (mode = 0 → Completes (.tmac c tile a b z gov) s (fun t =>
        Stepped s t c (fun k => { k with tq := k.tq ++ [.mac (op none)] }))) ∧
      (mode ≠ 0 → Completes (.tmac c tile a b z gov) s (fun t =>
        (t.core c).tq = k.tq ++ [.mac (op (s.macGuard c cls mode tile.val k.pc (swOff aw)).2)] ∧ (t.core c).pc = k.pc + 4 ∧
        t.cget c gPhase = (s.cget c gPhase + 1) % 64 ∧ (∀ r, (t.core c).sreg r = k.sreg r) ∧
        (∀ u, (t.core c).tile u = k.tile u) ∧ t.mem = s.mem ∧ (∀ e, e ≠ c → t.core e = s.core e)))) ∧
    (Ready s c [a, b] [] → 3 ≤ k.tq.length ∨ k.extFree reads [] = false → exec (.tmac c tile a b z gov) s = .next s)

/-- The tensor unit finishes a TMAC: element (r, n) of the tile becomes its old value, or +0 with z, plus the exact contribution
of activation row r and weight column n, rounded once and never to an infinity; with promotion, where an estimate exceeds the
threshold, the companion's row stands for the activation row; the instruction leaves the queue; other tiles, registers and
memory stay (R101 to R103, R175, R210, R214). -/
def TmacAccumulatesRule : Prop :=
  ∀ (s : State) (c : Nat) (m : MacOp) (rest : List TOp) (shadow : List (Fin 8 × BitVec 32)), (s.core c).tq = .mac m :: rest →
    (TOp.reads (.mac m)).findSome? (fun e => s.spadPoison c e.1 e.2) = none →
    let fa := swFmt m.aWord
    let fw := swFmt m.wWord
    let ao := mkOperand fa (s.sbCaptured c fa (swOff m.aWord) (16 * swStrip m.aWord) m.aTail []) (16 * swStrip m.aWord) 16
    let wo := mkOperand fw (s.sbCaptured c fw (swOff m.wWord) (32 * swStrip m.wWord) m.wTail m.kt2) (32 * swStrip m.wWord) 32
    let est := if m.z then 0 else s.cget c (gEst m.tile)
    let does (src : Operand) : Prop := Completes (.tensorOpComplete c shadow) s (fun t => (t.core c).tq = rest ∧
      (∀ e : Fin 512, tileEl (t.core c) (tileFin m.tile) e = (f32Sat .nearestEven (Q.add
        (if m.z then Q.zero else (f32Val (tileEl (s.core c) (tileFin m.tile) e)).q)
        (contribution src wo (e.val / 32) (e.val % 32)))).1) ∧
      (∀ u, u ≠ tileFin m.tile → (t.core c).tile u = (s.core c).tile u) ∧
      (∀ r, (t.core c).sreg r = (s.core c).sreg r) ∧ t.mem = s.mem ∧ (∀ e, e ≠ c → t.core e = s.core e))
    (m.mode ≠ 2 ∨ m.comp = none → does ao) ∧
    (∀ off tail, m.mode = 2 → m.comp = some (off, tail) → m.tile < 8 →
      let tf := (tail.getD 2 0).toNat % 16
      let co := mkOperand tf (s.sbCaptured c tf off 0 tail []) (16 * swStrip m.aWord) 16
      ((estimateRun ao wo co m.phase m.thr (List.range 8) est none).2.isSome = true → does co) ∧
      ((estimateRun ao wo co m.phase m.thr (List.range 8) est none).2 = none → does ao))

/-- A tensor instruction of the queue that meets an uncorrectable word writes nothing: the core freezes with cause 0x05, the
word's offset and the instruction's, and the instructions queued behind it are discarded (R165, R170). -/
def TensorPoisonStopsRule : Prop :=
  ∀ (s : State) (c : Nat) (o : TOp) (rest : List TOp) (w : Nat) (shadow : List (Fin 8 × BitVec 32)),
    (s.core c).tq = o :: rest → o.reads.findSome? (fun e => s.spadPoison c e.1 e.2) = some w → w < 2 ^ 15 → o.pc < 2 ^ 15 →
    Completes (.tensorOpComplete c shadow) s (fun t => (t.core c).mode = .frozen ∧ t.cget c cExcCause = 0x05 ∧
      t.cget c cExcInfo = w ∧ t.cget c cEpc = o.pc ∧ (∀ u, (t.core c).tile u = (s.core c).tile u) ∧
      (∀ u, (t.core c).vreg u = (s.core c).vreg u) ∧ (t.core c).tq = [] ∧ t.mem = s.mem ∧ OnlyCore s t c)

/-- TMAC: what issue queues, what execution accumulates, and how poison stops it (05, 06). -/
def Obligations.TensorMultiply : Prop := TmacIssueRule ∧ TmacAccumulatesRule ∧ TensorPoisonStopsRule

/-! ## Vector work (05) -/

/-- The two-operand vector instructions with what they do to a lane (R184, R185): F16 sums, differences and products rounded
once, masks, I16 arithmetic modulo 2^16. -/
def vectorTable : List ((Nat → Fin 16 → Fin 16 → Fin 16 → Instr) × (Lane → Lane → Lane)) :=
  [(.vaddH, fun x y => fAdd (f16Val x) (f16Val y)), (.vsubH, fun x y => fAdd (f16Val x) (f16Val y).negate),
   (.vmulH, fun x y => fMul (f16Val x) (f16Val y)), (.vminH, f16Min), (.vmaxH, f16Max),
   (.vcltH, fun x y => if fLess false (f16Val x) (f16Val y) then 0xFFFF else 0),
   (.vceqH, fun x y => if fEqual (f16Val x) (f16Val y) then 0xFFFF else 0),
   (.vaddI, fun x y => BitVec.ofNat 16 (x.toNat + y.toNat)), (.vsubI, fun x y => BitVec.ofInt 16 (x.toInt - y.toInt)),
   (.vand, fun x y => BitVec.ofNat 16 (x.toNat &&& y.toNat)), (.vor, fun x y => BitVec.ofNat 16 (x.toNat ||| y.toNat)),
   (.vxor, fun x y => BitVec.ofNat 16 (x.toNat ^^^ y.toNat)),
   (.vshlI, fun x y => BitVec.ofNat 16 (x.toNat * 2 ^ (y.toNat % 16))),
   (.vshrI, fun x y => BitVec.ofNat 16 (x.toNat / 2 ^ (y.toNat % 16))),
   (.vsraI, fun x y => BitVec.ofInt 16 (x.toInt / 2 ^ (y.toNat % 16))),
   (.vcltI, fun x y => if x.toInt < y.toInt then 0xFFFF else 0)]

/-- The one-operand vector instructions (R185, R186). -/
def vectorTable1 : List ((Nat → Fin 16 → Fin 16 → Instr) × (Lane → Lane)) :=
  [(.vabsH, fun x => BitVec.ofNat 16 (x.toNat % 2 ^ 15)), (.vnegH, fun x => BitVec.ofNat 16 ((x.toNat + 2 ^ 15) % 2 ^ 16)),
   (.vrcpH, fun x => f16Rcp (f16Val x)), (.vrsqH, fun x => f16Rsq (f16Val x)), (.vexp2H, fun x => f16Exp2 (f16Val x))]

/-- Elementwise vector instructions write each of the 32 lanes of vd from the same lane of their operands and nothing else;
VFMA.H rounds once; VSEL takes va where the lane of vc is not 0 (R184 to R186). -/
def VectorLanesRule : Prop :=
  ∀ (s : State) (c : Nat) (d a b e : Fin 16),
    (∀ p ∈ vectorTable, ReadyMid s c [] [d, a, b] → Completes (p.1 c d a b) s (fun t => Stepped s t c (fun k =>
      k.setV d (Vector.ofFn (fun i : Fin 32 => p.2 (k.vreg a)[i] (k.vreg b)[i]))))) ∧
    (∀ p ∈ vectorTable1, ReadyMid s c [] [d, a] → Completes (p.1 c d a) s (fun t => Stepped s t c (fun k =>
      k.setV d (Vector.ofFn (fun i : Fin 32 => p.2 (k.vreg a)[i]))))) ∧
    (ReadyMid s c [] [d, a, b, e] → Completes (.vfmaH c d a b e) s (fun t => Stepped s t c (fun k =>
      k.setV d (Vector.ofFn (fun i : Fin 32 =>
        fFma (f16Val (k.vreg a)[i]) (f16Val (k.vreg b)[i]) (f16Val (k.vreg e)[i])))))) ∧
    (ReadyMid s c [] [d, a, b, e] → Completes (.vsel c d a b e) s (fun t => Stepped s t c (fun k =>
      k.setV d (Vector.ofFn (fun i : Fin 32 => if (k.vreg e)[i] = 0 then (k.vreg b)[i] else (k.vreg a)[i])))))

/-- Reductions write one scalar register and nothing else: VRSUM.H the F32 sum of the lanes, canonical NaN with a NaN or both
infinities among them; VRMAX.H and VRMIN.H the extreme lane; VRSUM.I the signed sum; VEXT one lane, zero-extended. VBCAST
writes s[a] [15:0] to every lane, VINS to one lane (R188, R189). -/
def VectorReductionsRule : Prop :=
  ∀ (s : State) (c : Nat) (d : Fin 32) (v : Fin 16) (n : Fin 32),
    (ReadyMid s c [d] [v] →
      Completes (.vrsumH c d v) s (fun t => Stepped s t c (fun k => k.setS d ((laneSum (k.vreg v)).setWidth 64))) ∧
      Completes (.vrmaxH c d v) s (fun t => Stepped s t c (fun k => k.setS d ((laneExtreme f16Max (k.vreg v)).setWidth 64))) ∧
      Completes (.vrminH c d v) s (fun t => Stepped s t c (fun k => k.setS d ((laneExtreme f16Min (k.vreg v)).setWidth 64))) ∧
      Completes (.vrsumI c d v) s (fun t => Stepped s t c (fun k => k.setS d
        (BitVec.ofInt 64 ((k.vreg v).toList.map BitVec.toInt).sum))) ∧
      Completes (.vext c d v n) s (fun t => Stepped s t c (fun k => k.setS d (BitVec.ofNat 64 ((k.vreg v)[n]).toNat)))) ∧
    (ReadyMid s c [d] [v] →
      Completes (.vbcast c v d) s (fun t => Stepped s t c (fun k =>
        k.setV v (Vector.replicate 32 (BitVec.ofNat 16 (k.sreg d).toNat)))) ∧
      Completes (.vins c v d n) s (fun t => Stepped s t c (fun k =>
        k.setV v ((k.vreg v).set n (BitVec.ofNat 16 (k.sreg d).toNat)))))

/-- VLD loads 64 bytes, lane n from bytes 2n and 2n + 1, and VST stores them; nothing else changes. A misaligned offset raises
alignment, one beyond 0x7FC0 scratchpad-address (R187). -/
def VectorLoadStoreRule : Prop :=
  ∀ (s : State) (c : Nat) (v : Fin 16) (a : Fin 32) (imm : BitVec 16),
    let k := s.core c
    let o := (BitVec.ofInt 64 ((k.sreg a).toNat + imm.toInt)).toNat
    (ReadyMid s c [a] [v] → o % 64 = 0 → o ≤ 0x7FC0 → k.extFree [(o, 64)] [] = true → s.spadPoison c o 64 = none →
      Completes (.vld c v a imm) s (fun t => Stepped s t c (fun k => k.setV v
        (Vector.ofFn (fun i : Fin 32 => BitVec.ofNat 16 (s.spadNat c (o + 2 * i.val) 2)))))) ∧
    (ReadyMid s c [a] [v] → o % 64 = 0 → o ≤ 0x7FC0 → k.extFree [] [(o, 64)] = true →
      Completes (.vst c v a imm) s (fun t =>
        (∀ i : Fin 32, t.spadNat c (o + 2 * i.val) 2 = ((k.vreg v)[i]).toNat) ∧
        (∀ x, (x < spadAddr c o ∨ spadAddr c o + 64 ≤ x) → t.byte x = s.byte x) ∧
        Stepped { s with mem := t.mem, badWords := t.badWords } t c id)) ∧
    (∀ i, i = Instr.vld c v a imm ∨ i = Instr.vst c v a imm → Ready s c [a] [v] →
      (o % 64 ≠ 0 → exec i s = .next (s.raiseSync c 0x03 o)) ∧
      (o % 64 = 0 → 0x7FC0 < o → exec i s = .next (s.raiseSync c 0x04 o)))

/-- Vector instructions: lanes, reductions, loads and stores (05). -/
def Obligations.VectorInstructions : Prop := VectorLanesRule ∧ VectorReductionsRule ∧ VectorLoadStoreRule

/-- Lane conversions, to nearest even or by 32 draws in lane order: VCVT.HI rounds the integer lanes to F16, VCVT.IH the F16 lanes to integers within
−32,768 to +32,767 (a NaN to 0), VLDQ the elements of a block half under their scales; each sets CORE_CVTST.sat when a lane
saturates and keeps it otherwise, and writes nothing else; while a queued TST has yet to write bytes that it reads, VLDQ
waits (R116, R167, R190, R191). -/
def LaneConversionsRule : Prop :=
  ∀ (s : State) (c : Nat) (d v : Fin 16) (a : Fin 32) (st : Bool),
    let k := s.core c
    let w := k.sreg a
    let dr := drawsFor st 32 (k.srd c 0x013)
    let sb := s.sb c (bwOff w)
    let result (l : List (Lane × Bool)) (t : State) : Prop :=
      (t.core c).vreg d = Vector.ofFn (fun i : Fin 32 => (l.map (fun x => x.1)).getD i.val 0) ∧
      t.cget c cvSat = (if l.any (fun x => x.2) then 1 else s.cget c cvSat) ∧
      (t.core c).srd c 0x013 = dr.1 ∧
      (∀ u, u ≠ d → (t.core c).vreg u = k.vreg u) ∧ (∀ r, (t.core c).sreg r = k.sreg r) ∧
      (∀ u, (t.core c).tile u = k.tile u) ∧ (t.core c).pc = k.pc + 4 ∧ OnlyCore s t c
    (ReadyMid s c [] [d, v] →
      Completes (.vcvtHi c d v st) s (result ((List.range 32).map (fun n =>
        f16Sat (rndOf st dr.2 n) (Q.int ((k.vreg v).toList.getD n 0).toInt)))) ∧
      Completes (.vcvtIh c d v st) s (result ((List.range 32).map (fun n =>
        toI16 (rndOf st dr.2 n) (f16Val ((k.vreg v).toList.getD n 0)))))) ∧
    (ReadyMid s c [a] [d] → s.blockCheck c w = none → k.extFree (halfReads w) [] = true →
      (halfReads w).findSome? (fun e => s.spadPoison c e.1 e.2) = none →
      Completes (.vldq c d a st) s (result ((List.range 32).map (fun n =>
        f16Sat (rndOf st dr.2 n) (Q.mul (Q.int (gridAt (bwFmt w) (readTail (bwFmt w) sb) sb (bwI w) (32 * bwH w + n)))
          (blockUnit (bwFmt w) (readTail (bwFmt w) sb) sb (bwI w))))))) ∧
    (Ready s c [a] [d] → blockWord w = none → k.extFree (halfReads w) [] = false → exec (.vldq c d a st) s = .next s) ∧
    (∀ e, Ready s c [a] [d] → blockWord w = some e ∨
        (blockWord w = none ∧ k.extFree (halfReads w) [] = true ∧ s.blockCheck c w = some e) →
      exec (.vldq c d a st) s = .next (s.raiseSync c e.1 e.2))

/-- Superblock conversions, to nearest even or by 4,096 draws in element order, where their checks pass, write their destination
bytes and nothing else of memory, leave the registers but for the sticky flags, the counts and the generator, and pass on: QSB
the quantized superblock, DQB and CVTB one element each of 4,096 (R112 to R117, R192). A failed check raises its cause and
writes nothing; what the words alone show is checked first, and the bytes of the source once no earlier instruction has yet to
write them (R167, R193). -/
def SuperblockConversionsRule : Prop :=
  ∀ (s : State) (c : Nat) (d a b : Fin 32),
    let k := s.core c
    let w := k.sreg a
    let src := (k.sreg b).toNat
    let dst := (k.sreg d).toNat
    let dr := drawsFor (cwMode w) 4096 (k.srd c 0x013)
    let good (fn : Nat) : Prop := ReadyMid s c [d, a, b] [] ∧ s.qcvtCheck c fn w (k.sreg d) (k.sreg b) = none ∧
      k.extFree [(src, sideSize (cwSfmt w))] [(dst, sideSize (cwDfmt w))] = true ∧ s.spadPoison c src (sideSize (cwSfmt w)) = none
    let wrote (bs : List Byte) (t : State) : Prop := t.mem = memPut s.mem (spadAddr c dst) bs ∧
      (t.core c).srd c 0x013 = dr.1 ∧
      (∀ r, (t.core c).sreg r = k.sreg r) ∧ (∀ v, (t.core c).vreg v = k.vreg v) ∧ (∀ u, (t.core c).tile u = k.tile u) ∧
      (t.core c).pc = k.pc + 4 ∧ (∀ e, e ≠ c → t.core e = s.core e)
    let plain (i : Nat) (v : Q) : List Byte :=
      if cwDfmt w = fmtF32 then bytesLE 4 (f32Sat (rndOf (cwMode w) dr.2 i) v).1.toNat
      else bytesLE 2 (f16Sat (rndOf (cwMode w) dr.2 i) v).1.toNat
    let cast (i : Nat) (v : FVal) : List Byte :=
      if cwDfmt w = fmtF32 then bytesLE 4 (toF32 v).toNat else bytesLE 2 (toF16 (rndOf (cwMode w) dr.2 i) v).1.toNat
    let tl := readTail (cwSfmt w) (s.sb c src)
    (good 1 → Completes (.qsb c d a b) s (wrote (superblockBytes (cwDfmt w) (cwSscale w)
      (quantizeSuperblock (cwDfmt w) (cwSscale w) (cwBudget w) (cwMode w) ((s.bufVals c (cwSfmt w) src).map FVal.q) dr.2)))) ∧
    (good 2 → Completes (.dqb c d a b) s (wrote ((List.range 4096).flatMap (fun i => plain i
      (Q.mul (Q.int (gridAt (cwSfmt w) tl (s.sb c src) (i / 64) (i % 64))) (blockUnit (cwSfmt w) tl (s.sb c src) (i / 64))))))) ∧
    (good 3 → Completes (.cvtb c d a b) s
      (wrote ((List.range 4096).flatMap (fun i => cast i (s.bufElem c (cwSfmt w) src i))))) ∧
    (∀ fn i, (fn = 1 ∧ i = Instr.qsb c d a b) ∨ (fn = 2 ∧ i = Instr.dqb c d a b) ∨ (fn = 3 ∧ i = Instr.cvtb c d a b) →
      Ready s c [d, a, b] [] →
      let free := k.extFree [(src, sideSize (cwSfmt w))] [(dst, sideSize (cwDfmt w))]
      (∀ e, qcvtWord fn w (k.sreg d) (k.sreg b) = some e → exec i s = .next (s.raiseSync c e.1 e.2)) ∧
      (qcvtWord fn w (k.sreg d) (k.sreg b) = none → free = false → exec i s = .next s) ∧
      (∀ e, qcvtWord fn w (k.sreg d) (k.sreg b) = none → free = true → s.qcvtCheck c fn w (k.sreg d) (k.sreg b) = some e →
        exec i s = .next (s.raiseSync c e.1 e.2)))


/-- Conversions between the wide and the narrow formats, by lane and by superblock (03, 05). -/
def Obligations.FormatConversions : Prop := LaneConversionsRule ∧ SuperblockConversionsRule


/-! ## The last word of the scratchpad (04 R132) -/

/-- An instruction at 0x7FFC that is no taken branch or jump takes full effect; then the core raises scratchpad-address
(cause 0x04) with information 0x8000, the offset that it cannot fetch, and CORE_EPC 0x7FFC, and an asynchronous exception
that is pending stays pending (R132). -/
def Obligations.LastWordRaises : Prop :=
  ∀ (s : State) (c : Nat), (s.core c).pc = 0x7FFC →
    let ends (i : Instr) (f : Core → Core) : Prop := Completes i s (fun t => t = (s.modCore c f).raiseSync c 0x04 0x8000 ∧
      t.cget c cEpc = 0x7FFC ∧ (t.core c).async = (s.core c).async ∧ OnlyCore s t c ∧
      (s.cget c cInh = 0 → t.cget c cExcCause = 0x04 ∧ t.cget c cExcInfo = 0x8000 ∧ (t.core c).mode = .frozen))
    (∀ (d a b : Fin 32), ∀ e ∈ aluTable, Ready s c [d, a, b] [] →
      ends (e.1 c d a b) (fun k => k.setS d (e.2 (k.sreg a) (k.sreg b)))) ∧
    (∀ (d a : Fin 32) (imm : BitVec 16), ∀ e ∈ immTable, Ready s c [d, a] [] →
      ends (e.1 c d a imm) (fun k => k.setS d (e.2 (k.sreg a) imm))) ∧
    (∀ (d a : Fin 32) (imm : BitVec 16), ∀ e ∈ loadTable,
      let n := e.2.1
      let o := (BitVec.ofInt 64 (((s.core c).sreg a).toNat + imm.toInt)).toNat
      Ready s c [d, a] [] → o % n = 0 → o ≤ 0x7FFF → (s.core c).extFree [(o, n)] [] = true → s.spadPoison c o n = none →
      ends (e.1 c d a imm) (fun k => k.setS d (extended n e.2.2 (s.spadNat c o n)))) ∧
    (∀ (d a : Fin 32) (imm : BitVec 16), ∀ e ∈ storeTable,
      let n := e.2
      let o := (BitVec.ofInt 64 (((s.core c).sreg a).toNat + imm.toInt)).toNat
      Ready s c [d, a] [] → o % n = 0 → o ≤ 0x7FFF → (s.core c).extFree [] [(o, n)] = true →
      exec (e.1 c d a imm) s = .next ((s.setSpad c o (bytesLE n ((s.core c).sreg d).toNat)).raiseSync c 0x04 0x8000)) ∧
    (∀ (a b : Fin 32) (off : BitVec 16), ∀ e ∈ branchTable, Ready s c [a, b] [] →
      e.2 ((s.core c).sreg a) ((s.core c).sreg b) = false →
      exec (e.1 c a b off) s = .next (s.raiseSync c 0x04 0x8000)) ∧
    (∀ (d a b : Fin 16), ∀ p ∈ vectorTable, Ready s c [] [d, a, b] → ends (p.1 c d a b)
      (fun k => k.setV d (Vector.ofFn (fun i : Fin 32 => p.2 (k.vreg a)[i] (k.vreg b)[i])))) ∧
    (∀ (d : Fin 32) (k : Fin 16), Ready s c [d] [] → ends (.cntrd c d k)
      (fun y => y.setS d (BitVec.ofNat 64 (y.ctr k).toNat))) ∧
    (Ready s c [] [] → exec (.fenceI c) s = .next (s.raiseSync c 0x04 0x8000))

/-! ## Control caches (07) -/

/-- The commands of a maintenance slot with the operation code of CCX_CMOCTL (R249). -/
def cmoTable : List ((Nat → Word → Instr) × Nat) := [(.cmoClean, 1), (.cmoInvalidate, 2), (.cmoCleanInvalidate, 3)]

/-- A start at a free slot with a populated range sets busy, clears done, wb and dropped, and holds the lines of
[addr, addr + len), or every line with all = 1; a start at a busy slot only sets rej; one with no range or a range outside
populated S-space only sets err. When the operation is done busy is clear and done set; invalidate removes the lines of the
range and writes no memory, clean leaves no dirty line in it (R249, R250, R252). A line that control cores have accessed since
the start may be passed over (R251). -/
def CacheMaintenanceRule : Prop :=
  ∀ (s : State) (c : Nat) (w : Word), c < 16 → bitsOf w 0 0 = 1 → setsReserved (cmoCtl c) w = false → s.get fBootMode ≠ 4 →
    let a := 64 * s.get (fCmoAddr c)
    let n := 64 * s.get (fCmoLen c)
    let begun (lo hi op : Nat) : State :=
      { (((s.set (fCmoBusy c) 1).set (fCmoDone c) 0).set (fCmoWb c) 0).set (fCmoDropped c) 0 with
        cmo := smInsert s.cmo c ⟨op, lo, hi, []⟩ }
    (∀ e ∈ cmoTable, bitsOf w 2 1 = e.2 →
      (s.get (fCmoBusy c) = 0 → bitsOf w 3 3 = 0 → n ≠ 0 → s.populated a n = true →
        exec (e.1 c w) s = .next (begun (a / 64) ((a + n) / 64) e.2)) ∧
      (s.get (fCmoBusy c) = 0 → bitsOf w 3 3 = 1 → exec (e.1 c w) s = .next (begun 0 (2 ^ 42) e.2)) ∧
      (s.get (fCmoBusy c) = 1 → exec (e.1 c w) s = .next (s.set (fCmoRej c) 1)) ∧
      (s.get (fCmoBusy c) = 0 → bitsOf w 3 3 = 0 → n = 0 ∨ s.populated a n = false →
        exec (e.1 c w) s = .next (s.set (fCmoErr c) 1))) ∧
    (∀ m, smLookup s.cmo c = some m → m.op = 2 → m.touched = [] → Completes (.cmoDone c) s (fun t =>
      t.lines = s.lines.filter (fun x => !(decide (m.lo ≤ x.1 ∧ x.1 < m.hi))) ∧ t.mem = s.mem ∧ smLookup t.cmo c = none ∧
      t.cores = s.cores ∧ t.bks = s.bks)) ∧
    (∀ m, smLookup s.cmo c = some m → m.op = 3 → m.touched = [] → smSorted s.lines = true →
      (∀ x ∈ s.lines, m.lo ≤ x.1 → x.1 < m.hi → s.lineWaits x.1 true = false) → Completes (.cmoDone c) s (fun t =>
      (∀ x ∈ t.lines, ¬(m.lo ≤ x.1 ∧ x.1 < m.hi)) ∧ (∀ l, (l < m.lo ∨ m.hi ≤ l) → t.line l = s.line l) ∧
      smLookup t.cmo c = none ∧ t.cores = s.cores)) ∧
    (∀ m, smLookup s.cmo c = some m → m.op = 1 → m.touched = [] → smSorted s.lines = true →
      (∀ x ∈ s.lines, m.lo ≤ x.1 → x.1 < m.hi → s.lineWaits x.1 true = false) → Completes (.cmoDone c) s (fun t =>
      (∀ x ∈ t.lines, m.lo ≤ x.1 → x.1 < m.hi → x.2.dirty = false) ∧
      (∀ l, (l < m.lo ∨ m.hi ≤ l) → t.line l = s.line l) ∧ smLookup t.cmo c = none ∧ t.cores = s.cores))

/-- What the decoder answers for the burst of a storage address: its 256 bytes, or none where it is uncorrectable (08 R271). -/
def readsAs (s : State) (key : Nat) : Option (List Byte) :=
  match s.burstCond key (s.physCh key) with
  | .clean => some (s.decoded key [])
  | .corrected e => some (s.decoded key e)
  | .uncorrectable _ => none

/-- In t the burst of `key` holds `old` but for the bytes from `key` on, which are `bs`; every other byte of memory is as in
s. -/
def BurstPart (s t : State) (key : Nat) (old bs : List Byte) : Prop :=
  let base := key / 256 * 256
  (∀ i, (h : i < bs.length) → t.byte (key + i) = bs[i]) ∧
  (∀ i < 256, (base + i < key ∨ key + bs.length ≤ base + i) → t.byte (base + i) = old.getD i 0) ∧
  (∀ a, (a < base ∨ base + 256 ≤ a) → t.byte a = s.byte a) ∧ t.dev key = []

/-- A control core's fill of an uncached line installs 64 clean bytes of the burst, or the line marked poison where the burst
is uncorrectable; its store makes a cached line dirty; a write-back of a dirty line puts its 64 bytes into memory and
no other byte, and leaves it clean, and an eviction removes it; a load from a poison line traps with the address (R246, R247,
R257). -/
def CacheLinesRule : Prop :=
  ∀ (s : State) (addr : Nat),
    let l := addr / 64
    let key := s.lineKey l
    s.lineServes l = true →
    (s.cro.running = true → s.line l = none → s.lines.length < 196608 → s.lineWaits l false = false →
      s.burstCond key (s.physCh key) = .clean → exec (.controlCacheFill addr []) s =
        .next ((s.touchLine l).putLine l ⟨((s.decoded key []).drop (64 * l % 256)).take 64, false, false⟩)) ∧
    (∀ old, s.cro.running = true → s.line l = none → s.lines.length < 196608 → s.lineWaits l false = false →
      readsAs s key = some old → Completes (.controlCacheFill addr []) s (fun t =>
        t.line l = some ⟨(old.drop (64 * l % 256)).take 64, false, false⟩ ∧ t.mem = s.mem ∧
        ∀ l', l' ≠ l → t.line l' = s.line l')) ∧
    (s.cro.running = true → s.line l = none → s.lines.length < 196608 → s.lineWaits l false = false →
      readsAs s key = none → Completes (.controlCacheFill addr []) s (fun t =>
        (∃ x, t.line l = some x ∧ x.poison = true ∧ x.dirty = false) ∧ t.mem = s.mem)) ∧
    (∀ x o b, s.cro.running = true → s.line l = some x → x.poison = false → o < 64 →
      exec (.controlCacheFill addr [(o, b)]) s =
        .next ((s.putLine l { x with data := x.data.set o b, dirty := true }).touchLine l)) ∧
    (∀ x evict old, s.line l = some x → x.dirty = true → x.data.length = 64 → s.get fBootMode ≠ 4 →
      s.lineWaits l true = false → readsAs s key = some old → Completes (.controlCacheWriteback addr evict) s (fun t =>
        BurstPart s t key old x.data ∧
        (evict = true → t.line l = none) ∧ (evict = false → t.line l = some { x with dirty := false, poison := false }) ∧
        (∀ l', l' ≠ l → t.line l' = s.line l') ∧ t.cores = s.cores)) ∧
    (∀ x, s.line l = some x → x.poison = true → s.cro.running = true →
      exec (.poisonLineTrap addr) s = .next (s.emit "control-core-trap" [1, addr] []))

/-- Errors of the control complex: a correctable one is counted; an error in an instruction line is contained with event 0x0A;
an error in a dirty data line, a tag, a directory entry or a coherence message, and a control core that answers no probe, are
uncontained: CCX_DOMST takes cause 0x01, 0x02, 0x04 or 0x03 and the core, and the package enters its safe state. A clean data
line is dropped, with event 0x0A, and filled again (R258, R259). -/
def ControlComplexErrorsRule : Prop :=
  ∀ (s : State) (addr : Nat),
    let l := addr / 64
    s.cro.running = true →
    let down (cause dead : Nat) : State := ((s.set fDomCause cause).set fDomDead dead).enterSafe none (256 + cause)
    exec (.controlCacheError 0 addr) s = .next (s.addSat fDomCe 1) ∧
    exec (.controlCacheError 2 addr) s = .next (s.raiseG 16 0x0A (packW [(64 * l, 0), (2, 48)])) ∧
    (s.inSafe = false → exec (.controlCacheError 3 addr) s = .next (down 2 0) ∧
      exec (.controlCacheError 4 addr) s = .next (down 4 0)) ∧
    (∀ x, s.inSafe = false → s.line l = some x → x.dirty = true → exec (.controlCacheError 1 addr) s = .next (down 1 0)) ∧
    (∀ x, s.line l = some x → x.dirty = false → s.lineServes l = true → s.lineWaits l false = false →
      Completes (.controlCacheError 1 addr) s (fun t =>
      (∃ y, t.line l = some y ∧ y.dirty = false) ∧ (∀ l', l' ≠ l → t.line l' = s.line l'))) ∧
    (∀ p, p < 18 → s.get fDomActive / 2 ^ p % 2 = 1 → s.inSafe = false →
      exec (.directoryProbeTimeout p) s = .next (down 3 p))

/-- The control complex: cache maintenance, cached lines, errors (07). -/
def Obligations.ControlComplex : Prop := CacheMaintenanceRule ∧ CacheLinesRule ∧ ControlComplexErrorsRule

/-! ## Memory stacks (08) -/

/-- A read of a burst in service returns its 256 bytes where the burst is clean or correctable, and counts a correctable one; an
uncorrectable burst gives poison, is counted and waits for its tenants' copies, and where it is the poison pattern nothing but
event 0x20 follows; a write of a whole burst replaces its bytes and clears its condition; a part of a burst is written as one
indivisible read-modify-write that changes its own bytes alone, and writes nothing where the burst is uncorrectable; an address
outside populated S-space answers an address error (R231, R271, R278, R296, R297). -/
def StackReadsAndWritesRule : Prop :=
  ∀ (s : State) (addr : Nat), s.get fBootMode ≠ 4 →
    (s.stackReach addr = none → (∀ src errs, exec (.stackRead addr src errs) s = .next (s.emit "address-error" [addr] [])) ∧
      ∀ bs, exec (.stackWrite addr bs) s = .next (s.emit "address-error" [addr] [])) ∧
    (∀ t a, s.stackReach addr = some (t, a) → s.stackKey t a / 2 ^ 38 = t →
      let key := s.stackKey t a
      let p := s.physCh key
      (∀ src errs, s.stackWaits key = false →
        let v := s.addErrors key errs
        (v.burstCond key p = .clean →
          exec (.stackRead addr src errs) s = .next (v.emit "stack-read" [addr] (v.decoded key []))) ∧
        (∀ e, v.burstCond key p = .corrected e → Completes (.stackRead addr src errs) s (fun u =>
          u.out.getLast? = some ⟨"stack-read", [addr], v.decoded key e⟩ ∧ u.mem = s.mem ∧ u.badBursts = v.badBursts ∧
          u.get (fChCe t p) = (s.addSat (fChCe t p) 1).get (fChCe t p) ∧ u.cores = s.cores)) ∧
        (v.burstCond key p = .uncorrectable true →
          let told := (v.addSat (fChUe t p) 1).raiseStk 16 0x20 t p 0x1F (s.burstAddr key) (s.physLayer key) src true
          let u : State := { told with ueWait := s.ueWait ++ [⟨t, p, s.burstAddr key, s.physLayer key, src, true, s.tick32⟩] }
          exec (.stackRead addr src errs) s = .next (u.emit "stack-poison" [addr] [])) ∧
        (v.burstCond key p = .uncorrectable false → Completes (.stackRead addr src errs) s (fun u =>
          u.out.getLast? = some ⟨"stack-poison", [addr], []⟩ ∧ u.mem = s.mem ∧
          u.ueWait = s.ueWait ++ [⟨t, p, s.burstAddr key, s.physLayer key, src, false, s.tick32⟩] ∧
          u.get (fChUe t p) = (s.addSat (fChUe t p) 1).get (fChUe t p) ∧ u.cores = s.cores))) ∧
      (∀ bs : List Byte, bs.length = 256 → a % 256 = 0 → a + 256 ≤ s.stackBytes → s.runWaits t a bs.length true = false →
        Completes (.stackWrite addr bs) s (fun u => u.dev key = [] ∧
          (∀ i, (h : i < bs.length) → u.byte (key + i) = bs[i]) ∧
          (∀ x, (x < key ∨ key + 256 ≤ x) → u.byte x = s.byte x) ∧ u.regs = s.regs ∧ u.cores = s.cores)) ∧
      (∀ bs : List Byte, 0 < bs.length → a + bs.length ≤ s.stackBytes → a / 2 ^ 20 = (a + bs.length - 1) / 2 ^ 20 →
        s.runWaits t a bs.length true = false →
        (∀ o < a % 256 + bs.length, s.burstCond (s.stackKey t (a / 256 * 256 + o)) (s.physCh (s.stackKey t (a / 256 * 256 + o))) = .clean) →
        Completes (.stackWrite addr bs) s (fun u => (∀ i, (h : i < bs.length) → u.byte (key + i) = bs[i]) ∧
          (∀ x, (x < key / 256 * 256 ∨ (key + bs.length + 255) / 256 * 256 ≤ x) → u.byte x = s.byte x) ∧
          u.regs = s.regs ∧ u.cores = s.cores)) ∧
      (∀ (bs old : List Byte), 0 < bs.length → bs.length < 256 → a % 256 + bs.length ≤ 256 → a + bs.length ≤ s.stackBytes →
        s.runWaits t a bs.length true = false → readsAs s key = some old →
        Completes (.stackWrite addr bs) s (fun u => BurstPart s u key old bs ∧ u.cores = s.cores ∧
          (s.burstCond key p = .clean → u.regs = s.regs))) ∧
      (∀ bs : List Byte, 0 < bs.length → bs.length < 256 → a % 256 + bs.length ≤ 256 → a + bs.length ≤ s.stackBytes →
        s.runWaits t a bs.length true = false → readsAs s key = none → Completes (.stackWrite addr bs) s (fun u =>
          u.mem = s.mem ∧ u.badBursts = s.badBursts ∧ u.out.getLast? = some ⟨"stack-poison", [addr], []⟩)))

/-- The oldest report of an uncorrectable burst goes to every tenant whose entries map it and leaves the wait; a corrected
burst that awaits its write-back gets it, one whose erased pin's symbols alone differed awaits none; a patrol scrub of a clean burst changes nothing and of a
correctable one writes it back; a refresh changes nothing (R276, R277, R280, R296). -/
def StackUpkeepRule : Prop :=
  ∀ (s : State),
    (∀ r l, s.get fBootMode ≠ 4 → s.ueWait = r :: l → Completes .ueTenantCopy s (fun t => t.ueWait = l ∧ t.mem = s.mem ∧ t.cores = s.cores ∧
      ((∀ u < 16, ∀ e < 128, ∀ x, s.trnEntry u e = some x → ¬(x.tgt ≤ r.addr ∧ r.addr < x.tgt + (x.hi - x.lo))) →
        t = { s with ueWait := l }))) ∧
    (∀ addr t a e, s.place addr = .stack t a →
      let key := s.stackKey t a
      s.burstCond key (s.physCh key) = .corrected e → s.stackOut t = false → (s.stack t).fixes.contains (key / 256) = true →
      s.writeWaits key = false → t < 48 → Completes (.stackCorrectWriteback addr) s (fun u =>
        BurstPart s u (key / 256 * 256) (s.decoded key e) (s.decoded key e) ∧ u.regs = s.regs ∧ u.cores = s.cores)) ∧
    (∀ addr t a, s.place addr = .stack t a → (s.stack t).fixes.contains (s.stackKey t a / 256) = false →
      exec (.stackCorrectWriteback addr) s = .next s) ∧
    (∀ addr t a errs, s.stackReach addr = some (t, a) → s.stackKey t a / 2 ^ 38 = t →
      let key := s.stackKey t a
      let v := s.addErrors key errs
      let p := s.physCh key
      s.writeWaits key = false → (s.stack t).fixes.contains (key / 256) = false →
      (v.burstCond key p = .clean → exec (.patrolScrub addr errs) s = .next v) ∧
      (∀ e, v.burstCond key p = .corrected e → Completes (.patrolScrub addr errs) s (fun u =>
        u.get (fChCe t p) = (s.addSat (fChCe t p) 1).get (fChCe t p) ∧ u.cores = s.cores ∧
        (∀ x, (x < key / 256 * 256 ∨ key / 256 * 256 + 256 ≤ x) → u.byte x = s.byte x))) ∧
      (∀ pp, v.burstCond key p = .uncorrectable pp → exec (.patrolScrub addr errs) s = .next (v.reportUe key p 0x4 pp))) ∧
    (∀ t layer, exec (.stackRefresh t layer) s = .next s)

/-- Memory stacks: reads and writes, and their upkeep (08). -/
def Obligations.StackAccess : Prop := StackReadsAndWritesRule ∧ StackUpkeepRule

/-- Training: a channel that meets a condition of R284 becomes due; in the guard band's window a group of at most eight due
channels is held; at its end the hold is gone and its channels are trained at the present base temperature; a channel due for
64 ticks raises event 0x24 (R284 to R286). -/
def StackTrainingRule : Prop :=
  ∀ (s : State) (t p : Nat), t < 48 → p < 136 →
    (s.get (fChDue t p) = 0 → s.chDue t p = true → exec (.retrainDue t p) s = .next
      ((s.set (fChDue t p) 1).modStack t (fun k => { k with dueAt := smInsert k.dueAt p s.seq.count }))) ∧
    (∀ ps, ps ≠ [] → ps.length ≤ 8 → s.get fTsqPhase = 4 → s.get fTsqExt = 0 → s.get fTsqToff + 40 ≤ s.get fTsqT →
      (s.stack t).held = [] → s.sweepDue = false → (∀ q ∈ ps, q < 136 ∧ s.get (fChDue t q) = 1) →
      exec (.retrainGroup t ps) s = .next (s.modStack t (fun k => { k with held := ps }))) ∧
    (∀ found, p ∈ (s.stack t).held → Completes (.retrainGroupDone t found) s (fun u => (u.stack t).held = [] ∧
      u.get (fChDue t p) = 0 ∧
      u.get (fChTtrain t p) = ((signed16 (s.get (fStkTbase t)) / 64) % 256).toNat ∧ u.mem = s.mem ∧ u.cores = s.cores ∧
      (∀ t', t' ≠ t → u.stack t' = s.stack t'))) ∧
    (∀ n, smLookup (s.stack t).dueAt p = some n → s.get (fChDue t p) = 1 → n + 64 ≤ s.seq.count →
      exec (.retrainingOverdue t p) s = .next ((s.raiseStk 16 0x24 t p 0x1F 0 0x1F 0 false).modStack t
        (fun k => { k with dueAt := smErase k.dueAt p })))

/-- Repairs: a channel repair takes the lowest free spare channel as its target, a layer repair the spare layer, and the stack
stands in repair; a burst of the source is copied, and counted, one by one, or filled with the poison pattern where the source
is dead; at the end the stack is in service, the repair gone, and reads go to the target (R289 to R293). -/
def StackRepairsRule : Prop :=
  ∀ (s : State) (t : Nat), t < 48 →
    (∀ c p, c < 128 → s.get (fStkState t) < 4 → (s.stack t).repair = none → s.freeSpare t = some p →
      s.get (fStkIlv t c) < 136 → s.get (fStkIlv t c) ≠ p → Completes (.channelRepair t c false) s (fun u =>
        (u.stack t).repair = some ⟨false, c, s.get (fStkIlv t c), p, false, [], []⟩ ∧ u.get (fStkState t) = 2 ∧
        u.get (fStkRkind t) = 1 ∧ u.get (fStkUnit t) = c ∧ u.get (fStkCopied t) = 0 ∧ u.get (fChState t p) = 2 ∧
        u.get (fStkIlv t c) = p ∧ u.mem = s.mem ∧ u.badBursts = s.badBursts)) ∧
    (∀ l, l < 16 → s.get (fStkState t) < 4 → (s.stack t).repair = none → s.get (fStkSpareFor t) = 0x1F →
      (s.stack t).spareBad = false →
      Completes (.layerRepair t l false) s (fun u => (u.stack t).repair = some ⟨true, l, l, 16, false, [], []⟩ ∧
        u.get (fStkState t) = 2 ∧ u.get (fStkRkind t) = 2 ∧ u.get (fStkUnit t) = l ∧ u.mem = s.mem)) ∧
    (∀ r, (s.stack t).repair = some r → s.get (fStkCopied t) < s.get (fStkTotal t) →
      let key := repairKey t r (s.get (fStkCopied t))
      s.copyHeld t r key = false →
      (r.dead = false → s.burstCond key (s.physCh key) = .clean →
        exec (.repairCopyBurst t) s = .next ((s.rebase key (s.decoded key [])).set (fStkCopied t) (s.get (fStkCopied t) + 1))) ∧
      (r.dead = true → key / 256 ∉ r.wrote →
        exec (.repairCopyBurst t) s = .next ((s.putPoison key).set (fStkCopied t) (s.get (fStkCopied t) + 1)))) ∧
    (∀ r, (s.stack t).repair = some r → s.get (fStkTotal t) ≤ s.get (fStkCopied t) → (s.stack t).queue = [] →
      r.poisoned = [] → s.stackOut t = false → Completes (.repairCopyDone t) s (fun u => (u.stack t).repair = none ∧ u.get (fStkState t) = 1 ∧
        u.get (fStkRkind t) = 0 ∧ u.mem = s.mem ∧
        (r.layer = true → u.get (fStkSpareFor t) = r.unit % 32) ∧
        (r.layer = false → r.old < 136 → r.spare < 136 → r.old ≠ r.spare →
          u.get (fChState t r.old) = 4 ∧ u.get (fChState t r.spare) = 1)))

/-- Memory stacks: training and repair (08). -/
def Obligations.StackTrainingAndRepair : Prop := StackTrainingRule ∧ StackRepairsRule

/-- Retirement: an entry with valid = 1 that names two populated granules, different and in no valid entry, is accepted, with
fill set; it is refused with event 0x07 where the entry is valid already, a granule is not populated, or one is named. When the
fill ends every burst of the replacement holds the poison pattern and the entry is in force (R299, R300). -/
def Obligations.GranuleRetirement : Prop :=
  ∀ (s : State) (t k : Nat) (w : Word), s.get fBootMode ≠ 4 → t < 48 → k < s.retEntries →
    let g := bitsOf w 17 0
    let g' := bitsOf w 49 32
    let addr := 0x200000000000 + stkRet t k
    (bitsOf w 61 50 = 0 → bitsOf w 31 18 = 0 → bitsOf w 63 63 = 1 →
      (s.get (fRetValid t k) = 1 → exec (.stkRetWrite t k w) s = .next (s.refuseWrite addr 2)) ∧
      (s.get (fRetValid t k) = 0 → s.granules ≤ g ∨ s.granules ≤ g' →
        exec (.stkRetWrite t k w) s = .next (s.refuseWrite addr 1)) ∧
      (s.get (fRetValid t k) = 0 → g < s.granules → g' < s.granules →
        g = g' ∨ s.granuleNamed t g = true ∨ s.granuleNamed t g' = true →
        exec (.stkRetWrite t k w) s = .next (s.refuseWrite addr 3)) ∧
      (s.get (fRetValid t k) = 0 → g < s.granules → g' < s.granules → g ≠ g' → s.granuleNamed t g = false →
        s.granuleNamed t g' = false → exec (.stkRetWrite t k w) s = .next
          (((((s.set (fRetRepl t k) g').set (fRetRetired t k) g).set (fRetFill t k) 1).set (fRetValid t k) 1).setDerate t))) ∧
    (s.get (fRetFill t k) = 1 → s.granuleBusy t (s.get (fRetRetired t k)) = false →
      s.granuleBusy t (s.get (fRetRepl t k)) = false → Completes (.retirementFillDone t k) s (fun u =>
        u.get (fRetFill t k) = 0 ∧ u.get (fRetValid t k) = s.get (fRetValid t k) ∧
        (∀ i < 4096, u.dev (t * 2 ^ 38 + s.get (fRetRepl t k) * 2 ^ 20 + 256 * i) = poisonDev) ∧
        (∀ i < 2 ^ 20, u.byte (t * 2 ^ 38 + s.get (fRetRepl t k) * 2 ^ 20 + i) = 0) ∧ u.cores = s.cores))

/-! ## Translation and faults (09) -/

/-- TRN_WRITE with no update in progress checks the staged entry in the order of R308: length, permission, overlap with
another entry of the context, the target's place, whom it belongs to, and what a commons target allows; the first that
fails is the code, and nothing is written. An entry that passes is written with its fields, the commons bit shows its
class, and the update is busy until the old range is clear. TRN_CLEAR empties an entry likewise. A write while busy has
code 0x6, a malformed one 0x8 (R308, R312, R313). -/
def Obligations.RangeTranslation : Prop :=
  ∀ (s : State) (w : Word), s.get fBootMode ≠ 4 →
    let c := bitsOf w 20 16
    let e := bitsOf w 14 8
    let lo := 4096 * bitsOf (s.rd (trnStg 0)) 47 12
    let pages := bitsOf (s.rd (trnStg 1)) 35 0
    let a := 4096 * bitsOf (s.rd (trnStg 2)) 47 12
    let perm (b : Nat) := bitsOf (s.rd (trnStg 2)) b b
    let good := bitsOf w 63 21 = 0 ∧ bitsOf w 15 15 = 0 ∧ bitsOf w 7 2 = 0 ∧ c < 24
    let refused (i : Instr) (code : Nat) := exec i s = .next ((s.set fTrnCode code).set fTrnErr 1)
    let long := pages ≠ 0 ∧ lo + 4096 * pages ≤ 2 ^ 48
    let allowed := perm 0 = 1 ∨ perm 1 = 1 ∨ perm 2 = 1
    let overlap := ∃ i < 128, i ≠ e ∧ ∃ x, s.trnEntry c i = some x ∧ x.lo < lo + 4096 * pages ∧ lo < x.hi
    let cls := s.ctxTgt c a (4096 * pages)
    -- apart from its registers, a written entry has good data again, and its old range is kept for the update
    let fresh (t : State) := { s.sramWritten (0x200000000000 + trnE c e 0) 24 with trnUpd := t.trnUpd }
    (bitsOf w 1 0 = 1 → s.get fTrnBusy = 1 → refused (.trnWrite w) 0x6) ∧
    (bitsOf w 1 0 = 1 → s.get fTrnBusy = 0 → ¬good → refused (.trnWrite w) 0x8) ∧
    (bitsOf w 1 0 = 1 → s.get fTrnBusy = 0 → good →
      (¬long → refused (.trnWrite w) 0x5) ∧
      (long → ¬allowed → refused (.trnWrite w) 0x7) ∧
      (long → allowed → overlap → refused (.trnWrite w) 0x1) ∧
      (long → allowed → ¬overlap → s.tgtWhole a (4096 * pages) = false → refused (.trnWrite w) 0x2) ∧
      (long → allowed → ¬overlap → s.tgtWhole a (4096 * pages) = true → cls = .foreign → refused (.trnWrite w) 0x3) ∧
      (long → allowed → ¬overlap → s.tgtWhole a (4096 * pages) = true → cls = .commons → (perm 1 = 1 ∨ perm 2 = 1) →
        refused (.trnWrite w) 0x4) ∧
      (long → allowed → ¬overlap → s.tgtWhole a (4096 * pages) = true →
        (cls = .own ∨ cls = .commons ∧ perm 1 = 0 ∧ perm 2 = 0) → Completes (.trnWrite w) s (fun t =>
          t.get (fTrnValid c e) = 1 ∧ 4096 * t.get (fTrnDva c e) = lo ∧ t.get (fTrnPages c e) = pages ∧
          4096 * t.get (fTrnTgt c e) = a ∧ t.get (fTrnR c e) = perm 0 ∧ t.get (fTrnW c e) = perm 1 ∧
          t.get (fTrnA c e) = perm 2 ∧ (t.get (fTrnCommons c e) = 1 ↔ cls = .commons) ∧ t.get fTrnBusy = 1 ∧
          t.get fTrnDone = 0 ∧ t.get fTrnCode = 0 ∧ t.trnUpd = (s.trnEntry c e).map (fun x => (c, x.lo, x.hi)) ∧
          OnlyRegs (fresh t) t [trnE c e 0, trnE c e 1, trnE c e 2, trnCmdSt]))) ∧
    (bitsOf w 1 0 = 2 → s.get fTrnBusy = 1 → refused (.trnClear w) 0x6) ∧
    (bitsOf w 1 0 = 2 → s.get fTrnBusy = 0 → ¬good → refused (.trnClear w) 0x8) ∧
    (bitsOf w 1 0 = 2 → s.get fTrnBusy = 0 → good → Completes (.trnClear w) s (fun t =>
      t.get (fTrnValid c e) = 0 ∧ t.get fTrnBusy = 1 ∧ t.get fTrnDone = 0 ∧
      t.trnUpd = (s.trnEntry c e).map (fun x => (c, x.lo, x.hi)) ∧
      OnlyRegs (fresh t) t [trnE c e 0, trnE c e 1, trnE c e 2, trnCmdSt])) ∧
    (s.get fTrnBusy = 1 → s.trnPending = false → Completes .trnUpdateDone s (fun t =>
      t.get fTrnBusy = 0 ∧ t.get fTrnDone = 1 ∧ t.trnUpd = none ∧ OnlyRegs { s with trnUpd := none } t [trnCmdSt])) ∧
    (s.trnPending = true → exec .trnUpdateDone s = .next s)

/-- A fault record goes into its queue at prod, oldest first; with 256 records unread it is counted in ovf, a task's record
then stays pending with the task, and one that cannot be kept is lost. Moving cons beyond prod changes nothing and raises
event 0x01; moving it on with records pending raises event 0x05. A push moves the task's oldest pending record, marked
late, into the queue; a sweep that finds room for all pushes every pending record of the queue's Parked tasks (R321 to R327,
R335). -/
def FaultQueuesRule : Prop :=
  ∀ (s : State) (u : Nat), u ≤ 16 →
    (∀ x rest, s.faultWait.find? (fun y => y.queue == u) = some x → x.words.length = 8 → rest = s.faultWait.erase x →
      (s.faultUsed u < 256 → Completes (.faultRecordWrite u) s (fun t =>
        (∀ i, (h : i < x.words.length) → t.rd (fltRec u (s.get (fFltProd u) % 256) i) = x.words[i]) ∧
        t.get (fFltProd u) = (s.get (fFltProd u) + 1) % 2 ^ 32 ∧ t.faultWait = rest ∧ t.mem = s.mem ∧ t.cores = s.cores ∧
        t.tasks = s.tasks)) ∧
      (256 ≤ s.faultUsed u → x.kept = false → Completes (.faultRecordWrite u) s (fun t =>
        t.get (fFltOvf u) = min (s.get (fFltOvf u) + 1) 65535 ∧ t.get (fFltNkLost u) = min (s.get (fFltNkLost u) + 1) 65535 ∧
        t.get (fFltProd u) = s.get (fFltProd u) ∧ t.faultWait = rest ∧ t.tasks = s.tasks)) ∧
      (∀ k < 1024, 256 ≤ s.faultUsed u → x.kept = true → x.task = some k → Completes (.faultRecordWrite u) s (fun t =>
        t.get (fFltOvf u) = min (s.get (fFltOvf u) + 1) 65535 ∧ (t.task k).pend = (s.task k).pend ++ [x.words] ∧
        t.flag (fTstFpend k) = true ∧ t.get (fFltPend u) = (s.get (fFltPend u) + 1) % 65536 ∧ t.faultWait = rest ∧
        t.get (fFltProd u) = s.get (fFltProd u)))) ∧
    (∀ w fw, bitsOf w 63 32 = 0 → (fw = true → s.get fBootMode ≠ 4) →
      let step := (bitsOf w 31 0 + 2 ^ 32 - s.get (fFltCons u)) % 2 ^ 32
      (s.faultUsed u < step → exec (.fltConsWrite u w fw) s =
        .next (s.reservedWrite (if fw = true then 16 else u) (0x200000000000 + fltBlk u + 0x08))) ∧
      (step ≤ s.faultUsed u → Completes (.fltConsWrite u w fw) s (fun t =>
        t.get (fFltCons u) = bitsOf w 31 0 ∧ t.get (fFltProd u) = s.get (fFltProd u) ∧ t.mem = s.mem ∧ t.tasks = s.tasks))) ∧
    (∀ k r rest, s.get fBootMode ≠ 4 → k < 1024 → s.loaded k = true → s.tdTenant k = u → s.faultUsed u < 256 → (s.task k).pend = r :: rest →
      r.length = 8 → Completes (.fltPush u (BitVec.ofNat 64 k)) s (fun t =>
        (∀ i, (h : i < r.length) → t.rd (fltRec u (s.get (fFltProd u) % 256) i) =
          if i = 0 then putBits r[i] 57 57 1 else r[i]) ∧
        t.get (fFltProd u) = (s.get (fFltProd u) + 1) % 2 ^ 32 ∧ (t.task k).pend = rest ∧
        t.flag (fTstFpend k) = !rest.isEmpty ∧ t.mem = s.mem)) ∧
    (∀ k, s.get fBootMode ≠ 4 → k < 65536 → (s.loaded k = false ∨ (s.task k).pend = [] ∨ 256 ≤ s.faultUsed u) →
      exec (.fltPush u (BitVec.ofNat 64 k)) s = .next (s.set (fFltPushErr u) 1)) ∧
    ((∀ k, (s.task k).pend = []) → exec (.faultSweep u) s = .next s) ∧
    (let ks := s.sweepOrder u
      let n := (ks.map (fun k => (s.task k).pend.length)).sum
      ks.Nodup → s.faultUsed u + n ≤ 256 → Completes (.faultSweep u) s (fun t =>
        (∀ k ∈ ks, (t.task k).pend = [] ∧ ((s.task k).pend ≠ [] → t.flag (fTstFpend k) = false)) ∧
        (∀ k, k ∉ ks → t.task k = s.task k) ∧ t.get (fFltProd u) = (s.get (fFltProd u) + n) % 2 ^ 32 ∧
        t.get (fFltCons u) = s.get (fFltCons u) ∧ t.mem = s.mem ∧ t.cores = s.cores)) ∧
    (∀ k, s.get fBootMode ≠ 4 → k < 1024 → s.sweepOrder u = [k] → s.flag (fTstFpend k) = true → s.faultUsed u < 256 → (s.task k).pend.length = 1 →
      exec (.faultSweep u) s = exec (.fltPush u (BitVec.ofNat 64 k)) s)

/-- Resolving the last fault of a Parked task before the guard band of its faulting tick lets it resume; dropped, or later, its
tick's work is lost and it becomes Idle. A number that no fault has sets rslverr. A task with a refusal is Parked once its
group is stopped; where its faults have all been resolved by then it may resume (R328 to R330; 10 R645). -/
def FaultResolutionRule : Prop :=
  ∀ (s : State) (u : Nat), u ≤ 16 →
    (∀ seq, s.get fBootMode ≠ 4 → s.faultTask u seq = none →
      exec (.fltResolveRetry u seq) s = .next (s.set (fFltRsErr u) 1) ∧
      exec (.fltResolveDrop u seq) s = .next (s.set (fFltRsErr u) 1)) ∧
    (∀ seq k, s.get fBootMode ≠ 4 → s.faultTask u seq = some k → (s.task k).open_.filter (fun x => x.1 != seq) ≠ [] →
      Completes (.fltResolveRetry u seq) s (fun t => (t.task k).open_ = (s.task k).open_.filter (fun x => x.1 != seq) ∧
        (t.task k).dropped = (s.task k).dropped ∧ { t with tasks := s.tasks } = s) ∧
      Completes (.fltResolveDrop u seq) s (fun t => (t.task k).open_ = (s.task k).open_.filter (fun x => x.1 != seq) ∧
        (t.task k).dropped = true ∧ { t with tasks := s.tasks } = s)) ∧
    (∀ seq k, s.get fBootMode ≠ 4 → s.faultTask u seq = some k →
      (s.task k).open_.filter (fun x => x.1 != seq) = [] → s.tstate k = 5 → k < 1024 →
      (s.get fTsqPhase < 4 → (s.task k).faultTick = s.get fTsqTick → (s.task k).dropped = false → (s.task k).discarded = false →
        Completes (.fltResolveRetry u seq) s (fun t => (t.task k).resumes = true ∧ t.tstate k = 5 ∧
          { t with tasks := s.tasks } = s)) ∧
      (4 ≤ s.get fTsqPhase → Completes (.fltResolveRetry u seq) s (fun t =>
        t.tstate k = 1 ∧ (t.task k).discarded = true ∧ t.mem = s.mem)) ∧
      Completes (.fltResolveDrop u seq) s (fun t => t.tstate k = 1 ∧ (t.task k).discarded = true ∧ t.mem = s.mem)) ∧
    (∀ k, k < 1024 → (s.task k).mustPark = true → (s.tstate k = 3 ∨ s.tstate k = 6) → (s.task k).open_ = [] →
      (s.task k).dropped = false → s.get fTsqPhase < 4 → Completes (.taskPark k) s (fun t =>
        t.tstate k = 5 ∧ (t.task k).resumes = true ∧ (t.task k).draining = true ∧ (t.task k).mustPark = false)) ∧
    (∀ k, k < 1024 → (s.task k).mustPark = true → (s.tstate k = 3 ∨ s.tstate k = 6) → (s.task k).open_ ≠ [] →
      Completes (.taskPark k) s (fun t =>
      t.tstate k = 5 ∧ (t.task k).mustPark = false ∧ (t.task k).draining = true ∧ (t.task k).faultTick = s.get fTsqTick ∧
      (∀ c ∈ s.holders k, (s.core c).mode = .running → (t.core c).mode = .stopped ∧ (t.core c).before = .running) ∧
      t.mem = s.mem))


/-- Faults: records in their queues, and their resolution (09). -/
def Obligations.Faults : Prop := FaultQueuesRule ∧ FaultResolutionRule

/-! ## The tick sequencer (10) -/

/-- Requests to the sequencer. A start with an admitted bank begins tick 0 with what the registers say in force; a stop waits
for the boundary. A period and a guard band that keep their limits, a margin and a step in range, wait for admission while a
bank runs, else for the boundary, and take effect at once while the sequencer stands; others change nothing. A swap request
whose standby bank fails its check shows the code. Admission decides the swap; a fall of capacity is rechecked (R337, R338,
R344, R359 to R364, R644). -/
def SequencerRequestsRule : Prop :=
  ∀ s : State,
    (s.get fTsqPhase = 5 → s.seq.bankOk = true → s.get fBootMode ≠ 4 → Completes .tickProgramStart s (fun t =>
      t.get fTsqRun = 1 ∧ t.get fTsqTick = 0 ∧ t.get fTsqToff = 0 ∧ t.get fTsqPhase = 0 ∧ t.get fTsqPc = 0 ∧
      t.get fTsqEnded = 0 ∧ t.get fTsqExt = 0 ∧ t.seq.phase = 0 ∧ t.seq.inGuard = false ∧ t.paused = s.pausedNow ∧
      (∀ p < 16, smGetD t.floors 0x55 p = (s.rd (grdFloor p)).toNat % 256) ∧ t.mem = s.mem ∧ t.tasks = s.tasks)) ∧
    (s.get fTsqPhase = 5 → s.seq.bankOk = false → exec .tickProgramStart s = .next s) ∧
    (s.get fTsqPhase ≠ 5 → Completes .tickProgramStop s (fun t => t.get fTsqRun = 0 ∧ t.seq = { s.seq with stopReq := true } ∧
      OnlyField { s with seq := t.seq } t fTsqRun)) ∧
    (s.get fTsqPhase = 5 → exec .tickProgramStop s = .next s) ∧
    (∀ w, s.get fBootMode ≠ 4 → bitsOf w 63 52 = 0 → bitsOf w 31 20 = 0 →
      let T := bitsOf w 19 0
      let G := bitsOf w 51 32
      let good := 1000 ≤ T ∧ T ≤ 1000000 ∧ T ≤ 50 * G ∧ 2 * G ≤ T
      (¬good → exec (.tsqPeriodWrite w) s = .next s) ∧
      (good → s.admits = true → Completes (.tsqPeriodWrite w) s (fun t =>
        t.seq = { s.seq with reqPeriod := some (T, G) } ∧ t.get fAdmBusy = 1 ∧ t.get fTsqT = s.get fTsqT)) ∧
      (good → s.admits = false → s.get fTsqPhase ≠ 5 → Completes (.tsqPeriodWrite w) s (fun t =>
        t.seq = { s.seq with pendPeriod := some (T, G) } ∧ t.get fTsqPend = 1 ∧ t.get fTsqT = s.get fTsqT)) ∧
      (good → s.admits = false → s.get fTsqPhase = 5 → Completes (.tsqPeriodWrite w) s (fun t =>
        t.get fTsqT = T ∧ t.get fTsqGuard = G ∧ t.get fTsqPend = 0))) ∧
    (∀ w, s.get fBootMode ≠ 4 → bitsOf w 63 16 = 0 → bitsOf w 7 4 = 0 →
      let m := bitsOf w 15 8
      let st := bitsOf w 3 0
      (50 < m ∨ 8 < st → exec (.tsqCfgWrite w) s = .next s) ∧
      (m ≤ 50 → st ≤ 8 → s.admits = true → Completes (.tsqCfgWrite w) s (fun t =>
        t.seq = { s.seq with reqCfg := some (m, st) } ∧ t.get fAdmBusy = 1)) ∧
      (m ≤ 50 → st ≤ 8 → s.admits = false → s.get fTsqPhase = 5 → Completes (.tsqCfgWrite w) s (fun t =>
        t.get fTsqMargin = m ∧ t.get fTsqStep = st ∧ t.get fTsqPend = 0))) ∧
    (let a := s.structureCheck (1 - s.get fTsqBank);
      s.get fBootMode ≠ 4 →
      (s.get fTsqSwap = 1 → exec .bankSwapRequest s = .next (s.refuseWrite (0x200000000000 + tsqCtrl) 4)) ∧
      (s.get fTsqSwap = 0 → a.code = 0 → Completes .bankSwapRequest s (fun t =>
        t.get fTsqSwap = 1 ∧ t.get fAdmBusy = 1 ∧ OnlyRegs s t [tsqCtrl, tsqAdm])) ∧
      (s.get fTsqSwap = 0 → a.code ≠ 0 → Completes .bankSwapRequest s (fun t => t.get fTsqSwap = 0 ∧
        t.get fAdmCode = a.code % 256 ∧ t.get fAdmPc = a.pc % 65536 ∧ t.get fAdmTask = a.task % 1024 ∧ t.get fAdmBusy = 0 ∧
        OnlyRegs s t [tsqAdm]))) ∧
    (let a := s.judgeBank (1 - s.get fTsqBank) s.nextEnv;
      s.get fTsqSwap = 1 → s.seq.swapOk = false →
      (a.code ≠ 0 → Completes .admission s (fun t => t.get fTsqSwap = 0 ∧ t.get fTsqBank = s.get fTsqBank ∧
        t.get fAdmCode = a.code % 256 ∧ t.seq = s.seq)) ∧
      (a.code = 0 → s.get fTsqPhase ≠ 5 → Completes .admission s (fun t => t.get fTsqBank = s.get fTsqBank ∧
        t.seq = { s.seq with swapOk := true, admHolds := true } ∧ t.get fAdmEnd = a.wEnd % 2 ^ 20)) ∧
      (a.code = 0 → s.get fTsqPhase = 5 → Completes .admission s (fun t => t.get fTsqBank = 1 - s.get fTsqBank ∧
        t.get fTsqSwap = 0 ∧ t.seq.bankOk = true))) ∧
    (∀ u rest, s.fell = u :: rest → s.get fTsqPhase ≠ 5 → s.seq.bankOk = true →
      Completes .admissionRecheck s (fun t => t.fell = rest ∧ t.mem = s.mem ∧ t.tasks = s.tasks ∧
        let v := { s with fell := rest }
        t.seq.admHolds = decide ((v.judgeBank (v.get fTsqBank) v.envNow).code = 0)))

/-- The moments of a tick. At the start of the guard band a task at work is an overrun: a Carried or a Bound one is aborted, a
Running one by its policy aborted, extended or carried; at the extension deadline one that still runs is aborted. The
boundary begins the next tick, or idle after a stop, and every task that has committed, aborted or not committed is Idle, but
for one carried into this tick; a mismatch mark outlives the tick with a carried task alone (R338, R343, R365 to R368; 06
R222). -/
def TickMomentsRule : Prop :=
  ∀ s : State, s.get fTsqPhase ≠ 5 → s.loadedTasks.Nodup →
    (s.seq.inGuard = false → s.get fTsqT - s.get fTsqGuard ≤ s.get fTsqToff → Completes .guardBandStart s (fun t =>
      t.get fTsqPhase = 4 ∧ { t.seq with cut := [] } = { s.seq with inGuard := true, cut := [] } ∧ t.mem = s.mem ∧
      ∀ k ∈ s.loadedTasks,
        (s.tstate k = 6 → t.tstate k = 7) ∧ (s.tstate k = 2 → t.tstate k = 7) ∧
        (s.tstate k = 3 → s.tdPolicy k = 0 → t.tstate k = 7 ∧ (t.task k).discarded = true) ∧
        (s.tstate k = 3 → s.tdPolicy k = 1 → t.tstate k = 3 ∧ (t.task k).extended = true ∧ t.get fTsqExt = 1) ∧
        (s.tstate k = 3 → s.tdPolicy k = 2 → t.tstate k = 6 ∧ (t.task k).carried = some (s.get fTsqTick)) ∧
        (s.tstate k = 5 → (t.task k).discarded = true ∧ t.tstate k = if s.hasOpen k then 5 else 1) ∧
        (s.tstate k = 1 ∨ s.tstate k = 4 ∨ s.tstate k = 7 ∨ s.tstate k = 8 → t.tstate k = s.tstate k))) ∧
    (s.seq.inGuard = true → s.seq.late = false → s.get fTsqT - (s.get fTsqGuard + 3) / 4 ≤ s.get fTsqToff →
      Completes .extensionDeadline s (fun t => t.seq = { s.seq with late := true } ∧ t.mem = s.mem ∧
        ∀ k ∈ s.loadedTasks, (s.task k).extended = true → s.tstate k = 3 → t.tstate k = 7)) ∧
    (s.get fTsqT ≤ s.get fTsqToff → Completes .tickBoundary s (fun t =>
      (s.seq.stopReq = false → t.get fTsqTick = (s.get fTsqTick + 1) % 2 ^ 64 ∧ t.get fTsqToff = s.get fTsqToff - s.get fTsqT ∧
        t.get fTsqPhase = 0 ∧ t.get fTsqPc = 0) ∧
      (s.seq.stopReq = true → t.get fTsqPhase = 5 ∧ t.get fTsqTick = s.get fTsqTick) ∧
      t.get fTsqEnded = 0 ∧ t.get fTsqExt = 0 ∧ t.seq.inGuard = false ∧ t.seq.committed = [] ∧ t.mem = s.mem ∧
      (∀ T G, s.seq.pendPeriod = some (T, G) → t.get fTsqT = T % 2 ^ 20 ∧ t.get fTsqGuard = G % 2 ^ 20) ∧
      ∀ k ∈ s.loadedTasks,
        t.flag (fTstMism k) = (s.flag (fTstMism k) && decide (t.tstate k = 4 ∨ t.tstate k = 6)) ∧
        (s.tstate k = 2 ∨ s.tstate k = 3 ∨ s.tstate k = 7 ∨ s.tstate k = 8 → t.tstate k = 1) ∧
        (s.tstate k = 4 ∨ s.tstate k = 6 →
          t.tstate k = if (s.task k).carried = some (s.get fTsqTick) then s.tstate k else 1) ∧
        (s.tstate k = 1 ∨ s.tstate k = 5 → t.tstate k = s.tstate k))) ∧
    (∀ o, s.seq.waitAt = some o → o ≤ s.get fTsqToff →
      exec .atOffsetReached s = .next { s with seq := { s.seq with waitAt := none } })

/-- The tick sequencer: requests and the moments of a tick (10). -/
def Obligations.SequencerMoments : Prop := SequencerRequestsRule ∧ TickMomentsRule

/-- The tick program's instructions: each advances the pc and has its effect; WAITT stays until its tasks are complete. RUN
binds an Idle task that is due; COMMIT commits the Done tasks that it covers, writes their records with the tick's number, and
aborts one with a shadow mismatch; MIRROR on the active package sends what has changed since the standby's last
acknowledgement, closed by frame 0x04 (17 R579, R580); SKIP passes over words on the residues that it does not name (R353 to R358). -/
def Obligations.TickProgram : Prop :=
  ∀ (s : State) (w : Word),
    let pc (t : State) (n : Nat) := t.get fTsqPc = (s.get fTsqPc + n) % 65536
    let only (t : State) (n : Nat) := pc t n ∧ OnlyRegs s t [tsqStat]
    (s.program? 0x01 = some w → Completes .phase s (fun t => pc t 1 ∧ t.seq = { s.seq with phase := bitsOf w 2 0 } ∧
      t.get fTsqPhase = (if s.seq.inGuard = true then s.get fTsqPhase else bitsOf w 2 0))) ∧
    (s.program? 0x02 = some w → Completes .ingest s (fun t => pc t 1 ∧ t.cuts = s.cuts ++ [bitsOf w 3 0] ∧
      t.get (fTsqIng (bitsOf w 3 0)) = (s.get (fTsqIng (bitsOf w 3 0)) + 1) % 2 ^ 32)) ∧
    (s.program? 0x03 = some w → Completes .runTask s (fun t => pc t 1 ∧
      t.tstate (bitsOf w 9 0) = if s.tstate (bitsOf w 9 0) = 1 ∧ s.dueNow (bitsOf w 9 0) = true then 2
        else s.tstate (bitsOf w 9 0))) ∧
    (s.program? 0x04 = some w →
      ((∀ k ∈ s.loadedTasks, bitsOf w 9 0 ≤ k → k ≤ bitsOf w 25 16 → s.complete k = true) →
        Completes .waitt s (fun t => only t 1)) ∧
      (∀ k ∈ s.loadedTasks, bitsOf w 9 0 ≤ k → k ≤ bitsOf w 25 16 → s.complete k = false → exec .waitt s = .next s)) ∧
    (s.program? 0x05 = some w → s.seq.phase = 3 → s.loadedTasks.Nodup → Completes .commitTasks s (fun t => pc t 1 ∧
      ∀ k ∈ s.loadedTasks, t.tstate k =
        if bitsOf w 9 0 ≤ k ∧ k ≤ bitsOf w 25 16 ∧ s.tstate k = 4 ∧ (s.task k).carried ≠ some (s.get fTsqTick) then
          (if s.flag (fTstMism k) = true then 7 else 8)
        else s.tstate k)) ∧
    (s.program? 0x05 = some w → s.seq.phase ≠ 3 → exec .commitTasks s = .next s) ∧
    (∀ k, s.program? 0x05 = some w → s.seq.phase = 3 → s.loadedTasks = [k] → bitsOf w 9 0 ≤ k → k ≤ bitsOf w 25 16 →
      s.tstate k = 4 → (s.task k).carried ≠ some (s.get fTsqTick) →
      (s.flag (fTstMism k) = true → Completes .commitTasks s (fun t => pc t 1 ∧ t.tstate k = 7 ∧ t.mem = s.mem)) ∧
      (s.flag (fTstMism k) = false → Completes .commitTasks s (fun t => pc t 1 ∧ t.tstate k = 8 ∧
        t.get (fTstCtick k) = s.tick32 ∧ t.seq.committed = s.seq.committed ++ [k] ∧
        (∀ a < 0x400000000000, t.byte a = s.byte a) ∧
        ∀ i < s.tdCcount k,
          let n := s.tdCfirst k + i
          let r := i / s.tdPercore k
          let c := (s.group k).getD r 0
          let o := s.tdCoff k + 1024 * (i % s.tdPercore k)
          let bs := (s.livePart k r c).bytes o 1024
          s.spadPoison c o 1024 = none → s.absent c = false → s.sramBad (recKey n) = false → recHead bs = recHead (s.bytes (recKey n) 3) →
            t.bytes (recKey n) 1024 = bs.take 8 ++ bytesLE 4 s.tick32 ++ bs.drop 12))) ∧
    (s.program? 0x06 = some w →
      (bitsOf w 19 0 ≤ s.get fTsqToff → Completes .atOffset s (fun t => only t 1)) ∧
      (s.get fTsqToff < bitsOf w 19 0 → Completes .atOffset s (fun t => pc t 1 ∧
        t.seq = { s.seq with waitAt := some (bitsOf w 19 0) } ∧ OnlyRegs { s with seq := t.seq } t [tsqStat]))) ∧
    (s.program? 0x07 = some w → Completes .skipIf s (fun t =>
      only t (if s.get fTsqTick % bitsOf w 15 0 = bitsOf w 31 16 then 1 else 1 + bitsOf w 41 32))) ∧
    (s.program? 0x08 = some w → exec .programEvent s =
      .next ((s.set fTsqPc (s.get fTsqPc + 1)).raiseSeq (bitsOf w 3 0) 0x37 0 0 0 0 (bitsOf w 31 16))) ∧
    (s.program? 0x09 = some w → s.get fTwnRole ≠ 1 ∨ s.paired = false → Completes .mirrorStart s (fun t => only t 1)) ∧
    (s.program? 0x09 = some w → s.get fTwnRole = 1 → s.paired = true →
      (∀ i ∈ s.mirrorItems, s.engineHeld (s.itemRun i).1 (s.itemRun i).2.1 (s.itemRun i).2.2 false = false) → Completes .mirrorStart s (fun t => pc t 1 ∧
      t.peers.changed = (s.peers.changed ++ s.changedNow).eraseDups ∧
      t.peers.sent = some (s.tick32, t.peers.changed) ∧ t.peers.lanes = s.peers.lanes ∧
      (∃ m n, ⟨"peer-frame", [s.get fTwnPort, 4, m, s.tick32, n], []⟩ ∈ t.out) ∧ t.tasks = s.tasks ∧
      t.cores = s.cores ∧ t.mem = s.mem)) ∧
    (s.program? 0x0A = some w → Completes .endProgram s (fun t => pc t 1 ∧ t.get fTsqEnded = 1 ∧ t.get fTsqExt = 0 ∧
      t.mem = s.mem ∧ t.cores = s.cores))

/-- Tasks. The binding engine gives the cores of the task it serves their begin of tick, the tick block stands in the first,
and the task is Running; the cores of a resumed task get back what its drain stop saved; a wave starts the cores of one clock domain; a drained task's state goes to its switch slots. A load
is refused with the first code that it meets, and accepted loads an Idle task whose parts are the image on fresh cores; an
unload of a task that is at work, or that a bank runs, is refused with 0x8. A task command ends by its completion
(R341 to R347, R351). -/
def TaskLifeRule : Prop :=
  ∀ (s : State) (k : Nat), k < 1024 →
    (s.get fTsqPhase ≠ 5 → s.nextBound = some k → s.imageHeld k = false → (s.task k).resumes = true → (s.task k).aborted = false → (s.group k).Nodup →
      (∀ c ∈ s.group k, isCore c = true ∧ s.absent c = false) → Completes .taskBind s (fun t => t.tstate k = 3 ∧
        (t.task k).resumes = false ∧ ∀ x ∈ (s.group k).zipIdx, ∀ p, (s.task k).sw[x.2]? = some p →
          (t.core x.1).task = some k ∧ (t.core x.1).pc = p.core.pc ∧ (∀ r, (t.core x.1).sreg r = p.core.sreg r) ∧
          (t.core x.1).mode = (if p.core.before = .ended then .ended else .idle))) ∧
    (s.get fTsqPhase ≠ 5 → s.nextBound = some k → s.imageHeld k = false → (s.task k).resumes = false → (s.group k).Nodup →
      (∀ c ∈ s.group k, isCore c = true ∧ s.absent c = false) → Completes .taskBind s (fun t => t.tstate k = 3 ∧
        (∀ x ∈ (s.group k).zipIdx, (t.core x.1).task = some k ∧ (t.core x.1).mode = .idle ∧ (t.core x.1).before = .running ∧
          (t.core x.1).pc = s.tdEntry k ∧ (t.core x.1).sreg 1 = s.tdArg k ∧ (t.core x.1).sreg 2 = BitVec.ofNat 64 x.2 ∧
          (t.core x.1).sreg 3 = BitVec.ofNat 64 (s.group k).length) ∧
        (s.group k ≠ [] → t.spadBytes ((s.group k).getD 0 0) (s.tdTboff k) 64 = s.tickBlock k))) ∧
    (∀ m, (s.tdDoms k)[(s.task k).waves]? = some m → (s.tstate k = 3 ∨ s.tstate k = 6) → Completes (.coreWaveStart k) s (fun t =>
      (t.task k).waves = (s.task k).waves + 1 ∧ ∀ c ∈ s.holders k, tileDom (coreTile c) = m → (s.core c).mode = .idle →
        (s.core c).async = [] → (t.core c).mode = (s.core c).before)) ∧
    ((s.task k).draining = true → s.groupQuiet k = true → Completes (.drainStopDone k) s (fun t =>
      (t.task k).draining = false ∧ (t.task k).sw = (s.group k).zipIdx.map (fun x => s.livePart k x.2 x.1) ∧
      t.cores = s.cores ∧ t.mem = s.mem ∧ t.regs = s.regs)) ∧
    (∀ w, s.get fBootMode ≠ 4 → bitsOf w 63 26 = 0 → bitsOf w 15 2 = 0 → bitsOf w 25 16 = k → bitsOf w 1 0 = 1 →
      let refused (u : State) (code : Nat) := exec (.taskLoad w) s = .next ((u.set fTcmdCode code).set fTcmdErr 1)
      let img := s.readDva (s.tdTenant k) (s.tdImg k) (64 * s.tdImg64 k)
      (s.flag fTcmdBusy = true → refused s 0x7) ∧
      (s.flag fTcmdBusy = false → s.loadCode k ≠ 0 → refused s (s.loadCode k)) ∧
      (s.flag fTcmdBusy = false → s.loadCode k = 0 → s.imageHeld k = true → exec (.taskLoad w) s = .next s) ∧
      (s.flag fTcmdBusy = false → s.loadCode k = 0 → s.imageHeld k = false → Completes (.taskLoad w) s (fun t => t.mem = s.mem ∧
        match (if img.1.saveBad k = none then img.2 else none) with
        -- the image, or a part of the save area, cannot be read
        | none => t.get fTcmdErr = 1 ∧ t.get fTcmdCode = 0x9 ∧ t.tstate k = s.tstate k
        | some bs => t.tstate k = 1 ∧ t.get fTcmdBusy = 1 ∧ t.get fTcmdDone = 0 ∧ t.get fTcmdErr = 0 ∧ t.get fTcmdCode = 0 ∧
          (t.task k).sw.length = (s.group k).length ∧ (t.task k).cm = (t.task k).sw ∧ (t.task k).pend = [] ∧
          ∀ p ∈ (t.task k).sw, ∀ i, (h : i < bs.length) → smGetD p.spad 0 i = bs[i]))) ∧
    (∀ w, s.get fBootMode ≠ 4 → bitsOf w 63 26 = 0 → bitsOf w 15 2 = 0 → bitsOf w 25 16 = k → bitsOf w 1 0 = 2 →
      let refused (code : Nat) := exec (.taskUnload w) s = .next ((s.set fTcmdCode code).set fTcmdErr 1)
      (s.flag fTcmdBusy = true → refused 0x7) ∧
      (s.flag fTcmdBusy = false → s.tdCode k ≠ 0 → refused (s.tdCode k)) ∧
      (s.flag fTcmdBusy = false → s.tdCode k = 0 → s.loaded k = false → refused 0x7) ∧
      (s.flag fTcmdBusy = false → s.tdCode k = 0 →
        (s.tstate k = 2 ∨ s.tstate k = 3 ∨ s.tstate k = 5 ∨ s.tstate k = 6 ∨ s.loaded k = true ∧ s.bankNames k = true) →
        refused 0x8) ∧
      (s.flag fTcmdBusy = false → s.tdCode k = 0 → s.bankNames k = false → (s.tstate k = 1 ∨ s.tstate k = 4 ∨ s.tstate k = 7 ∨ s.tstate k = 8) →
        Completes (.taskUnload w) s (fun t => t.tstate k = 0 ∧ t.task k = Task.fresh ∧ t.get fTcmdBusy = 1 ∧
          t.get fTcmdErr = 0 ∧ (∀ c ∈ s.holders k, (t.core c).task = none ∧ (t.core c).mode = .idle) ∧ t.mem = s.mem))) ∧
    (s.flag fTcmdBusy = true → Completes .taskCommandDone s (fun t => t.get fTcmdBusy = 0 ∧ t.get fTcmdDone = 1 ∧
      OnlyRegs s t [tsqTcmdSt]))

/-- Firmware sets a sequence slot's tenant and valid bit unless a program names the slot, and its streams while the slot is not
valid; its position it does not write. It writes a word of a stream-context record that no loaded task names; a misaligned
address and a named record are errors (R349, R371; 07 R242). -/
def SlotsAndRecordsRule : Prop :=
  ∀ s : State,
    (s.get fBootMode = 4 → ∀ n i w, exec (.seqSlotWrite n i w) s = .next s) ∧
    (∀ n w, n < 64 → s.get fBootMode ≠ 4 → bitsOf w 63 8 = 0 → bitsOf w 3 2 = 0 →
      (s.get (fSlotValid n) = 1 → bitsOf w 7 4 ≠ s.get (fSlotTenant n) → exec (.seqSlotWrite n 0 w) s =
        .next (s.refuseWrite (0x200000000000 + seqSlot n 0) 2)) ∧
      (s.get (fSlotValid n) = 0 → s.slotNamed n = false → Completes (.seqSlotWrite n 0 w) s (fun t =>
        t.get (fSlotTenant n) = bitsOf w 7 4 ∧ t.get (fSlotValid n) = bitsOf w 0 0 ∧
        t.get (fSlotCsel n) = s.get (fSlotCsel n) ∧ OnlyRegs s t [seqSlot n 0]))) ∧
    (∀ n i w, n < 64 → s.get fBootMode ≠ 4 → (i = 1 ∨ i = 2) → bitsOf w 63 48 = 0 →
      (s.get (fSlotValid n) = 1 → exec (.seqSlotWrite n i w) s = .next (s.refuseWrite (0x200000000000 + seqSlot n i) 2)) ∧
      (s.get (fSlotValid n) = 0 → Completes (.seqSlotWrite n i w) s (fun t =>
        t.get (if i = 1 then fSlotSta n else fSlotStb n) = bitsOf w 47 0 ∧ OnlyRegs s t [seqSlot n i]))) ∧
    (∀ n w, n < 64 → s.get fBootMode ≠ 4 → bitsOf w 63 32 = 0 → exec (.seqSlotWrite n 3 w) s = .next s) ∧
    (∀ addr o w, s.place addr = .ctx o →
      (o % 8 ≠ 0 → exec (.contextRecordWrite addr w) s = .next (s.emit "address-error" [addr] [])) ∧
      (o % 8 = 0 → s.recordNamed (o / 1024) = true → exec (.contextRecordWrite addr w) s =
        .next ((s.refuseWrite addr 2).emit "address-error" [addr] [])) ∧
      (o % 8 = 0 → s.recordNamed (o / 1024) = false → s.get fBootMode ≠ 4 → Completes (.contextRecordWrite addr w) s (fun t =>
        (∀ i < 8, (t.byte (addr + i)).toNat = w.toNat / 256 ^ i % 256) ∧
        (∀ a, (a < addr ∨ addr + 8 ≤ a) → t.byte a = s.byte a) ∧
        { t with mem := s.mem } = s.sramWritten addr 8)))


/-- Tasks: binding to the end, slots and context records (10). -/
def Obligations.TasksAndSlots : Prop := TaskLifeRule ∧ SlotsAndRecordsRule

/-! ## The hub network (11) -/

/-- Site n's queue of channel vc has a slot for a packet of partition u: two are reserved for each partition and eight are
shared, where the port serves more than one (R380). -/
def slotFor (s : State) (n vc u : Nat) : Bool :=
  let q := (s.hub.pkts.filter (fun x => decide (x.2.loc = .site ∧ x.2.src = n ∧ x.2.vc = vc))).map (fun x => x.2.part)
  !(s.sharedPort n) || decide (q.count u < 2 ∨ ((List.range 17).map (fun v => q.count v - 2)).sum < 8)

/-- Who a packet with header words w0, w1, w2 is injected for, as its port writes it: fw of the control complex and of the
sequencer, else the tenant; an answer has its request's (14 R490). -/
def injectOwed (s : State) (w0 w2 : Word) : Option Owed :=
  if pktAsks (bitsOf w0 21 16) then none else s.owedBy (bitsOf w0 29 24) (bitsOf w0 35 30) (bitsOf w0 21 16) (bitsOf w2 63 48)
def injectFw (s : State) (w0 w2 : Word) : Bool :=
  match injectOwed s w0 w2 with
  | some o => o.fw
  | none => decide (bitsOf w0 29 24 % 16 = 15) || bitsOf w0 56 56 == 1
def injectTenant (s : State) (w0 w1 w2 : Word) : Nat :=
  if injectFw s w0 w2 then 0 else match injectOwed s w0 w2 with
    | some o => o.tenant
    | none => s.portTenant (bitsOf w0 21 16) (bitsOf w0 29 24) (bitsOf w1 47 0) (bitsOf w2 47 0)

/-- The resource that a request goes to, and the state once its tokens are taken; none where they lack (R405). -/
def injectRes (s : State) (w0 w1 : Word) : Option Nat :=
  if pktAsks (bitsOf w0 21 16) then s.pktTarget (bitsOf w0 21 16) (bitsOf w0 35 30) (bitsOf w1 47 0) else none
def injectPaid (s : State) (w0 w1 w2 : Word) (data : List Byte) (n : Nat) : Option State :=
  let ty := bitsOf w0 21 16
  let reads := ty == 0x02 || ty == 0x08 || ty == 0x0C
  match injectRes s w0 w1 with
  | none => some s
  | some r => s.takeTokens (bitsOf w0 29 24) (injectTenant s w0 w1 w2) (bitsOf w0 42 40) (injectFw s w0 w2) (!reads) r (bitsOf w1 47 0)
      (if ty = 0x08 then 256 * bitsOf w1 63 48 else if reads then n else data.length)

/-- The packet p is the one injected, in its site port's queue (R375 to R384). -/
def Injected (s : State) (w0 w1 w2 : Word) (data : List Byte) (vc : Nat) (p : Packet) : Prop :=
  p.type = bitsOf w0 21 16 ∧ p.vc = vc ∧ p.src = bitsOf w0 29 24 ∧ p.dst = bitsOf w0 35 30 ∧ p.label = bitsOf w0 42 40 ∧
  p.tenant = injectTenant s w0 w1 w2 ∧ p.w 1 = w1 ∧ p.w 2 = w2 ∧ p.age = s.hubTime % 2 ^ 24 ∧ p.data = data ∧ p.loc = .site ∧
  p.tries = 0 ∧ p.bad = false ∧
  bitsOf (p.w 3) 63 32 = (crc32c (bytesLE 8 (p.w 0).toNat ++ bytesLE 8 w1.toNat ++ bytesLE 8 w2.toNat
    ++ bytesLE 4 p.age ++ if vc = 0 then data else [])).toNat ∧
  p.post = decide (vc = 0 ∨ s.express (bitsOf w0 29 24) (bitsOf w0 35 30) = false)

/-- PACKET_INJECT puts a packet of an assigned type and a permitted length into its site port's queue, with the channel of its
type, its sites, the hub time and the CRC in its header, once a slot is free and the request has its tokens; a request of a
partition that is fenced, or whose label has as many requests outstanding as it may, waits, and so does the answer to a request
whose resource serves another first; a request that is injected awaits its answer. The port writes the packet's tenant and fw
(14 R490). A reserved type injects nothing (R375 to R384, R405, R406, R409). -/
def HubInjectionRule : Prop :=
  ∀ s : State,
    (∀ w0 w1 w2 data n, pktVc (bitsOf w0 21 16) = none → exec (.packetInject w0 w1 w2 data n) s = .next s) ∧
    (∀ w0 w1 w2 data n vc,
      let ty := bitsOf w0 21 16
      let src := bitsOf w0 29 24
      let l := bitsOf w0 42 40
      let u := injectTenant s w0 w1 w2
      let fw := injectFw s w0 w2
      let out := s.hub.awaits.countP (fun a => decide (a.site = src ∧ a.label = l))
      let free := pktAsks ty = false ∨ (out < s.olEff src l ∧ (fw = true ∨ 11 < src % 16 ∨ s.fencedTen.contains u = false))
      let turn := ∀ o, injectOwed s w0 w2 = some o → s.serves o = true
      let slot := slotFor s src vc (if fw then 16 else u)
      u < 16 → pktVc ty = some vc → pktLenOk ty data.length = true →
        (free → turn → slot = true → injectPaid s w0 w1 w2 data n ≠ none →
          Completes (.packetInject w0 w1 w2 data n) s (fun t => ∃ p : Packet, t.hub.pkts = s.hub.pkts ++ [(s.nextId, p)] ∧
            Injected s w0 w1 w2 data vc p ∧
            t.hub.awaits = s.hub.awaits ++ (if pktAsks ty then [⟨src, ty, fw, l, u, injectRes s w0 w1, bitsOf w2 63 48, s.hubTime % 2 ^ 24⟩]
              else []) ∧
            t.hub.owed = (match injectOwed s w0 w2 with
              | none => s.hub.owed
              | some o => s.hub.owed.erase o) ∧
            t.nextId = s.nextId + 1 ∧ t.regs = s.regs ∧ t.mem = s.mem)) ∧
        (¬free ∨ ¬turn ∨ slot = false ∨ injectPaid s w0 w1 w2 data n = none →
          exec (.packetInject w0 w1 w2 data n) s = .next s))

/-- A packet that its output serves moves on to the next place, and at its site port leaves the network. A request that leaves
it at a port of a partition under reset or of a gated site, or with a bad payload, the port answers itself, once its queue has
a slot. A bad transfer is repeated up to three times; then a body error marks the payload, and a head error is the failure of
the hub (R377 to R386). -/
def HubPacketsRule : Prop :=
  ∀ s : State,
    (∀ n p ce id x, s.served n p = some (id, x) →
      -- the port of a tile's site passes what goes to the tile's stack although the tile's clock stands still
      let opens := (s.linkOpen n p || decide (p = 4 ∨ p = 7) && s.stackPort n x)
      (opens = false → exec (.routerAccept n p ce) s = .next s) ∧
      (opens = true → p ≠ 7 → Completes (.routerAccept n p ce) s (fun t => t.hub.pkts = smErase s.hub.pkts id ++
        [(s.nextId, { x with loc := (landing n p x).1, post := (landing n p x).2, tries := 0 })] ∧ t.mem = s.mem ∧
        t.get (fRstCe n) = (s.addSat (fRstCe n) ce).get (fRstCe n))) ∧
      (opens = true → p = 7 → pktAsks x.type = false → Completes (.routerAccept n p ce) s (fun t =>
        t.hub.pkts = smErase s.hub.pkts id ∧ t.mem = s.mem ∧
        t.get (fRstCe n) = (s.addSat (fRstCe n) ce).get (fRstCe n) ∧
        (pktAnswers x.type = false → t.hub.awaits = s.hub.awaits) ∧
        (∀ a, pktAnswers x.type = true →
          s.hub.awaits.find? (fun a => decide (a.site = n ∧ a.tag = x.tag) && (pktAnsweredBy a.type).contains x.type) = some a →
          t.hub.awaits = s.hub.awaits.erase a))) ∧
      (opens = true → p = 7 → pktAsks x.type = true → pktAnswers x.type = false →
        (s.selfAnswers n x = false → Completes (.routerAccept n p ce) s (fun t => t.hub.pkts = smErase s.hub.pkts id ∧
          t.hub.awaits = s.hub.awaits ∧ t.mem = s.mem ∧
          ∃ r, t.hub.owed = s.hub.owed ++ [⟨n, x.src, x.type, x.tag, x.label, r, x.tenant, x.fw⟩])) ∧
        (s.selfAnswers n x = true → s.answerSlot n x = false → exec (.routerAccept n p ce) s = .next s) ∧
        (s.selfAnswers n x = true → s.answerSlot n x = true → n < 64 →
          Completes (.routerAccept n p ce) s (fun t => t.hub.owed = s.hub.owed ∧ t.mem = s.mem ∧
            ∃ y : Packet, t.hub.pkts = smErase s.hub.pkts id ++ [(s.nextId, y)] ∧ y.src = n ∧ y.dst = x.src ∧ y.tag = x.tag ∧
              (pktAnsweredBy x.type).contains y.type = true))) ∧
      (∀ kind ≤ 2, x.tries < 3 → n < 64 → Completes (.linkReplay n p kind) s (fun t =>
        t.hub.pkts = smInsert s.hub.pkts id { x with tries := x.tries + 1 } ∧
        t.get (fRstReplay n) = min (s.get (fRstReplay n) + 1) 65535)) ∧
      (3 ≤ x.tries → Completes (.linkReplay n p 0) s (fun t => t.hub.pkts = smInsert s.hub.pkts id { x with bad := true } ∧
        { t with hub := s.hub } = s)) ∧
      (∀ kind, (kind = 1 ∨ kind = 2) → 3 ≤ x.tries → s.get fBootMode ≠ 4 → Completes (.linkReplay n p kind) s (fun t =>
        SafeWith t 0x0B))) ∧
    (∀ n p kind ce, s.served n p = none → exec (.routerAccept n p ce) s = .next s ∧ exec (.linkReplay n p kind) s = .next s)

/-- Links and waveguides. A failed wire is replaced by a spare, then the link narrows, and below quarter width the hub has
failed; a weak wavelength is swapped for a spare, then the waveguide loses it. In the guard band's window a waveguide or a link
whose temperature has moved by more than 8 °C, or that was not trained for 1,024 ticks, is held for retraining, and given
back with the temperature kept (R385, R390, R391; 08 R284 to R286; 17 R566). -/
def HubLinksRule : Prop :=
  ∀ s : State,
    (∀ n d, n < 64 → d < 4 → neighbour n d ≠ none → s.get fBootMode ≠ 2 →
      (s.get (fSpw n d) < 8 → exec (.hubLinkNarrow n d) s = .next
        (let v := (s.set (fSpw n d) (s.get (fSpw n d) + 1)).raiseX 16 0x41 [(n, 32), (d, 38)] (packW [(s.get (fWid n d), 0)])
         { v with logWait := s.logWait ++ [⟨0x01, 0x05, 8 * n + d, 0⟩] })) ∧
      (8 ≤ s.get (fSpw n d) → s.get (fWid n d) < 2 → Completes (.hubLinkNarrow n d) s (fun t =>
        t.get (fWid n d) = s.get (fWid n d) + 1 ∧ CapUnit.net ∈ t.fell ∧ t.mem = s.mem)) ∧
      (8 ≤ s.get (fSpw n d) → 2 ≤ s.get (fWid n d) → s.get fBootMode ≠ 4 → Completes (.hubLinkNarrow n d) s (fun t =>
        SafeWith t 0x0B))) ∧
    (∀ w b, w < 12 → b < 32 → s.get (fXwgLmap w) / 2 ^ b % 2 = 1 → s.get (fXwgState w) = 1 →
      (s.guideN w = 30 → s.get (fXwgLmap w) / 2 ^ 31 % 2 = 0 → Completes (.wavelengthSpareSwap w b) s (fun t =>
        t.guideN w = 30 ∧ t.get (fXwgLmap w) / 2 ^ b % 2 = 0 ∧ t.get (fXwgState w) = 1 ∧
        t.get (fXwgLmap w) / 2 ^ (if s.get (fXwgLmap w) / 2 ^ 30 % 2 = 0 then 30 else 31) % 2 = 1)) ∧
      (s.guideN w ≠ 30 → Completes (.wavelengthSpareSwap w b) s (fun t => t.guideN w = s.guideN w - 1 ∧
        t.get (fXwgLmap w) / 2 ^ b % 2 = 0 ∧ CapUnit.net ∈ t.fell ∧
        t.get (fXwgState w) = if s.guideN w - 1 < 15 then 3 else if s.guideN w - 1 < 30 then 2 else 1))) ∧
    (let window (us : Nat) : Bool :=
        decide (s.get fTsqPhase = 4 ∧ s.get fTsqExt = 0 ∧ s.get fTsqToff + us ≤ s.get fTsqT) && !s.sweepDue
      let due (now was : Int) (at_ : Nat) : Bool := decide (8 < (now - was).natAbs ∨ 1024 ≤ s.seq.count - at_)
      (∀ w temp, w < 12 → (s.get (fXwgState w) = 1 ∨ s.get (fXwgState w) = 2) →
        exec (.linkRetrain true w false temp) s = .next (if window 20 ∧
          due (signed8 (temp % 256)) (signed8 (s.get (fXwgTtrain w))) (smGetD s.hub.trainedAt 0 (512 + w)) then
          s.set (fXwgState w) 4 else s)) ∧
      (∀ w temp, w < 12 → s.get (fXwgState w) = 4 → Completes (.linkRetrain true w true temp) s (fun t =>
        t.get (fXwgTtrain w) = temp % 256 ∧ smGetD t.hub.trainedAt 0 (512 + w) = s.seq.count ∧
        t.get (fXwgState w) = (if s.guideN w < 15 then 3 else if s.guideN w < 30 then 2 else 1) ∧
        OnlyRegs { s with hub := t.hub } t [hubXwg w])) ∧
      (∀ i temp, i < 512 → i % 8 < 4 → neighbour (i / 8) (i % 8) ≠ none →
        (s.hub.held.contains i = false → exec (.linkRetrain false i false temp) s = .next (if window 10 ∧
          due (signed8 (temp % 256)) (signed8 (smGetD s.hub.temps 0 i % 256)) (smGetD s.hub.trainedAt 0 i) then
          { s with hub := { s.hub with held := s.hub.held ++ [i] } } else s)) ∧
        (s.hub.held.contains i = true → Completes (.linkRetrain false i true temp) s (fun t => i ∉ t.hub.held ∧
          smGetD t.hub.temps 0 i = temp % 256 ∧ smGetD t.hub.trainedAt 0 i = s.seq.count ∧ t.hub.pkts = s.hub.pkts ∧
          { t with hub := s.hub } = s))))

/-- The hub: its packets, links and waveguides (11). -/
def Obligations.HubTraffic : Prop := HubInjectionRule ∧ HubPacketsRule ∧ HubLinksRule

/-- Labels, guarantees and probes. Feedback of a full queue halves what a label may have outstanding, of an empty one raises it
by one, within 1 and its setting. A label that misses its target is reported once in a tick. Parameters of 0 are refused;
others are written, and stand in force at once while the sequencer stands. A guarantee that names no valid resource has
code 2, one that an element cannot carry, now or with the values that wait for the boundary (the model's choice, log entry 81),
code 1 with that element, and an accepted one its full rate; while an admission runs the write waits. A tenant writes no probe
but its own, whose match it cannot widen beyond itself (R393, R404 to R408, R410 to R413). -/
def LabelsAndGuaranteesRule : Prop :=
  ∀ s : State,
    (∀ res fill cap, Completes (.queueFeedback res fill cap) s (fun t => { t with hub := s.hub } = s ∧
      t.hub.pkts = s.hub.pkts ∧ ∀ a ∈ s.hub.awaits, a.res = some res → 2 ≤ a.label → a.label < 8 →
        let ol := bitsOf (s.labelWord a.label) 39 32
        let e := s.olEff a.site a.label
        t.olEff a.site a.label = min ol (if 3 * cap < 4 * fill then max 1 (e / 2)
          else if 4 * fill < cap then min ol (e + 1) else e))) ∧
    (∀ site l x rest, smGetD s.hub.times [] (8 * site + l) = x :: rest →
      (s.targetTime l * (s.labelTimes site l).2 < (s.labelTimes site l).1 → s.hub.told.contains (8 * x.2 + l) = false →
        Completes (.labelLatencyMissed site l) s (fun t => t.hub.told = s.hub.told ++ [8 * x.2 + l] ∧ t.hub.pkts = s.hub.pkts ∧
          t.mem = s.mem ∧ t.cores = s.cores)) ∧
      (s.hub.told.contains (8 * x.2 + l) = true → exec (.labelLatencyMissed site l) s = .next s)) ∧
    (∀ l w, l < 8 → s.get fBootMode ≠ 4 → setsReserved (slrCfg l) w = false →
      (bitsOf w 63 48 = 0 ∨ bitsOf w 39 32 = 0 → exec (.slrCfgWrite l w) s = .next s) ∧
      (bitsOf w 63 48 ≠ 0 → bitsOf w 39 32 ≠ 0 → Completes (.slrCfgWrite l w) s (fun t =>
        t.get (fSlrTarget l) = bitsOf w 63 48 ∧ t.get (fSlrOl l) = bitsOf w 39 32 ∧ t.get (fSlrBe l) = bitsOf w 31 16 ∧
        (s.get fTsqPhase = 5 → t.labelWord l = t.rd (slrCfg l)) ∧ (s.get fTsqPhase ≠ 5 → t.labelWord l = s.labelWord l)))) ∧
    (∀ g w, g < 128 → s.get fBootMode ≠ 4 →
      (s.get fAdmBusy = 1 → setsReserved (slg g) w = false → exec (.guaranteeWrite g w) s =
        .next { s.set fSlgBusy 1 with hub := { s.hub with guarWait := s.hub.guarWait ++ [(g, w)] } }) ∧
      (s.get fAdmBusy = 0 → setsReserved (slg g) w = false →
        let refused (code elem : Nat) := Completes (.guaranteeWrite g w) s (fun t => t.get fSlgErr = 1 ∧
          t.get fSlgCode = code ∧ t.get fSlgElem = elem % 2 ^ 32 ∧ OnlyRegs s t [slgSt])
        let accepted (rate : Nat) := Completes (.guaranteeWrite g w) s (fun t => t.get (fSlgEff g) = rate ∧
          t.get (fSlgValid g) = bitsOf w 63 63 ∧ t.get (fSlgRate g) = bitsOf w 47 32 ∧ t.get (fSlgTenant g) = bitsOf w 58 55 ∧
          t.get (fSlgRes g) = bitsOf w 54 48 ∧ t.get (fSlgLabel g) = bitsOf w 61 59 ∧ t.get fSlgCode = 0 ∧
          OnlyRegs s t [slg g, slgSt])
        let with_ := (s.guars.filter (fun y => y.g != g)) ++ [guarOf g w]
        let fail := match s.guarFail s.capEnv with_, s.guarFail s.resultEnv with_ with
          | some c, some d => some (min c d)
          | some c, none => some c
          | none, d => d
        (bitsOf w 63 63 = 0 → accepted 0) ∧
        (bitsOf w 63 63 = 1 → s.guarValid (guarOf g w) = false → refused 2 0) ∧
        (∀ c, bitsOf w 63 63 = 1 → s.guarValid (guarOf g w) = true → fail = some c → refused 1 c) ∧
        (bitsOf w 63 63 = 1 → s.guarValid (guarOf g w) = true → fail = none → accepted (bitsOf w 47 32)))) ∧
    (∀ n j w, n < 64 → j < 4 →
      (∀ r who, who ≠ 16 → (s.flag (fLupTown n j) = false ∨ s.get (fLupOwner n j) ≠ who) →
        exec (.lupProbeWrite n j r who w) s = .next s) ∧
      (s.get fBootMode ≠ 4 → setsReserved (lupCtl n j + 8) w = false → s.flag (fLupTown n j) = false → Completes (.lupProbeWrite n j 1 16 w) s (fun t =>
        t.get (fLupMatch n j) = bitsOf w 56 16 ∧ smGetD t.hub.seen 0 (4 * n + j) = 0 ∧
        OnlyRegs { s with hub := t.hub } t [lupCtl n j + 8])) ∧
      (∀ u < 16, setsReserved (lupCtl n j + 8) w = false → s.flag (fLupTown n j) = true → s.get (fLupOwner n j) = u →
        Completes (.lupProbeWrite n j 1 u w) s (fun t => bitsOf (t.rd (lupCtl n j + 8)) 39 36 = u ∧
          bitsOf (t.rd (lupCtl n j + 8)) 56 56 = 0 ∧ bitsOf (t.rd (lupCtl n j + 16)) 39 36 = 0xF)))

/-- Event queues. A record goes into its ring behind its length word and prod passes it; in a full priority ring it is counted
as lost, while a normal ring gives up its oldest. A consumer moves cons to a boundary between entries, any other value is an
error; a read outside cons to prod is 0 and is counted (R396 to R401). -/
def EventQueuesRule : Prop :=
  ∀ (s : State) (u : Nat), u ≤ 16 →
    (∀ ws, ws ≠ [] → ws.length ≤ 32 → bitsOf (ws.headD 0) 15 8 = ws.length →
      let prio := priorityTypes.contains (bitsOf (ws.headD 0) 23 16)
      let p := s.get (fProd u prio)
      let fits := s.ringUsed u prio + ws.length + 1 ≤ ringSize u prio
      (prio = true → ¬fits → exec (.eventQueueWrite u ws) s =
        .next (s.set (fEvqPlost u) (min (s.get (fEvqPlost u) + 1) 65535))) ∧
      (fits ∨ prio = false → Completes (.eventQueueWrite u ws) s (fun t =>
        t.get (fProd u prio) = (p + ws.length + 1) % 2 ^ 32 ∧
        (∀ i, (h : i < ws.length) → t.rd (evqWord u (ringIndex u prio (p + 1 + i))) = ws[i]) ∧
        bitsOf (t.rd (evqWord u (ringIndex u prio p))) 7 0 = ws.length ∧ t.mem = s.mem ∧ t.cores = s.cores ∧
        (fits → t.get (fCons u prio) = s.get (fCons u prio))))) ∧
    (∀ prio w fw, bitsOf w 63 32 = 0 → (fw = true → s.get fBootMode ≠ 4) →
      let d := (bitsOf w 31 0 + 2 ^ 32 - s.get (fCons u prio)) % 2 ^ 32
      let good := d ≤ s.ringUsed u prio ∧
        s.onBoundary u prio (d + 1) (s.get (fCons u prio)) (s.ringUsed u prio) d = true
      (good → Completes (.evqConsWrite u prio w fw) s (fun t => t.get (fCons u prio) = bitsOf w 31 0 ∧
        t.get (fProd u prio) = s.get (fProd u prio) ∧ t.mem = s.mem)) ∧
      (¬good → exec (.evqConsWrite u prio w fw) s = .next (s.set (fEvqPterr u) 1))) ∧
    (∀ i, i < (if u < 16 then 4096 else 16384) →
      (s.evqLive u i = true → exec (.evqWordRead u i) s =
        .next (s.emit "register-read" [evqWord u i] (bytesLE 8 (s.rd (evqWord u i)).toNat))) ∧
      (s.evqLive u i = false → exec (.evqWordRead u i) s =
        .next ((s.set (fEvqUnd u) (min (s.get (fEvqUnd u) + 1) 65535)).emit "register-read" [evqWord u i] (bytesLE 8 0))))


/-- Labels, guarantees and probes of the hub, and the event queues (11). -/
def Obligations.LabelsAndEvents : Prop := LabelsAndGuaranteesRule ∧ EventQueuesRule

/-! ## Open sites (12) -/

/-- Open site k carries messages: its link is active and its descriptor accepted. -/
def Serves (s : State) (k : Nat) : Prop := k < 8 ∧ (s.get (fOsLstate k) = 3 ∨ s.get (fOsLstate k) = 4) ∧ (s.opn k).link = true

/-- A message of the guest at site k without protocol error, of a type (R428, R430). -/
def Sent (s : State) (k : Nat) (ws : List Word) (type : Nat) : Prop :=
  Serves s k ∧ s.bmlBad k ws = false ∧ (bmlOf ws).type = type

/-- A message that the hub sends to the guest: its 16 B header of version 1 with the length in words, type, class (1 on an
answer; 0 on a message without request is DESIGN CHOICE, log 79), node, tag, address, payload count and status, then its
payload (R427, R428). -/
def Told (s t : State) (k type node tag addr n status : Nat) (data : List Byte) : Prop :=
  let cls := if type = 3 ∨ type = 4 ∨ type = 5 ∨ type = 7 ∨ type = 9 then 1 else 0
  t.out = s.out ++ [⟨"bml", [k, type, node, tag, addr, n, status],
    bytesLE 8 (packW [(1, 0), (data.length / 8 + 2, 8), (type, 16), (cls, 24), (node, 32), (tag, 48)]).toNat
      ++ bytesLE 8 (packW [(addr % 2 ^ 48, 0), (n, 48), (status, 60)]).toNat ++ data⟩]

/-- The hub's next message tag at site k is free. -/
def TagFree (s : State) (k : Nat) : Prop := ∀ x ∈ (s.opn k).outs, x.tag ≠ (s.opn k).nextTag

/-- Message `id` has not gone to site k, and no earlier overlapping request of its sender still waits to go there (R431). -/
def SendsNext (s : State) (k id : Nat) (m : Msg) : Prop :=
  (∀ x ∈ (s.opn k).outs, x.msg = id → 2 < x.type) ∧
  ∀ x ∈ s.net, x.1 < id → x.2.kind.isRequest = true → x.2.src = m.src → x.2.dst = m.dst →
    extOverlap (x.2.roff, x.2.len) (m.roff, m.len) = true → ∃ y ∈ (s.opn k).outs, y.msg = x.1

/-- `v` is s after requests to the hub have gone out: their tokens are taken, and what goes to a scratchpad enters its tile by a
gateway (11 R404, R405; 02 R68); nothing else differs. -/
def Asked (s v : State) : Prop :=
  { v with out := s.out, hub := { v.hub with lacks := s.hub.lacks } } = s ∧
  ∃ l, v.out = s.out ++ l ∧ ∀ e ∈ l, e.kind = "hub-request" ∨ e.kind = "gateway-access"

/-- Messages between cores and nodes. A core's SEND or RECV to a declared node of a site that serves goes out with a credit and
a tag; to any other it ends with code 0x6. A node's SEND or RECV becomes a message of the network, or the error that it
meets. Answers end the request that they answer, in either direction. A protocol error isolates the site with cause 8 (R428
to R433). -/
def Obligations.OpenSiteMessages : Prop :=
  ∀ (s : State) (k : Nat),
    (∀ id m kind a b d, s.msg id = some m → m.kind = kind → (kind = .send ∨ kind = .recvReq) → destKind m.dst = 1 →
      destSite m.dst = k → (∀ x ∈ (s.opn k).outs, x.msg = id → 2 < x.type) →
      let i := if kind = .send then Instr.bmlSend k (.hub id a d) else .bmlRecv k (.hub id b d)
      let o := s.opn k
      (¬Serves s k ∨ s.nodeEntry k (destNode m.dst) = none → Completes i s (fun t => (t.msg id).map Msg.kind = some (.merr 0x6) ∧
        t.opens = s.opens ∧ t.mem = s.mem)) ∧
      (∀ w, Serves s k → s.nodeEntry k (destNode m.dst) = some w → bitsOf w 20 20 = 1 → (kind = .recvReq → o.feat % 2 = 1) →
        o.hubCred = 0 → exec i s = .next s) ∧
      (∀ w, Serves s k → s.nodeEntry k (destNode m.dst) = some w → bitsOf w 20 20 = 1 → (kind = .recvReq → o.feat % 2 = 1) →
        SendsNext s k id m → o.hubCred ≠ 0 → TagFree s k → Completes i s (fun t =>
          Told s t k (if kind = .send then 1 else 2) (destNode m.dst) o.nextTag (m.roff + m.ctr * 2 ^ 15 + m.src * 2 ^ 24)
            (m.len / 8 - 1) 0 m.data ∧
          (t.opn k).outs = o.outs ++ [⟨o.nextTag, if kind = .send then 1 else 2, id, m.len / 8 - 1⟩] ∧
          (t.opn k).nextTag = (o.nextTag + 1) % 2 ^ 16 ∧ (t.opn k).hubCred = o.hubCred - 1 ∧ t.net = s.net))) ∧
    (∀ ws kind, (kind = .send ∨ kind = .recvReq) →
      let m := bmlOf ws
      let dst := m.addr / 2 ^ 24
      let roff := m.addr % 2 ^ 15
      let len := 8 * (m.n + 1)
      let i := if kind = .send then Instr.bmlSend k (.guest ws) else .bmlRecv k (.guest ws)
      Sent s k ws (if kind = .send then 1 else 2) → Completes i s (fun t => ∃ x : Msg,
        t.net = s.net ++ [(s.nextId, x)] ∧ x.src = nodeDest k m.node ∧ x.dst = dst ∧ x.roff = roff ∧ x.len = len ∧
        x.ctr = m.addr / 2 ^ 15 % 16 ∧ (kind = .send → x.data = m.bytes) ∧
        (s.nodeError k m.node dst roff len = none → x.kind = kind) ∧
        (∀ e, s.nodeError k m.node dst roff len = some e → x.kind = .merr e) ∧
        (t.opn k).ins = (s.opn k).ins ++ [⟨m.tag, m.node, m.type, s.nextId, [], 0, 0⟩] ∧
        (t.opn k).guestCred = (s.opn k).guestCred - 1 ∧ t.mem = s.mem)) ∧
    (∀ id m i a b, s.msg id = some m → Serves s k →
      (s.opn k).ins.find? (fun x => x.msg == id && decide (x.type ≤ 2)) = some i →
      let ended (t : State) := t.msg id = none ∧ t.opn k = { s.opn k with ins := (s.opn k).ins.erase i } ∧ t.mem = s.mem
      (m.kind = .recvData → Completes (.rdata k (.hub id a b)) s (fun t => ended t ∧
        Told s t k 3 i.node i.tag (m.roff + m.ctr * 2 ^ 15 + m.dst * 2 ^ 24) (m.len / 8 - 1) 0 m.data)) ∧
      (m.kind = .ack → Completes (.ackMsg k (.hub id a b)) s (fun t => ended t ∧ Told s t k 4 i.node i.tag
        (m.roff + m.ctr * 2 ^ 15 + m.dst * 2 ^ 24) 0 0 [])) ∧
      (∀ e, m.kind = .merr e → Completes (.merr k (.hub id a b)) s (fun t => ended t ∧ Told s t k 5 i.node i.tag
        (m.roff + m.ctr * 2 ^ 15 + m.dst * 2 ^ 24) 0 e []))) ∧
    (∀ ws o x, (s.opn k).outs.find? (fun y => y.tag == (bmlOf ws).tag) = some o → s.msg o.msg = some x →
      let ended (t : State) := (t.opn k).outs = (s.opn k).outs.erase o ∧ t.mem = s.mem
      (Sent s k ws 3 → Completes (.rdata k (.guest ws)) s (fun t => ended t ∧
        t.msg o.msg = some { x with kind := .recvData, data := (bmlOf ws).bytes, route := s.routeOf x.dst x.src })) ∧
      (Sent s k ws 4 → Completes (.ackMsg k (.guest ws)) s (fun t => ended t ∧
        t.msg o.msg = some { x with kind := .ack, data := [], route := s.routeOf x.dst x.src })) ∧
      (Sent s k ws 5 → Completes (.merr k (.guest ws)) s (fun t => ended t ∧
        t.msg o.msg = some { x with kind := .merr (bmlOf ws).status, data := [], route := s.routeOf x.dst x.src }))) ∧
    (∀ ws, Serves s k → (bmlOf ws).type = 1 → s.bmlBad k ws = true → Completes (.bmlSend k (.guest ws)) s (fun t =>
      IsolatedWith t k 8))

/-- Memory traffic of nodes and windows. A node's read, write or atomic is checked over its whole extent: one that fails has
status 1 with its cause and a record in queue 16, one that reaches a fenced resource status 3, one that ends well has status 0 and its data; MRDD returns a read in pieces of
at most 1,024 B, MCPL ends a write or an atomic. A window access goes to a site that serves, within the guest's window; the
guest's answer ends it. A node's fault is copied to the queue of the owner of the target (R428, R434 to R437). -/
def Obligations.OpenSiteMemory : Prop :=
  ∀ (s : State) (k : Nat),
    (∀ ws need type n,
      ((need, type, n) = (Need.read, 0x06, 8 * ((bmlOf ws).n + 1)) ∨ (need, type, n) = (Need.write, 0x08, (bmlOf ws).bytes.length) ∨
        (need, type, n) = (Need.atomic, 0x0A, 8)) → Sent s k ws type → s.nodeHeld k ws = false →
      let m := bmlOf ws
      let i := match need with
        | .read => Instr.mrd k ws
        | .write => Instr.mwr k ws
        | .atomic => Instr.matom k ws
      let c := 16 + k
      let reached := (pageParts (n / 4096 + 2) m.addr n).any (fun p => match s.place ((s.translate c p.1).getD 0) with
        | .core x _ => s.noCore x
        | _ => false)
      let answer (t : State) (status cause : Nat) (data : List Byte) :=
        (t.opn k).ins = (s.opn k).ins ++ [⟨m.tag, m.node, m.type, 0, data, status, cause⟩] ∧
        (t.opn k).guestCred = (s.opn k).guestCred - 1
      (∀ e, s.extCheck c need m.addr n = some e → e.cause = 0x06 → s.extFenced c m.addr n = true →
        Completes i s (fun t => answer t 3 0 [] ∧ t.mem = s.mem ∧ t.faultWait = s.faultWait)) ∧
      (∀ e, s.extCheck c need m.addr n = some e → (e.cause ≠ 0x06 ∨ s.extFenced c m.addr n = false) → Completes i s (fun t => answer t 1 e.cause [] ∧
        t.mem = s.mem ∧ ∃ f : FaultWait, t.faultWait = s.faultWait ++ [f] ∧ f.queue = 16 ∧ f.kept = false)) ∧
      (s.extCheck c need m.addr n = none → s.extFenced c m.addr n = true → Completes i s (fun t => answer t 3 0 [] ∧
        t.mem = s.mem ∧ t.faultWait = s.faultWait)) ∧
      (s.extCheck c need m.addr n = none → s.extFenced c m.addr n = false → reached = true →
        Completes i s (fun t => answer t 4 0 [] ∧ t.mem = s.mem)) ∧
      (s.extCheck c need m.addr n = none → s.extFenced c m.addr n = false → reached = false →
        -- the hub's requests go out first; they change nothing else
        let taken := s.modOpen k (fun o => { o with guestCred := o.guestCred - 1, freed := o.freed + 1 })
        let q := taken.hubRequests (taken.nodeAsker k) (decide (need ≠ .read)) m.addr n
        Asked taken q ∧
        -- a part that fails has status 5 beyond a window's size, else status 2 with its cause
        let failed (t : State) (e : ExtFail) := if e.cause = 0 then answer t 5 0 [] else answer t 2 e.cause []
        (need = .read → Completes i s (fun t => match (q.extRead c m.addr n []).2 with
          | .ok bs => answer t 0 0 bs
          | .error e => failed t e)) ∧
        (need = .write → Completes i s (fun t => t.mem = (q.extWrite c m.addr m.bytes).1.mem ∧
          match (q.extWrite c m.addr m.bytes).2 with
          | none => answer t 0 0 []
          | some e => failed t e)) ∧
        (need = .atomic → Completes i s (fun t =>
          match (q.extAtomic c m.addr 8 m.status (m.body.getD 0 0).toNat (m.body.getD 1 0).toNat []).2 with
          | .ok old => answer t 0 0 (bytesLE 8 old)
          | .error e => failed t e)) ∧
        -- a run within a page of a scratchpad: its bytes are answered, or take the message's, and no other byte changes
        (∀ a x o, m.addr % 4096 + n ≤ 4096 → s.translate c m.addr = some a → s.place a = .core x o → s.spadPoison x o n = none →
          let others (t : State) := ∀ y, (y < spadAddr x o ∨ spadAddr x o + n ≤ y) → t.byte y = s.byte y
          let old := s.spadNat x o 8
          let arg (j : Nat) := (m.body.getD j 0).toNat
          (need = .read → Completes i s (fun t => answer t 0 0 (s.spadBytes x o n) ∧ t.mem = s.mem)) ∧
          (need = .write → Completes i s (fun t => answer t 0 0 [] ∧ t.spadBytes x o n = m.bytes ∧ others t)) ∧
          (need = .atomic → Completes i s (fun t => answer t 0 0 (bytesLE 8 old) ∧ others t ∧
            t.spadNat x o 8 = (if m.status = 1 then old + arg 0 else if m.status = 2 then arg 0
              else if m.status = 3 then (if old = arg 1 then arg 0 else old) else old ||| arg 0) % 2 ^ 64))))) ∧
    (∀ tag i, (s.opn k).ins.find? (fun x => x.tag == tag && x.type == 6) = some i →
      Completes (.mrdd k tag) s (fun t =>
        Told s t k 7 i.node tag (if i.status = 1 then i.cause else 0) ((i.data.take 1024).length / 8 - 1)
          (if i.data.length ≤ 1024 then i.status else 0) (i.data.take 1024) ∧ t.mem = s.mem ∧
        (i.data.length ≤ 1024 → t.opn k = { s.opn k with ins := (s.opn k).ins.erase i }) ∧
        (1024 < i.data.length → { i with data := i.data.drop 1024 } ∈ (t.opn k).ins))) ∧
    (∀ tag i, (s.opn k).ins.find? (fun x => x.tag == tag && (x.type == 8 || x.type == 0x0A)) = some i →
      Completes (.mcpl k tag) s (fun t => t.opn k = { s.opn k with ins := (s.opn k).ins.erase i } ∧ t.mem = s.mem ∧
        Told s t k 9 i.node tag (if i.status = 1 then i.cause else 0) 0 i.status i.data)) ∧
    (∀ off data n, k < 8 → n = data.length → n ≠ 0 → n ≤ 1024 → n % 8 = 0 →
      let o := s.opn k
      let sent (t : State) (type : Nat) (d : List Byte) := Told s t k type 0 o.nextTag off (n / 8 - 1) 0 d ∧ t.mem = s.mem ∧
        (t.opn k).outs = o.outs ++ [⟨o.nextTag, type, 0, n / 8 - 1⟩] ∧ (t.opn k).nextTag = (o.nextTag + 1) % 2 ^ 16 ∧
        (t.opn k).hubCred = o.hubCred - 1
      (¬Serves s k → exec (.ordMsg k off n) s = .next (s.emit "window-unavailable" [k, off] []) ∧
        exec (.owr k off data) s = .next (s.emit "window-unavailable" [k, off] [])) ∧
      (Serves s k → (o.feat / 4 % 2 = 0 ∨ s.windowBytes k < off + n) →
        exec (.ordMsg k off n) s = .next (s.emit "address-error" [0x300000000000 + k * 2 ^ 40 + off] []) ∧
        exec (.owr k off data) s = .next (s.emit "address-error" [0x300000000000 + k * 2 ^ 40 + off] [])) ∧
      (Serves s k → off + n ≤ s.windowBytes k → o.feat / 4 % 2 = 1 → o.hubCred = 0 →
        exec (.ordMsg k off n) s = .next s ∧ exec (.owr k off data) s = .next s) ∧
      (Serves s k → off + n ≤ s.windowBytes k → o.feat / 4 % 2 = 1 → o.hubCred ≠ 0 → TagFree s k →
        Completes (.ordMsg k off n) s (fun t => sent t 0x0B []) ∧ Completes (.owr k off data) s (fun t => sent t 0x0D data))) ∧
    (∀ ws o, (s.opn k).outs.find? (fun y => y.tag == (bmlOf ws).tag) = some o →
      let m := bmlOf ws
      (Sent s k ws 0x0C → Completes (.ordd k ws) s (fun t => (t.opn k).outs = (s.opn k).outs.erase o ∧ t.mem = s.mem ∧
        t.out = s.out ++ [⟨"window-data", [k, m.tag, m.status], m.bytes⟩])) ∧
      (Sent s k ws 0x0E → Completes (.ocpl k ws) s (fun t => (t.opn k).outs = (s.opn k).outs.erase o ∧ t.mem = s.mem ∧
        t.out = s.out ++ [⟨"window-written", [k, m.tag, m.status], []⟩]))) ∧
    (∀ seq i u a, seq ≠ 0 → i < 256 →
      (∀ j < i, bitsOf (s.rd (fltRec 16 j 0)) 31 24 ≠ 0x3 ∨ bitsOf (s.rd (fltRec 16 j 1)) 31 0 ≠ seq) →
      bitsOf (s.rd (fltRec 16 i 0)) 31 24 = 0x3 → bitsOf (s.rd (fltRec 16 i 1)) 31 0 = seq →
      s.translate (bitsOf (s.rd (fltRec 16 i 0)) 44 40) (bitsOf (s.rd (fltRec 16 i 2)) 47 0) = some a →
      s.ownerAt a = some u → s.cro.running = true → s.faultUsed u < 256 →
      Completes (.nodeFaultCopy seq) s (fun v => v.get (fFltProd u) = (s.get (fFltProd u) + 1) % 2 ^ 32 ∧
        bitsOf (v.rd (fltRec u (s.get (fFltProd u) % 256) 0)) 35 32 = u ∧
        (∀ w, 2 ≤ w → w < 8 → v.rd (fltRec u (s.get (fFltProd u) % 256) w) = s.rd (fltRec 16 i w)) ∧ v.mem = s.mem))

/-- Life of an open site. The site of a chiplet powers up and initialises, a blank one stays blank; training gives the highest
rate of both limits and the largest power-of-two set of modules, and without a module or a rate the link is lost. A lane is
repaired, a module leaves. The hub sends its descriptor first; the guest's is judged, and DACK makes the site active, or
isolates it with the check's cause. HEART, CREDIT and GERR have their effect, and what does not come in time, or GALERT, isolates
the site with its cause, the lower-numbered of two of one cycle; so does firmware. A rejoin is refused while the cause is below 5 or the third in 24 h has been (R416 to
R447). -/
def Obligations.OpenSiteLink : Prop :=
  ∀ (s : State) (k : Nat), k < 8 →
    let o := s.opn k
    (o.due = true → o.rails = false → s.get fBootMode < 2 → 5 ∈ s.cro.ended →
      (s.openCarries k = true → Completes (.openSitePowerUp k) s (fun t => t.get (fOsLstate k) = 1 ∧
        t.opn k = { o with rails := true, released := true, due := false })) ∧
      (s.openCarries k = false → Completes (.openSitePowerUp k) s (fun t => t.get (fOsLstate k) = 6 ∧
        t.opn k = { o with due := false }))) ∧
    (∀ rate ok lanes, s.get (fOsLstate k) = 1 → o.released = true → o.link = false →
      let r := ucieRate rate (s.get (fOsRateMax k))
      let width := max (s.bondCode (openSite k)) (moduleWidth (bitCount (moduleSet ok) 4))
      (width ≠ 3 → r ≠ 0 → Completes (.ucieTrain k rate ok lanes) s (fun t => t.get (fOsLstate k) = 2 ∧
        t.get (fOsRate k) = r ∧ t.get (fOsMods k) = moduleSet ok ∧ t.opn k = { o with link := true } ∧
        t.get (fSiteWidth (openSite k)) = width ∧
        (width ≠ 0 → CapUnit.net ∈ t.fell) ∧
        ∀ m < 4, t.get (fOsLanes k m) = lanes.getD m 0 % 256)) ∧
      (width = 3 ∨ r = 0 → Completes (.ucieTrain k rate ok lanes) s (fun t => IsolatedWith t k 1))) ∧
    (∀ m < 4, 2 ≤ s.get (fOsLstate k) → s.get (fOsLstate k) ≤ 4 → s.get (fOsMods k) / 2 ^ m % 2 = 1 →
      Completes (.ucieModuleLoss k m true) s (fun t => t.get (fOsLanes k m) = (s.get (fOsLanes k m) + 1) % 256 ∧
        t.get (fOsMods k) = s.get (fOsMods k) ∧ t.opens = s.opens) ∧
      (moduleSet (s.get (fOsMods k) - 2 ^ m) ≠ 0 → Completes (.ucieModuleLoss k m false) s (fun t =>
        t.get (fOsMods k) = moduleSet (s.get (fOsMods k) - 2 ^ m) ∧ CapUnit.net ∈ t.fell ∧
        (s.get (fOsLstate k) = 3 → t.get (fOsLstate k) = 4))) ∧
      (moduleSet (s.get (fOsMods k) - 2 ^ m) = 0 → Completes (.ucieModuleLoss k m false) s (fun t => IsolatedWith t k 1))) ∧
    (∀ a b d, s.get (fOsLstate k) = 2 → o.link = true →
      Completes (.descMsg k (.hub a b d)) s (fun t => t.opn k = { o with guestCred := 64 } ∧ t.regs = s.regs ∧
        ∃ bs, bs.length = 32 ∧ Told s t k 0x10 0 0 0 0 0 bs) ∧
      (∀ cause, o.dack = some cause → cause ≠ 0 → cause < 256 → Completes (.dack k (.hub a b d)) s (fun t => IsolatedWith t k cause)) ∧
      (o.dack = some 0 → Completes (.dack k (.hub a b d)) s (fun t => t.get (fOsLstate k) = 3 ∧
        t.get (fSiteState (openSite k)) = 2 ∧ t.get (fOsMaker k) = bitsOf (s.rd (osDesc k 0)) 47 32 ∧
        t.get (fOsPwrDecl k) = bitsOf (s.rd (osDesc k 2)) 7 0 ∧ t.get (fOsNodes k) = bitsOf (s.rd (osDesc k 2)) 39 32 ∧
        (t.opn k).hubCred = bitsOf (s.rd (osDesc k 2)) 47 40 ∧ (t.opn k).dack = none))) ∧
    (∀ ws, s.get (fOsLstate k) = 2 → o.link = true → s.bmlBad k ws = false → (bmlOf ws).type = 0x10 → o.dack = none →
      let d := (bmlOf ws).body.take (bitsOf ((bmlOf ws).body.getD 0 0) 15 8)
      Completes (.descMsg k (.guest ws)) s (fun t => (t.opn k).dack = some (s.descCause k d) ∧
        ∀ i < 256, t.rd (osDesc k i) = d.getD i 0)) ∧
    (o.link = true → s.get (fOsLstate k) ≤ 4 → ∀ a b d, Completes (.heart k (.hub a b d)) s (fun t =>
      Told s t k 0x12 0 0 0 0 0 [] ∧ { t with out := s.out } = s)) ∧
    (∀ ws, Sent s k ws 0x13 →
      let v := bitsOf ((bmlOf ws).body.getD 0 0) 15 0
      let tj : Int := s.get (fOsTjMax k)
      let l := s.get (fOsLevel k)
      ((tj + 3) * 64 ≤ signed16 v → Completes (.treport k ws) s (fun t => t.get (fOsTguest k) = v ∧ IsolatedWith t k 6)) ∧
      ((tj - 5) * 64 ≤ signed16 v → signed16 v < (tj + 3) * 64 → Completes (.treport k ws) s (fun t =>
        t.get (fOsTguest k) = v ∧ t.get (fOsLevel k) = min 7 (l + 1) ∧ (l < 7 → (t.opn k).thr = true))) ∧
      ((tj - 8) * 64 ≤ signed16 v → signed16 v < (tj - 5) * 64 → Serves s k → Completes (.treport k ws) s (fun t =>
        t.get (fOsTguest k) = v ∧ t.get (fOsLevel k) = l)) ∧
      (signed16 v < (tj - 8) * 64 → l < 8 → Completes (.treport k ws) s (fun t => t.get (fOsTguest k) = v ∧
        t.get (fOsLevel k) = max (min l (s.capLevel k)) (l - 1)))) ∧
    (∀ ws, Sent s k ws 0x12 → exec (.heart k (.guest ws)) s = .next s) ∧
    (∀ ws, Sent s k ws 0x11 → exec (.dack k (.guest ws)) s = .next s) ∧
    (Serves s k → o.thr = true → s.capLevel k ≤ s.get (fOsLevel k) → Completes (.throttle k) s (fun t =>
      Told s t k 0x14 0 0 0 0 (s.get (fOsLevel k)) [] ∧ t.opn k = { o with thr := false })) ∧
    (∀ ws, Sent s k ws 0x15 → Completes (.credit k (.guest ws)) s (fun t =>
      t.opn k = { o with hubCred := o.hubCred + (bmlOf ws).addr % 2 ^ 16 } ∧ t.regs = s.regs)) ∧
    (∀ a b d, o.freed ≠ 0 → o.link = true → Completes (.credit k (.hub a b d)) s (fun t =>
      Told s t k 0x15 0 0 o.freed 0 0 [] ∧ t.opn k = { o with freed := 0, guestCred := o.guestCred + o.freed })) ∧
    (∀ ws, Sent s k ws 0x16 → Completes (.gerr k ws) s (fun t => t.opens = s.opens ∧ t.mem = s.mem ∧
      t = s.openEvent k 0x54 ((bmlOf ws).body.getD 0 0))) ∧
    (s.get (fOsLstate k) = 2 → o.dack = none → Completes (.descriptorTimeout k) s (fun t => IsolatedWith t k 3 ∧
      ∃ e ∈ t.out, e.kind = "bml" ∧ e.args = [k, 0x11, 0, 0, 0, 0, 3])) ∧
    (InUse s k → o.link = true → Completes (.heartbeatLoss k) s (fun t => IsolatedWith t k 7)) ∧
    (Serves s k → Completes (.treportMissing k) s (fun t => IsolatedWith t k 6)) ∧
    (InUse s k → o.released = true → Completes (.galertAsserted k) s (fun t => IsolatedWith t k 0xA)) ∧
    -- of two causes of one cycle the lower-numbered is recorded (R450)
    (s.justIsolated k = true →
      let least (i : Instr) (c : Nat) := Completes i s (fun t => t.get (fOsCause k) = min c (s.get (fOsCause k)) ∧
        OnlyField s t (fOsCause k))
      least (.heartbeatLoss k) 7 ∧ least (.treportMissing k) 6 ∧ least (.galertAsserted k) 0xA ∧ least (.openSiteCurrentLimit k) 5) ∧
    (s.get fBootMode ≠ 4 → ∀ w, setsReserved (osCtl k) w = false →
      (InUse s k → bitsOf w 0 0 = 1 → bitsOf w 1 1 = 0 → Completes (.osIsolate k w) s (fun t => IsolatedWith t k 9)) ∧
      (bitsOf w 0 0 = 0 → bitsOf w 1 1 = 1 →
        let recent := o.rejoinAt.filter (fun t => decide (s.now < t + 8640000000000))
        (s.get (fOsLstate k) ≠ 5 ∨ s.get (fOsCause k) < 5 ∨ 3 ≤ recent.length → Completes (.osRejoin k w) s (fun t =>
          t.get (fOsRjerr k) = 1 ∧ t.get (fOsLstate k) = s.get (fOsLstate k) ∧ t.opens = s.opens)) ∧
        (s.get (fOsLstate k) = 5 → 5 ≤ s.get (fOsCause k) → recent.length < 3 → Completes (.osRejoin k w) s (fun t =>
          t.get (fOsLstate k) = 0 ∧ t.get (fOsCause k) = 0 ∧ t.get (fOsRejoins k) = recent.length + 1 ∧
          t.get (fSiteState (openSite k)) = 1 ∧ t.opn k = { o with due := true, rejoinAt := recent ++ [s.now] })))) ∧
    (∀ u w, u < 16 → s.get fBootMode ≠ 4 → setsReserved (osGrant k u) w = false → Completes (.osGrantWrite k u w) s (fun t =>
      t.get (fGrantEn k u) = bitsOf w 0 0 ∧ t.get (fGrantLabel k u) = bitsOf w 3 1 ∧ t.get (fGrantPtask k u) = bitsOf w 13 4 ∧
      OnlyRegs s t [osGrant k u]))

/-! ## Host tiles (13) -/

/-- A state in which everything but what the host tile holds, the registers, events and what has been sent is as before. -/
def HostOnly (s t : State) : Prop :=
  t.mem = s.mem ∧ t.cores = s.cores ∧ t.tasks = s.tasks ∧ t.net = s.net ∧ t.dma = s.dma ∧ t.bks = s.bks

/-- The link and the port: PERST_N and a lost link take the lanes and freeze an up port; the link coming up brings a down port
up. A quiesced port with no command left stops, a release brings it up again with every queue disabled. FLR, D3hot and the
return to D0 of a function, and the invalidation of cached translations (R451 to R458, R477 to R485; 09 R333). -/
def Obligations.HostPorts : Prop :=
  ∀ (s : State) (q : Nat), q < 4 →
    let h := s.host q
    (∀ lost absorbed, s.get (fPortState q) = 1 → Completes (.perstNAssert q lost absorbed) s (fun t =>
      t.get (fPortState q) = 3 ∧ t.get (fPortLanes q) = 0 ∧ (t.host q).linkUp = false ∧ (t.host q).perstHigh = false ∧
      (t.host q).atc = [] ∧ (t.host q).noTr = [] ∧ (t.host q).d3 = [] ∧ (t.host q).cfg = [] ∧
      (∀ f < 17, t.get (fFstFlr q f) = 0) ∧ ∀ c ∈ (t.host q).cmds, c.mute = true)) ∧
    (∀ trig lost absorbed, s.get (fPortState q) = 1 → Completes (.hostLinkDown q trig lost absorbed) s (fun t =>
      t.get (fPortState q) = 3 ∧ t.get (fPortLanes q) = 0 ∧ (t.host q).linkUp = false ∧ (t.host q).quiescing = false ∧
      (t.host q).cfg = [] ∧ (t.host q).d3 = [] ∧ ∀ c ∈ (t.host q).cmds, c.mute = true)) ∧
    (∀ lanes speed, s.flag (fClkRun 22) = true → h.perstHigh = true → (lanes = 1 ∨ lanes = 2 ∨ lanes = 4 ∨ lanes = 8 ∨ lanes = 16) →
      1 ≤ speed → speed ≤ 6 → Completes (.hostLinkUp q lanes speed) s (fun t =>
      t.get (fPortLanes q) = lanes ∧ t.get (fPortSpeed q) = speed ∧ (t.host q).linkUp = true ∧
      t.get (fPortState q) = (if s.get (fPortState q) = 0 then 1 else s.get (fPortState q)) ∧ HostOnly s t)) ∧
    (h.perstHigh = false → ∀ lanes speed, exec (.hostLinkUp q lanes speed) s = .next s) ∧
    (s.get fBootMode ≠ 4 → s.get (fPortState q) = 1 → Completes (.portQuiesce q) s (fun t => t.host q = { h with quiescing := true } ∧
      { t with hosts := s.hosts } = s)) ∧
    (h.quiescing = true → h.cmds = [] → h.cutDue = [] → (∀ f i, s.cqOwes q f i = false) → Completes (.quiesceComplete q) s (fun t => t.get (fPortState q) = 2 ∧
      t.get (fPortQdone q) = 1 ∧ (t.host q).quiescing = false ∧ HostOnly s t)) ∧
    (h.quiescing = true → (h.cmds ≠ [] ∨ h.cutDue ≠ []) → exec (.quiesceComplete q) s = .next s) ∧
    (2 ≤ s.get (fPortState q) → h.linkUp = true → s.get fBootMode ≠ 4 → Completes (.portRelease q true) s (fun t =>
      t.get (fPortState q) = 1 ∧ t.get (fPortQdone q) = 0 ∧ HostOnly s t ∧
      (∀ c ∈ (t.host q).cmds, c.f < 17 → c.hold = false ∧ c.mute = true) ∧
      ∀ f < 17, ∀ i < fnQueues f, t.get (fSqEn q f i) = 0 ∧ t.get (fCqEn q f i) = 0 ∧ t.get (fSqHead q f i) = 0 ∧
        t.pair q f i = QPair.init)) ∧
    exec (.portRelease q false) s = .next s ∧
    (∀ f < 17,
      Completes (.flr q f false) s (fun t => t.get (fFstFlr q f) = 1 ∧ HostOnly s t ∧
        ∀ c ∈ (t.host q).cmds, c.f = f → c.mute = true) ∧
      (s.get (fFstFlr q f) = 1 → Completes (.flr q f true) s (fun t => t.get (fFstFlr q f) = 0 ∧ HostOnly s t ∧
        (∀ i < fnQueues f, t.get (fSqEn q f i) = 0 ∧ t.get (fCqEn q f i) = 0) ∧ (∀ c ∈ (t.host q).cmds, c.f = f → c.hold = false ∧ c.mute = true) ∧
        (∀ src < 2048, t.isArmed q f src = false) ∧ t.rd (hepIvec q f) = regReset (hepIvec q f) ∧
        ∀ v < fnVectors f, t.rd (msixHi q f v) = regReset (msixHi q f v))) ∧
      Completes (.d3hotEntry q f) s (fun t => f ∈ (t.host q).d3 ∧ { t with hosts := s.hosts } = s) ∧
      Completes (.returnToD0 q f) s (fun t => f ∉ (t.host q).d3 ∧ (t.host q).pairs = h.pairs ∧ { t with hosts := s.hosts } = s) ∧
      (∀ page n, s.get (fPortState q) = 1 → Completes (.atsInvalidation q f page n) s (fun t =>
        (∀ x, x ∈ (t.host q).atc ↔ x ∈ h.atc ∧ ¬(x.1 = f ∧ page ≤ x.2 ∧ x.2 < page + n)) ∧
        (∀ x, x ∈ (t.host q).noTr ↔ x ∈ h.noTr ∧ ¬(x.1 = f ∧ page ≤ x.2 ∧ x.2 < page + n)) ∧
        t.out = s.out ++ [⟨"ats-invalidation-completion", [q, f, page, n], []⟩] ∧ t.regs = s.regs)))

/-- The cached translations of host tile q between two states, after a use of host pages `used` by function f, `got` what the
host answered: at most 1,024; a page without a usable translation is kept as such and asked for no more; without ATS Enable
nothing is asked (09 R332; 13 R476). -/
def Cached (s t : State) (q f : Nat) (used : List Nat) (got : Option Translations) : Prop :=
  let h := s.host q
  let h' := t.host q
  let g := got.getD ⟨[], []⟩
  (s.atsOn q f = false → h'.atc = h.atc ∧ h'.noTr = h.noTr) ∧
  (s.atsOn q f = true → h'.atc.length ≤ 1024 ∧ (∀ x ∈ h.noTr, x ∈ h'.noTr) ∧
    (∀ p ∈ used, p ∉ g.got → (f, p) ∉ h.atc → (f, p) ∈ h'.noTr) ∧ ∀ x ∈ h'.atc, x ∈ h.atc ∨ (x.1 = f ∧ x.2 ∈ used ∧ x.2 ∈ g.got))

/-- Functions and queues. A binding to a tenant that another function has is refused, so are a window past the end of the DVA
space and a move of an up function with a queue enabled. A queue register write that breaks the rules sets cfgerr and changes nothing else; enabling starts at index 0. A
doorbell within the depth moves the tail or the head, one beyond it is an error. The tile fetches the next entry of the queue
it serves next; a failed fetch disables that queue. A completion is written once its CQ has room (R454, R460, R464 to R471). -/
def Obligations.HostQueues : Prop :=
  ∀ (s : State) (q f : Nat), q < 4 → f < 17 →
    (∀ w, s.get fBootMode ≠ 4 → setsReserved (htBind q f) w = false →
      let en := bitsOf w 63 63
      let moves := en ≠ s.get (fBindEn q f) ∨ bitsOf w 62 59 ≠ s.get (fBindTenant q f)
      (∀ x, en = 1 → s.bindingOf (bitsOf w 62 59) = some x → x ≠ (q, f) →
        exec (.htBindWrite q f w) s = .next (s.refuseWrite (0x200000000000 + htBind q f) 3)) ∧
      ((s.bindingOf (bitsOf w 62 59) = none ∨ s.bindingOf (bitsOf w 62 59) = some (q, f)) → en = 1 →
        2 ^ 48 < 4096 * bitsOf w 47 12 + s.windowSize q f →
        exec (.htBindWrite q f w) s = .next (s.refuseWrite (0x200000000000 + htBind q f) 1)) ∧
      ((en = 0 ∨ s.bindingOf (bitsOf w 62 59) = none ∨ s.bindingOf (bitsOf w 62 59) = some (q, f)) →
        (en = 1 → 4096 * bitsOf w 47 12 + s.windowSize q f ≤ 2 ^ 48) →
        (∀ i < fnQueues f, moves → s.get (fPortState q) = 1 → s.get (fSqEn q f i) = 1 →
          exec (.htBindWrite q f w) s = .next (s.refuseWrite (0x200000000000 + htBind q f) 2)) ∧
        ((∀ i < fnQueues f, s.get (fSqEn q f i) = 0 ∧ s.get (fCqEn q f i) = 0) → s.get (fPortState q) < 2 →
          Completes (.htBindWrite q f w) s (fun t => t.get (fBindEn q f) = en ∧ t.get (fBindTenant q f) = bitsOf w 62 59 ∧
            t.get (fBindLabel q f) = bitsOf w 58 56 ∧ t.get (fBindWbase q f) = bitsOf w 47 12 ∧
            t.get (fBindAdmin q f) = (if f = 0 then bitsOf w 55 55 else 0) ∧
            OnlyRegs { s with hosts := t.hosts } t [htBind q f] ∧
            (∀ p < 4, { t.host p with served := (s.host p).served } = s.host p) ∧
            (en = 1 → bitsOf w 62 59 ∈ (t.host q).served ∧ ∀ p < 4, p ≠ q → bitsOf w 62 59 ∉ (t.host p).served))))) ∧
    (∀ i w, s.queueHere q f i = true →
      (setsReserved (sqCtl q f i) w = false → s.get (fSqEn q f i) = 0 →
        (bitsOf w 7 4 = 0 ∨ 12 < bitsOf w 7 4 ∨ (bitsOf w 0 0 = 1 ∧ s.get (fCqEn q f i) = 0) →
          exec (.queueEnable q f i 1 w) s = .next (s.set (fFstCfgerr q f) 1)) ∧
        (1 ≤ bitsOf w 7 4 → bitsOf w 7 4 ≤ 12 → bitsOf w 0 0 = 1 → s.get (fCqEn q f i) = 1 →
          Completes (.queueEnable q f i 1 w) s (fun t => t.get (fSqEn q f i) = 1 ∧ t.get (fSqK q f i) = bitsOf w 7 4 ∧
            t.get (fSqHead q f i) = 0 ∧ (t.pair q f i).sqTail = 0 ∧ HostOnly s t))) ∧
      (setsReserved (cqCtl q f i) w = false → s.get (fCqEn q f i) = 0 → 1 ≤ bitsOf w 7 4 → bitsOf w 7 4 ≤ 12 →
        bitsOf w 50 40 < fnVectors f → bitsOf w 0 0 = 1 → Completes (.queueEnable q f i 3 w) s (fun t =>
          t.get (fCqEn q f i) = 1 ∧ t.get (fCqK q f i) = bitsOf w 7 4 ∧ t.get (fCqVec q f i) = bitsOf w 50 40 ∧
          (t.pair q f i).cqHead = 0 ∧ (t.pair q f i).cqTail = 0 ∧ (t.pair q f i).phase = true ∧ t.isArmed q f (4 + i) = true ∧
          HostOnly s t)) ∧
      (∀ idx, s.get (fFstFlr q f) = 0 →
        (s.get (fSqEn q f i) = 1 → idx < s.sqDepth q f i → Completes (.sqTailDoorbell q f i idx) s (fun t =>
          t.pair q f i = { s.pair q f i with sqTail := idx } ∧ { t with hosts := s.hosts } = s)) ∧
        (s.get (fSqEn q f i) = 0 → idx < s.sqDepth q f i → exec (.sqTailDoorbell q f i idx) s = .next s) ∧
        (s.sqDepth q f i ≤ idx → exec (.sqTailDoorbell q f i idx) s = .next (s.set (fSqErr q f i) 1)) ∧
        (s.get (fCqEn q f i) = 1 → idx < s.cqDepth q f i → idx ≠ (s.pair q f i).cqHead →
          Completes (.cqHeadDoorbell q f i idx) s (fun t => t.pair q f i = { s.pair q f i with cqHead := idx } ∧
            t.isArmed q f (4 + i) = true ∧ { t with hosts := s.hosts } = s)) ∧
        (s.get (fCqEn q f i) = 0 ∨ idx = (s.pair q f i).cqHead → idx < s.cqDepth q f i →
          exec (.cqHeadDoorbell q f i idx) s = .next s) ∧
        (s.cqDepth q f i ≤ idx → exec (.cqHeadDoorbell q f i idx) s = .next (s.set (fCqErr q f i) 1)))) ∧
    (∀ i ws, s.nextQueue q = some (256 * f + i) → i < 256 →
      (∀ pages, Completes (.sqFetch q ⟨ws, pages⟩) s (fun t => ∃ c : HostCmd, (t.host q).cmds = (s.host q).cmds ++ [c] ∧ c.id = s.nextId ∧ c.f = f ∧
        c.i = i ∧ c.cid = bitsOf (entryWord ws 0) 47 32 ∧ c.op = bitsOf (entryWord ws 0) 23 16 ∧
        s.boundTo q f = some c.tenant ∧ c.fin = (if entryBad ws = true then some (0x01, 0, 0) else none) ∧ (t.host q).last = some (256 * f + i) ∧
        t.get (fSqHead q f i) = (s.get (fSqHead q f i) + 1) % s.sqDepth q f i % 4096 ∧ t.nextId = s.nextId + 1 ∧ HostOnly s t ∧
        (∃ l, t.out = s.out ++ l ∧ ∀ e ∈ l, e.kind = "host-read") ∧
        Cached s t q f (pagesOf (4096 * s.get (fSqBase q f i) + 64 * s.get (fSqHead q f i)) 64) pages)) ∧
      Completes (.sqFetchError q) s (fun t => t.get (fSqErr q f i) = 1 ∧ t.get (fSqEn q f i) = 0 ∧
        (t.host q).cmds = (s.host q).cmds ∧ HostOnly s t)) ∧
    (∀ id c status cause result pages, s.hostCmd id = some (q, c) → c.fin = some (status, cause, result) →
      let written := c.mute = false ∧ (s.get (fPortState q) = 1 ∨ s.get (fPortState q) = 2 ∧ (s.host q).linkUp = true) ∧
        s.get (fCqEn q c.f c.i) = 1
      let at_ := 4096 * s.get (fCqBase q c.f c.i) + 16 * (s.pair q c.f c.i).cqTail
      (¬written → Completes (.cqEntryWrite ⟨id, pages⟩) s (fun t => (∀ x ∈ (t.host q).cmds, x.id ≠ id) ∧ t.out = s.out ∧ HostOnly s t)) ∧
      (written → s.cqRoom q c.f c.i = false → exec (.cqEntryWrite ⟨id, pages⟩) s = .next s) ∧
      (written → s.cqRoom q c.f c.i = true → Completes (.cqEntryWrite ⟨id, pages⟩) s (fun t => (∀ x ∈ (t.host q).cmds, x.id ≠ id) ∧
        (t.pair q c.f c.i).cqTail = ((s.pair q c.f c.i).cqTail + 1) % s.cqDepth q c.f c.i ∧ HostOnly s t ∧
        Cached s t q c.f (pagesOf at_ 16) pages ∧
        ∃ (w0 : Word) (kind : Nat), (s.atsOn q c.f = false → kind = 0) ∧
          t.out = s.out ++ [⟨"cq-entry", [q, c.f, c.i, at_, kind], bytesLE 8 w0.toNat ++ bytesLE 8 result.toNat⟩] ∧
          (c.i < 256 → c.cid < 65536 → status < 256 → cause < 256 → bitsOf w0 47 32 = c.cid ∧ bitsOf w0 55 48 = status ∧
            bitsOf w0 63 56 = cause ∧ bitsOf w0 24 24 = if (s.pair q c.f c.i).phase = true then 1 else 0)))) ∧
    (∀ u, s.bindingOf u = some (q, f) →
      let gen := BitVec.ofNat 64 (s.get (fTsqIng u))
      -- an entry that found CQ 0 full goes first
      (∀ g, (s.host q).cutDue = [(f, g)] →
        (s.cqRoom q f 0 = true → Completes (.ingestCut u) s (fun t => (t.host q).cutDue = [] ∧ t.cuts = s.cuts ∧ HostOnly s t)) ∧
        (s.cqRoom q f 0 = false → exec (.ingestCut u) s = .next s)) ∧
      (u ∈ s.cuts → (∀ x ∈ (s.host q).cutDue, x.1 ≠ f) →
        (s.paused.contains u = true ∨ 2 ≤ s.get (fPortState q) → Completes (.ingestCut u) s (fun t => t.cuts = s.cuts.erase u ∧
          t.get (fPortLost q) = (s.addSat (fPortLost q) 1).get (fPortLost q) ∧ HostOnly s t)) ∧
        (s.paused.contains u = false → s.get (fPortState q) < 2 → Completes (.ingestCut u) s (fun t => t.cuts = s.cuts.erase u ∧
          HostOnly s t ∧ (∀ c ∈ (t.host q).cmds, c.f = f → c.hold = false) ∧
          (s.get (fCqEn q f 0) = 1 → s.cqRoom q f 0 = false → (t.host q).cutDue = (s.host q).cutDue ++ [(f, gen)]) ∧
          (s.get (fCqEn q f 0) = 1 → s.cqRoom q f 0 = true → (t.pair q f 0).cqTail =
            ((s.pair q f 0).cqTail + 1) % s.cqDepth q f 0))))) ∧
    -- without MSI-X Enable no message leaves (R474)
    (s.msixOn q f = false → ∀ src i, exec (.msixMessage q f src) s = .next s ∧ exec (.cqCoalesceTimeout q f i) s = .next s) ∧
    (∀ u, s.msixOn q f = true → s.msixAllMasked q f = false → s.isArmed q f 0 = true → s.boundTo q f = some u → s.get (fIvecEnEvp q f) = 1 → s.ringUsed u true ≠ 0 →
      s.get (fMsixMask q f (s.get (fIvecVEvp q f))) = 0 → s.get (fPortState q) = 1 →
      Completes (.msixMessage q f 0) s (fun t => t.isArmed q f 0 = false ∧ t.regs = s.regs ∧ HostOnly s t ∧
        let v := s.get (fIvecVEvp q f)
        t.out = s.out ++ [⟨"msix", [q, f, v, (s.rd (msixLo q f v)).toNat, bitsOf (s.rd (msixHi q f v)) 31 0], []⟩])) ∧
    (∀ i, s.msixOn q f = true → i < fnQueues f → s.isArmed q f (4 + i) = true → s.get (fCqEn q f i) = 1 → s.get (fCqCtime q f i) ≠ 0 →
      s.cqUnread q f i ≠ 0 → s.get (fMsixMask q f (s.get (fCqVec q f i))) = 1 →
      Completes (.cqCoalesceTimeout q f i) s (fun t => t.isArmed q f (4 + i) = false ∧
        t.get (fMsixPba q f (s.get (fCqVec q f i))) = 1 ∧ t.out = s.out ∧ HostOnly s t))

/-- The work of commands and services. A copy whose extent passes moves its bytes and ends with status 0; one that meets a
fault moves none and ends with status 2 and the fault's cause, a failed host access with 4. A service of the bound tenant runs
with its own parameters; one that the safe state or a partition reset stops ends with 0x08 or 0x05, one of an administrator
asked without the right with 0x07 (R461, R466 to R469, R473, R477). -/
def Obligations.HostWork : Prop :=
  ∀ (s : State) (id q u : Nat) (c : HostCmd), s.hostCmd id = some (q, c) → c.id = id → c.tenant = u →
    s.started q c = true →
    let ended (t : State) (status cause : Nat) (result : Word) := ∃ d, t.hostCmd id = some (q, d) ∧ d.fin = some (status, cause, result)
    let ready := s.get fBootMode ≠ 4 ∧ s.fencedTen.contains u = false
    let waits (write : Bool) := s.copyWaits q c = true ∨ s.askHeld (s.hostAsker q c.f u) write c.dva c.bytes = true
    -- what goes to the host first: a command whose completion is discarded sends nothing; then the hub's requests
    let base (write : Bool) (pages : Option Translations) :=
      if c.mute = true then s
      else if write then (s.hostPages q c.f c.haddr c.bytes pages).hostReads q c.f c.haddr c.bytes pages
      else s.hostPages q c.f c.haddr c.bytes pages
    let asks (write : Bool) (pages : Option Translations) :=
      (base write pages).hubRequests ((base write pages).hostAsker q c.f u) write c.dva c.bytes
    (∀ write pages, Asked (base write pages) (asks write pages) ∧
      (c.mute = false → Cached s (base write pages) q c.f (pagesOf c.haddr c.bytes) pages)) ∧
    -- an access that fails on the way has the cause of its fault, 0x06 beyond a window's size; poison is status 3
    let broke (t : State) (e : ExtFail) := if e.cause = 0x07 then ended t 0x03 0x07 0
      else ended t 0x02 (if e.cause = 0 then 0x06 else e.cause) 0
    -- the copy's run lies within a page of the scratchpad of core x, without poison and outside sealed windows
    let onSpad (a x o : Nat) := c.dva % 4096 + c.bytes ≤ 4096 ∧ s.translate u c.dva = some a ∧ s.place a = .core x o ∧
      s.spadPoison x o c.bytes = none ∧ ∀ i < c.bytes, s.sealWindow u (c.dva + i) = none
    let started (t : State) := ∃ d, t.hostCmd id = some (q, d) ∧ d.issued = true ∧ d.fin = c.fin
    let svc (n : Nat) := c.op = 0x10 ∧ c.bytes = n ∧ ready ∧ s.cro.running = true
    (c.op = 3 → Completes (.nop id) s (fun t => ended t (if s.get fBootMode = 4 then 0x08 else 0) 0 0 ∧ HostOnly s t ∧
      t.regs = s.regs)) ∧
    (∀ data ok pages, c.op = 1 → waits true → exec (.h2dCopy id data ok pages) s = .next s) ∧
    (∀ data pages, c.op = 1 → ¬waits true →
      (ready → s.hostCheck u .write c.dva c.bytes = none →
        let bs := (asks true pages).sealBytes u c.dva ((List.range c.bytes).map (fun i => data.getD i 0))
        Completes (.h2dCopy id data true pages) s (fun t => t.mem = ((asks true pages).extWrite u c.dva bs).1.mem ∧
          match ((asks true pages).extWrite u c.dva bs).2 with
          | none => ended t 0 0 0
          | some e => broke t e) ∧
        (∀ a x o, onSpad a x o → Completes (.h2dCopy id data true pages) s (fun t => ended t 0 0 0 ∧
          (∀ i < c.bytes, t.spad x (o + i) = data.getD i 0) ∧
          ∀ y, (y < spadAddr x o ∨ spadAddr x o + c.bytes ≤ y) → t.byte y = s.byte y))) ∧
      (ready → s.hostCheck u .write c.dva c.bytes = none → Completes (.h2dCopy id data false pages) s (fun t =>
        ended t 0x04 0 0 ∧ t.mem = s.mem)) ∧
      (∀ e, ready → s.hostCheck u .write c.dva c.bytes = some e → Completes (.h2dCopy id data true pages) s (fun t =>
        ended t 0x02 e.cause 0 ∧ t.mem = s.mem)) ∧
      (s.get fBootMode = 4 → Completes (.h2dCopy id data true pages) s (fun t => ended t 0x08 0 0 ∧ t.mem = s.mem)) ∧
      (s.get fBootMode ≠ 4 → s.fencedTen.contains u = true → Completes (.h2dCopy id data true pages) s (fun t =>
        ended t 0x05 0 0 ∧ t.mem = s.mem))) ∧
    (∀ odata pages, c.op = 2 → ¬waits false → ready →
      (s.hostCheck u .read c.dva c.bytes = none →
        let r := (asks false pages).extRead u c.dva c.bytes odata
        Completes (.d2hCopy id true odata pages) s (fun t => match r.2 with
          | .error e => broke t e
          | .ok bs => ended t 0 0 0 ∧ (c.mute = false → r.1.portSends q = true →
              ∀ p ∈ cutParts 512 c.haddr bs.length, ∃ kind, ⟨"host-write", [q, c.f, p.1, kind],
                (((asks false pages).sealBytes u c.dva bs).drop (p.1 - c.haddr)).take p.2⟩ ∈ t.out)) ∧
        (∀ a x o, onSpad a x o → Completes (.d2hCopy id true odata pages) s (fun t => ended t 0 0 0 ∧ t.mem = s.mem ∧
          (c.mute = false → s.portSends q = true → ∀ p ∈ cutParts 512 c.haddr c.bytes, ∃ kind,
            ⟨"host-write", [q, c.f, p.1, kind], ((s.spadBytes x o c.bytes).drop (p.1 - c.haddr)).take p.2⟩ ∈ t.out)))) ∧
      (∀ e, s.hostCheck u .read c.dva c.bytes = some e → Completes (.d2hCopy id true odata pages) s (fun t =>
        ended t 0x02 e.cause 0 ∧ t.mem = s.mem))) ∧
    (svc 1 → c.issued = true → s.get fTrnBusy = 0 → Completes (.svcMap id) s (fun t => ended t 0 0 (s.rd trnCmdSt))) ∧
    (svc 1 → c.issued = false → s.get fTrnBusy = 0 → c.arg 0 < 128 → c.arg 1 % 4096 = 0 → c.arg 1 < 2 ^ 48 → c.arg 2 < 2 ^ 36 →
      c.arg 3 < 2 ^ 48 → c.arg 3 % 4096 < 8 →
      let s' := ((s.wr (trnStg 0) (c.args.getD 1 0)).wr (trnStg 1) (c.args.getD 2 0)).wr (trnStg 2) (c.args.getD 3 0)
      s'.stgCode u (c.arg 0) = 0 → Completes (.svcMap id) s (fun t => t.get fTrnBusy = 1 ∧ t.get (fTrnValid u (c.arg 0)) = 1 ∧
        ∃ d, t.hostCmd id = some (q, d) ∧ d.issued = true)) ∧
    (svc 2 → c.issued = false → s.get fTrnBusy = 0 → c.arg 0 < 128 → Completes (.svcUnmap id) s (fun t => t.get fTrnBusy = 1 ∧
      t.get (fTrnValid u (c.arg 0)) = 0 ∧ ∃ d, t.hostCmd id = some (q, d) ∧ d.issued = true)) ∧
    (svc 3 → s.faultTask u (c.arg 0) ≠ none → (c.arg 1 = 1 ∨ c.arg 1 = 2) → Completes (.svcResolve id) s (fun t =>
      ended t 0 0 0 ∧ t.tasks = (s.resolve u (c.arg 0) (decide (c.arg 1 = 2))).tasks)) ∧
    (svc 4 → c.issued = true → s.get fTcmdBusy = 0 → Completes (.svcLoadUnload id) s (fun t => ended t 0 0 (s.rd tsqTcmdSt))) ∧
    (svc 4 → c.issued = false → s.get fTcmdBusy = 0 → c.arg 0 = 2 → c.arg 1 < 1024 → s.tstate (c.arg 1) = 1 →
      s.tdTenant (c.arg 1) = u → s.bankNames (c.arg 1) = false → s.tdCode (c.arg 1) = 0 → Completes (.svcLoadUnload id) s (fun t =>
        t.tstate (c.arg 1) = 0 ∧ t.get fTcmdBusy = 1)) ∧
    -- a load takes the descriptor at a DVA, and then does what a write of TSQ_TCMD does
    (svc 4 → c.issued = false → s.get fTcmdBusy = 0 → c.arg 0 = 1 → c.arg 1 < 1024 → s.loaded (c.arg 1) = false →
      s.engineHeld u (c.arg 2) 128 false = false → Completes (.svcLoadUnload id) s (fun t =>
        match (s.readDva u (c.arg 2) 128).2 with
        | none => ∃ r, ended t 0x06 r 0
        | some bs =>
          let word (j : Nat) : Word := BitVec.ofNat 64 (natLE ((bs.drop (8 * j)).take 8))
          (bitsOf (word 0) 29 26 ≠ u → ended t 0x07 0 0) ∧
          -- the image may have to wait (10 R341); else the load begins, or is refused
          (bitsOf (word 0) 29 26 = u → t = s ∨ ((∀ j < 16, t.rd (tsqTd (c.arg 1) j) = word j) ∧
            (started t ∧ t.get fTcmdBusy = 1 ∧ t.tstate (c.arg 1) = 1 ∨ ∃ st r, (st = 0x06 ∨ st = 0x07) ∧ ended t st r 0))))) ∧
    (∀ n j, svc 5 → c.arg 0 = n → c.arg 1 = j → c.arg 2 = 24 → n < 64 → j < 4 → s.get (fLupTown n j) = 1 → s.get (fLupOwner n j) = u →
      Completes (.svcProbe id) s (fun t => ∃ w : Word, ended t 0 0 w ∧ bitsOf w 47 0 = s.get (fLupCnt n j))) ∧
    (svc 6 → findReg (c.arg 0) ≠ none → c.arg 0 < 2 ^ 32 →
      (s.tenantReg u (c.arg 0) = false → Completes (.svcReadreg id) s (fun t => ended t 0x07 0 0 ∧ t.regs = s.regs)) ∧
      (s.tenantReg u (c.arg 0) = true → Completes (.svcReadreg id) s (fun t => ended t 0 0 (s.readReg (c.arg 0)).2))) ∧
    (∀ n, n ∈ [0x10, 0x11, 0x12, 0x13] → svc n → c.f ≠ 0 ∨ s.get (fBindAdmin q 0) = 0 →
      Completes (if n = 0x10 then .svcRetire id else if n = 0x11 then .svcResolveGranule id else if n = 0x12 then .svcBank id
        else .svcSlotRecord id) s (fun t => ended t 0x07 0 0 ∧ t.regs = s.regs)) ∧
    (c.f = 0 → s.get (fBindAdmin q 0) = 1 →
      (∀ k, svc 0x10 → c.issued = false → c.arg 0 < 48 → c.arg 1 < s.granules → c.arg 2 < s.granules → c.arg 1 ≠ c.arg 2 →
        s.granuleNamed (c.arg 0) (c.arg 1) = false → s.granuleNamed (c.arg 0) (c.arg 2) = false →
        (List.range s.retEntries).find? (fun k => !(s.flag (fRetValid (c.arg 0) k))) = some k →
        Completes (.svcRetire id) s (fun t => started t ∧ t.get (fRetValid (c.arg 0) k) = 1 ∧
          t.get (fRetRetired (c.arg 0) k) = c.arg 1 ∧ t.get (fRetRepl (c.arg 0) k) = c.arg 2 ∧ t.get (fRetFill (c.arg 0) k) = 1)) ∧
      (∀ k, svc 0x10 → c.issued = true → c.arg 0 < 48 → c.arg 1 < 2 ^ 18 → c.arg 2 < 2 ^ 18 →
        (List.range s.retEntries).find? (fun k => s.flag (fRetValid (c.arg 0) k) && decide (s.get (fRetRetired (c.arg 0) k) = c.arg 1 ∧
          s.get (fRetRepl (c.arg 0) k) = c.arg 2)) = some k → s.flag (fRetFill (c.arg 0) k) = false →
        Completes (.svcRetire id) s (fun t => ended t 0 0 (s.rd (stkRet (c.arg 0) k)))) ∧
      (svc 0x11 → c.arg 0 < 48 → c.arg 1 < 2 ^ 18 →
        let lo := c.arg 0 * 2 ^ 38 + c.arg 1 * 2 ^ 20
        -- the requester's own poison faults on the granule, which are resolved with retry
        let own := ((s.loadedTasks.filter (fun k => s.tdTenant k == u)).map (fun k =>
          (s.task k).open_.countP (fun x => decide (x.2.1 = 0x07 ∧ lo ≤ x.2.2 ∧ x.2.2 < lo + 2 ^ 20)))).sum
        Completes (.svcResolveGranule id) s (fun t => t.mem = s.mem ∧ ended t 0 0 (BitVec.ofNat 64 own))) ∧
      (svc 0x12 → c.issued = false → c.arg 1 ≠ 0 → c.arg 1 ≤ 65536 → c.arg 0 < 2 ^ 48 → s.get fTsqSwap = 0 → s.get fAdmBusy = 0 →
        s.engineHeld u (c.arg 0) (8 * c.arg 1) false = false → Completes (.svcBank id) s (fun t =>
          match (s.readDva u (c.arg 0) (8 * c.arg 1)).2 with
          | none => ∃ r, ended t 0x06 r 0
          | some bs => started t ∧ ∀ i < c.arg 1, (t.rd (tsqProg (1 - s.get fTsqBank) i)).toNat =
              natLE ((bs.drop (8 * i)).take 8))) ∧
      (svc 0x12 → c.issued = true → s.get fAdmBusy = 0 → s.get fTsqSwap = 0 →
        Completes (.svcBank id) s (fun t => ended t 0 0 (s.rd tsqAdm))) ∧
      (svc 0x13 → c.arg 0 = 2 → c.arg 1 < 64 → s.slotNamed (c.arg 1) = false → Completes (.svcSlotRecord id) s (fun t =>
        ended t 0 0 0 ∧ t.get (fSlotValid (c.arg 1)) = 0)) ∧
      (svc 0x13 → c.arg 0 = 0 → c.arg 1 < 64 → s.flag (fSlotValid (c.arg 1)) = false → s.slotNamed (c.arg 1) = false →
        s.engineHeld u (c.arg 2) 32 false = false → Completes (.svcSlotRecord id) s (fun t =>
          match (s.readDva u (c.arg 2) 32).2 with
          | none => ∃ r, ended t 0x06 r 0
          | some bs => ended t 0 0 0 ∧ t.get (fSlotValid (c.arg 1)) = 1 ∧
              t.get (fSlotTenant (c.arg 1)) = natLE (bs.take 8) / 16 % 16 ∧
              t.get (fSlotSta (c.arg 1)) = natLE ((bs.drop 8).take 8) % 2 ^ 48 ∧
              t.get (fSlotStb (c.arg 1)) = natLE ((bs.drop 16).take 8) % 2 ^ 48)) ∧
      (svc 0x13 → c.arg 0 = 1 → c.arg 1 < 10240 → s.recordNamed (c.arg 1) = false →
        s.engineHeld u (c.arg 2) 1024 false = false → Completes (.svcSlotRecord id) s (fun t =>
          match (s.readDva u (c.arg 2) 1024).2 with
          | none => ∃ r, ended t 0x06 r 0
          | some bs => ended t 0 0 0 ∧ t.bytes (recKey (c.arg 1)) 1024 = bs)))

/-- Requests to the memory window and BAR0, which the tile answers while its link is up, once CD22 runs. A read of a bound
function whose run passes answers its bytes, in completions of at most 512 bytes, a write stores them, an atomic does its step
and answers the old value, a fault is an abort with a record; a function that is not bound, one that SR-IOV does not present, a
request beyond the window and a translated one are not supported, the safe state aborts. In recovery mode the window is the
buffer, for the tile that holds it. Configuration space answers its registers and takes what the host may set. BAR0 answers its
registers, and a size or alignment that it does not serve is an abort (R451 to R463; 16 R546). -/
def Obligations.HostWindow : Prop :=
  ∀ (s : State) (q f off : Nat), q < 4 → f < 17 →
    let answers (t : State) (kind : String) (data : List Byte) := t.out = s.out ++ [⟨kind, [q, f, off], data⟩]
    let up := s.get (fPortState q) = 1 ∨ (s.host q).linkUp = true
    let run := s.flag (fClkRun 22) = true
    let there := s.fnThere q f = true ∧ (s.host q).d3.contains f = false
    (s.flag (fClkRun 22) = false → ∀ n bs odata tr p kind x cmp, exec (.hostMemRead q f off n tr odata) s = .next s ∧
      exec (.hostMemWrite q f off bs tr p) s = .next s ∧ exec (.hostAtomicop q f off n kind x cmp odata) s = .next s) ∧
    (∀ (r : State) bs, r.get (fPortState q) = 1 ∨ (r.host q).linkUp = true →
      (r.readAnswer q f off bs).out = r.out ++ (cutParts 512 off bs.length).map (fun p =>
        ⟨"host-read-data", [q, f, p.1], (bs.drop (p.1 - off)).take p.2⟩)) ∧
    (run → s.get fBootMode ≠ 3 → up →
      (∀ n tr odata, s.boundTo q f = none → Completes (.hostMemRead q f off n tr odata) s (fun t =>
        answers t "host-unsupported" [] ∧ HostOnly s t)) ∧
      (∀ bs tr, s.boundTo q f = none → exec (.hostMemWrite q f off bs tr false) s =
        .next (s.emit "aer-unsupported-request" [q, f] [])) ∧
      (∀ u, s.boundTo q f = some u →
        let v := 4096 * s.get (fBindWbase q f) + off
        let asks (write : Bool) (n : Nat) := s.hubRequests (s.hostAsker q f u) write v n
        let held (write : Bool) (n : Nat) := s.askHeld (s.hostAsker q f u) write v n
        let fits (n : Nat) := off + n ≤ s.windowSize q f
        -- the run lies within a page of the scratchpad of core x, without poison and outside sealed windows
        let onSpad (v n a x o : Nat) := v % 4096 + n ≤ 4096 ∧ s.translate u v = some a ∧ s.place a = .core x o ∧
          s.spadPoison x o n = none ∧ ∀ i < n, s.sealWindow u (v + i) = none
        (∀ write n, Asked s (asks write n)) ∧
        (∀ n tr odata, s.get fBootMode = 4 → Completes (.hostMemRead q f off n tr odata) s (fun t =>
          answers t "host-completer-abort" [] ∧ HostOnly s t)) ∧
        (∀ n tr odata, s.get fBootMode ≠ 4 → (tr = true ∨ ¬there ∨ ¬fits n) →
          Completes (.hostMemRead q f off n tr odata) s (fun t => answers t "host-unsupported" [] ∧ HostOnly s t)) ∧
        (∀ n odata, s.get fBootMode ≠ 4 → there → fits n → s.fencedTen.contains u = true →
          Completes (.hostMemRead q f off n false odata) s (fun t => answers t "host-completer-abort" [] ∧ HostOnly s t ∧
            t.get fRstAbsorbed = min (s.get fRstAbsorbed + 1) 65535)) ∧
        (s.get fBootMode ≠ 4 → there → s.fencedTen.contains u = false →
          (∀ n odata, fits n → held false n = false →
            (∀ e, s.hostCheck u .read v n = some e → Completes (.hostMemRead q f off n false odata) s (fun t =>
              answers t "host-completer-abort" [] ∧ t.mem = s.mem)) ∧
            (s.hostCheck u .read v n = none →
              let r := (asks false n).extRead u v n odata
              exec (.hostMemRead q f off n false odata) s = .next (match r.2 with
                | .ok bs => r.1.readAnswer q f off (s.sealBytes u v bs)
                | .error e => (r.1.hostFault q f u .read e).answerHost q "host-completer-abort" [q, f, off] []) ∧
              ∀ a x o, onSpad v n a x o → Completes (.hostMemRead q f off n false odata) s (fun t => t.mem = s.mem ∧
                ∃ l, t.out = s.out ++ l ++ (cutParts 512 off n).map (fun p =>
                  ⟨"host-read-data", [q, f, p.1], ((s.spadBytes x o n).drop (p.1 - off)).take p.2⟩)))) ∧
          (∀ bs, fits bs.length → held true bs.length = false →
            (∀ e, s.hostCheck u .write v bs.length = some e → e.cause ≠ 0 → Completes (.hostMemWrite q f off bs false false) s (fun t =>
              t.mem = s.mem ∧ ∃ r : FaultWait, t.faultWait = s.faultWait ++ [r] ∧ r.queue = u ∧ r.kept = false)) ∧
            (s.hostCheck u .write v bs.length = none →
              let r := (asks true bs.length).extWrite u v (s.sealBytes u v bs)
              exec (.hostMemWrite q f off bs false false) s = .next (match r.2 with
                | none => r.1
                | some e => r.1.hostFault q f u .write e) ∧
              ∀ a x o, onSpad v bs.length a x o → Completes (.hostMemWrite q f off bs false false) s (fun t =>
                t.spadBytes x o bs.length = bs ∧
                ∀ y, (y < spadAddr x o ∨ spadAddr x o + bs.length ≤ y) → t.byte y = s.byte y))) ∧
          (∀ bs, fits bs.length → exec (.hostMemWrite q f off bs false true) s = .next (s.emit "aer-poisoned-tlp" [q, f] [])) ∧
          (∀ n kind x cmp odata, (n = 4 ∨ n = 8) → v % n = 0 → 1 ≤ kind → kind ≤ 3 → fits n → held true n = false →
            s.hostCheck u .atomic v n = none →
            let r := (asks true n).extAtomic u v n kind x cmp odata
            exec (.hostAtomicop q f off n kind x cmp odata) s = .next (match r.2 with
              | .ok old => r.1.answerHost q "host-atomic-data" [q, f, off] (bytesLE n old)
              | .error e => (r.1.hostFault q f u .atomic e).answerHost q "host-completer-abort" [q, f, off] []) ∧
            ∀ a y o, onSpad v n a y o → Completes (.hostAtomicop q f off n kind x cmp odata) s (fun t =>
              let old := s.spadNat y o n
              t.spadNat y o n = (if kind = 1 then old + x else if kind = 2 then x else if old = cmp then x else old) % 256 ^ n ∧
              (∀ b, (b < spadAddr y o ∨ spadAddr y o + n ≤ b) → t.byte b = s.byte b) ∧
              ∃ l, t.out = s.out ++ l ++ [⟨"host-atomic-data", [q, f, off], bytesLE n old⟩])) ∧
          (∀ n kind x cmp odata, ((n ≠ 4 ∧ n ≠ 8) ∨ v % n ≠ 0 ∨ kind = 0 ∨ 3 < kind ∨ ¬fits n) →
            Completes (.hostAtomicop q f off n kind x cmp odata) s (fun t => answers t "host-unsupported" [] ∧ HostOnly s t))))) ∧
    (run → s.get fBootMode = 3 → s.recHold = some q →
      (∀ bs odata, off + bs.length ≤ 2 ^ 23 → up →
        Completes (.hostMemWrite q 0 off bs false false) s (fun t => (∀ i, (h : i < bs.length) → t.bufByte (off + i) = bs[i]) ∧
          (∀ a, (a < off ∨ off + bs.length ≤ a) → t.bufByte a = s.bufByte a) ∧ { t with cro := s.cro } = s) ∧
        exec (.hostMemRead q 0 off bs.length false odata) s =
          .next (s.readAnswer q 0 off ((List.range bs.length).map (fun i => s.bufByte (off + i))))) ∧
      (∀ bs, (f ≠ 0 ∨ 2 ^ 23 < off + bs.length) →
        exec (.hostMemWrite q f off bs false false) s = .next (s.emit "aer-unsupported-request" [q, f] []))) ∧
    -- configuration space: the Type 0 header, the vendor-specific body, and what the host sets (R453, R456, R457, R459)
    (run → up → (s.get fBootMode = 3 → f = 0) → s.fnThere q f = true →
      (∀ o size ok, s.cro.retry.contains q = true → Completes (.bar0Access q f (2 ^ 20 + o) size none ok) s (fun t =>
        t.out = s.out ++ [⟨"host-config-retry", [q, f, o], []⟩] ∧ HostOnly s t)) ∧
      (∀ o w ok, s.cro.retry.contains q = false →
        ((f = 0 ∧ (o, w) ∈ [(0x00, 0x4B641F4A), (0x08, 0x12000000 + s.get fDevStepping), (0x34, 0x40)]) ∨
         (f ≠ 0 ∧ (o, w) ∈ [(0x00, 0xFFFFFFFF), (0x10, 0), (0x34, 0x50)]) ∨
         (∃ i h, i < 4 ∧ h < 2 ∧ o = 0x40C + 8 * i + 4 * h ∧ w = (([packW [(1, 0), (4, 8), (q, 16), (f, 24)], s.rd devId,
            s.ident.getD 1 0, packW [(if s.get (fBindEn q f) = 1 then s.get (fBindTenant q f) else 0, 0), (s.get (fBindEn q f), 4),
              (s.get (fBindAdmin q f), 5), (s.get fMgtSlot % 8, 8)]].getD i 0).toNat / 2 ^ (32 * h) % 2 ^ 32))) →
        Completes (.bar0Access q f (2 ^ 20 + o) 4 none ok) s (fun t =>
          t.out = s.out ++ [⟨"host-config-data", [q, f, o], bytesLE 4 w⟩] ∧ HostOnly s t)) ∧
      (∀ w ok, s.cro.retry.contains q = false → Completes (.bar0Access q f (2 ^ 20 + 0x50) 4 (some w) ok) s (fun t =>
        (t.msixOn q f = true ↔ bitsOf w 31 31 = 1) ∧ (t.msixAllMasked q f = true ↔ bitsOf w 30 30 = 1) ∧ HostOnly s t)) ∧
      (∀ w ok, s.cro.retry.contains q = false → f = 0 → Completes (.bar0Access q 0 (2 ^ 20 + 0x10) 4 (some w) ok) s (fun t =>
        t.cfgRead q 0 0x10 = bitsOf w 31 19 * 2 ^ 19 + 4 ∧ t.regs = s.regs ∧ HostOnly s t))) ∧
    (run → up → s.fnThere q f = false → ∀ size ok, Completes (.bar0Access q f off size none ok) s (fun t =>
      answers t "host-unsupported" [] ∧ HostOnly s t)) ∧
    (run → up → (s.get fBootMode = 3 → f = 0) → s.fnThere q f = true → off < 2 ^ 20 →
      (∀ size ok, (size ≠ 4 ∧ size ≠ 8) ∨ off % size ≠ 0 → Completes (.bar0Access q f off size none ok) s (fun t =>
        answers t "host-completer-abort" [] ∧ HostOnly s t)) ∧
      (∀ u i ok w, s.boundTo q f = some u → i < fnQueues f → w < 4096 →
        exec (.bar0Access q f (0x1000 + 8 * i) 8 (some (BitVec.ofNat 64 w)) ok) s = exec (.sqTailDoorbell q f i w) s ∧
        exec (.bar0Access q f (0x1800 + 8 * i) 8 (some (BitVec.ofNat 64 w)) ok) s = exec (.cqHeadDoorbell q f i w) s) ∧
      (∀ u ok, s.boundTo q f = some u → Completes (.bar0Access q f 0x018 8 none ok) s (fun t => HostOnly s t ∧
        t.out = s.out ++ [⟨"host-read-data", [q, f, 0x018], bytesLE 8 (s.get (fTsqIng u))⟩])) ∧
      (∀ v w ok, v < fnVectors f → s.get (fMsixMask q f v) = 1 → s.get (fMsixPba q f v) = 0 →
        Completes (.bar0Access q f (0x20000 + 16 * v) 8 (some w) ok) s (fun t => t.rd (msixLo q f v) = w ∧
          OnlyRegs s t [msixLo q f v])))

/-! ## Tenancy (14) -/

/-- The register of tenant u holds the fields of a word that leaves it valid, and each tile of the word that is not kept out
of service is owned by u. -/
def TenantHolds (t : State) (u : Nat) (w : Word) (fresh : List Nat) : Prop :=
  t.flag (fTenValid u) = true ∧ t.get (fTenConf u) = bitsOf w 62 62 ∧ t.get (fTenTiles u) = bitsOf w 47 0 ∧
  t.get (fTenState u) = 1 ∧ ∀ n ∈ fresh, t.get (fTileOwner n) = u ∧ t.get (fTileState n) = 1

/-- Tenants. A write of TEN_CFGu with valid := 1 creates the tenant on free tiles when tiles is not empty, its state is none,
the life-cycle state permits its conf, and a confidential tenant has a key digest; the tiles change hands in the same write.
A later write adds free tiles and removes unused ones, which are scrubbed; conf may not change. A write that breaks these is
refused, with event 0x07 as its one effect (R488, R489). -/
def Obligations.TenantTiles : Prop :=
  ∀ (s : State) (u : Nat) (w : Word), u < 16 → s.get fBootMode ≠ 4 → setsReserved (tenCfg u) w = false → bitsOf w 63 63 = 1 →
    let new := bitsOf w 47 0
    let free (n : Nat) : Prop := s.get (fTileState n) = 0
    let conf := bitsOf w 62 62
    let old := s.get (fTenTiles u)
    (s.flag (fTenValid u) = false →
      (new ≠ 0 → s.get (fTenState u) = 0 → (∀ n ∈ maskTiles new, free n) →
        (conf = 1 → s.lcsNow = 2 ∧ ∃ j < 4, s.rd (tenKey u j) ≠ 0) → (conf = 0 → s.lcsNow = 2 ∨ s.lcsNow = 3) →
        Completes (.tenantCreate u w) s (fun t => TenantHolds t u w (maskTiles new) ∧
          OnlyRegs s t (tenCfg u :: (maskTiles new).map tenTile))) ∧
      (new = 0 → exec (.tenantCreate u w) s = .next (s.refuseWrite (regAddr (tenCfg u)) 1)) ∧
      (new ≠ 0 → (∃ n ∈ maskTiles new, ¬ free n) → exec (.tenantCreate u w) s = .next (s.refuseWrite (regAddr (tenCfg u)) 2))) ∧
    (s.flag (fTenValid u) = true →
      exec (.tenantCreate u w) s = .next s ∧
      ((∀ n ∈ maskTiles old, n ∈ maskTiles new) → conf = s.get (fTenConf u) →
        (∀ n ∈ maskTiles new, n ∉ maskTiles old → free n) →
        Completes (.tenantAddTiles u w) s (fun t => TenantHolds t u w ((maskTiles new).filter (fun n => n ∉ maskTiles old)) ∧
          OnlyRegs s t (tenCfg u :: (maskTiles new).map tenTile))) ∧
      ((∃ n ∈ maskTiles old, n ∉ maskTiles new) → conf = s.get (fTenConf u) →
        (∀ n ∈ maskTiles new, n ∉ maskTiles old → free n) → (∀ n ∈ maskTiles old, n ∉ maskTiles new → s.tileUnused n = true) →
        Completes (.tenantRemoveTiles u w) s (fun t =>
          TenantHolds t u w ((maskTiles new).filter (fun n => n ∉ maskTiles old)) ∧
          (∀ n ∈ maskTiles old, n ∉ maskTiles new → t.get (fTileOwner n) = s.get (fTileOwner n) ∧
            t.get (fTileState n) = (if s.get (fTileState n) = 3 then 3 else 2) ∧ ∀ x ∈ t.lines, 64 * x.1 / 2 ^ 38 ≠ n) ∧
          (∃ x, t.sec.scrubs = s.sec.scrubs ++ [x] ∧ x.tenant = u ∧ x.torn = false ∧
            ∀ n < 48, n ∈ maskTiles x.tiles ↔ n ∈ maskTiles old ∧ n ∉ maskTiles new) ∧ t.mem = s.mem ∧ t.cores = s.cores)) ∧
      (conf ≠ s.get (fTenConf u) → (∀ n ∈ maskTiles old, n ∈ maskTiles new) →
        exec (.tenantAddTiles u w) s = .next (s.refuseWrite (regAddr (tenCfg u)) 2)))

/-- Teardown and scrub. A write of valid := 0 to a tenant without loaded tasks or regions ends its sessions, erases its
window keys, unbinds its functions, clears its context, permits, grants, guarantees, sequence slots and records, empties its
queues, and starts the scrub of its tiles; during a partition reset of the tenant it waits. When the scrub is done, every
byte of the scrubbed tiles' stacks and scratchpads is zero, their cores are cleared, the tiles are free, the signed report
names them, and event 0x73 follows (R488, R513, R515, R516). -/
def Obligations.TenantTeardown : Prop :=
  ∀ (s : State) (u : Nat), u < 16 → s.get fBootMode ≠ 4 →
    (∀ w, setsReserved (tenCfg u) w = false → bitsOf w 63 63 = 0 → s.flag (fTenValid u) = true →
      (s.fencedTen.contains u = true → (∀ x ∈ s.sec.tearWait, x.1 ≠ u) → exec (.tenantTeardown u w) s =
        .next { s with sec := { s.sec with tearWait := s.sec.tearWait ++ [(u, w)] } }) ∧
      (s.fencedTen.contains u = false →
        ((∃ k ∈ s.loadedTasks, s.tdTenant k = u) ∨ (∃ n ∈ s.tenTiles u, s.hasRegion n = true) →
          exec (.tenantTeardown u w) s = .next (s.refuseWrite (regAddr (tenCfg u)) 2)) ∧
        ((∀ k ∈ s.loadedTasks, s.tdTenant k ≠ u) → (∀ n ∈ s.tenTiles u, s.hasRegion n = false) →
          Completes (.tenantTeardown u w) s (fun t =>
            t.flag (fTenValid u) = false ∧ t.get (fTenState u) = 2 ∧ (∀ x ∈ t.sec.sessions, x.bound ≠ some u) ∧
            (∀ i < 8, t.flag (fSealValid u i) = false ∧ smLookup t.sealKeys (8 * u + i) = none) ∧ t.functionsOf u = [] ∧
            (∀ e < 128, t.flag (fTrnValid u e) = false) ∧ (∀ i < 32, t.flag (fPermValid u i) = false) ∧
            (∀ k < 8, t.rd (osGrant k u) = 0) ∧ (∀ g < 128, t.flag (fSlgValid g) = true → t.get (fSlgTenant g) ≠ u) ∧
            t.slotsOf u = [] ∧ t.recordsOf u = [] ∧ t.get (fEvqPprod u) = 0 ∧ t.get (fEvqPcons u) = 0 ∧
            t.get (fEvqNprod u) = 0 ∧ t.get (fEvqNcons u) = 0 ∧ t.entrySeq u true = 1 ∧ t.entrySeq u false = 1 ∧
            t.rd (grdFloor u) = regReset (grdFloor u) ∧
            (∀ n < 64, ∀ j < 4, t.flag (fLupTown n j) = true → t.get (fLupOwner n j) ≠ u) ∧
            (∀ n ∈ s.tenTiles u, t.get (fTileState n) = (if s.get (fTileState n) = 3 then 3 else 2) ∧
              ∀ x ∈ t.lines, 64 * x.1 / 2 ^ 38 ≠ n) ∧
            (∃ x, t.sec.scrubs = s.sec.scrubs ++ [x] ∧ x.tenant = u ∧ x.torn = true ∧ x.tiles = s.get (fTenTiles u)) ∧
            t.cores = s.cores)))) ∧
    (∀ x, s.scrubOf u = some x → Completes (.teardownScrubDone u) s (fun t =>
      (∀ n ∈ maskTiles x.tiles, s.get (fTileState n) = 2 → t.rd (tenTile n) = 0 ∧
        (∀ a, n * 2 ^ 38 ≤ a → a < (n + 1) * 2 ^ 38 → t.byte a = 0) ∧
        ∀ cx cy, cx < 80 → cy < 80 → (t.core (coreAddr n cx cy)).mode = .idle ∧ (t.core (coreAddr n cx cy)).pc = 0 ∧
          (∀ r, (t.core (coreAddr n cx cy)).sreg r = 0) ∧ ∀ o < 2 ^ 15, t.spad (coreAddr n cx cy) o = 0) ∧
      -- a tile out of service is given back when the tenant is torn down, not before
      (∀ n ∈ maskTiles x.tiles, s.get (fTileState n) = 3 →
        t.rd (tenTile n) = if x.torn = true then 0 else s.rd (tenTile n)) ∧
      (∀ n < 48, n ∉ maskTiles x.tiles → ∀ a, n * 2 ^ 38 ≤ a → a < (n + 1) * 2 ^ 38 → t.byte a = s.byte a) ∧
      t.get (fTenState u) = (if x.torn = true then 0 else s.get (fTenState u)) ∧ t.sec.scrubs = s.sec.scrubs.erase x ∧
      ∃ report, smLookup t.sec.reports u = some report ∧ report.length = 16 ∧
        bitsOf (report.getD 0 0) 23 16 = (if x.torn = true then 0x20 else 0x21) ∧
        bitsOf (report.getD 0 0) 27 24 = u ∧ report.getD 1 0 = s.ident.getD 1 0)) ∧
    (s.scrubOf u = none → exec (.teardownScrubDone u) s = .next s)

/-- Permits, the commons, the configuration digest and firmware space. A permit entry takes its fields, and one with a
malformed range of nodes is refused with reason 1. A region is defined on the granules of an owned stack, apart from other
regions; sealing needs every entry that maps it read-only and gives those entries the commons mark, and a sealed region may
not be removed. A granule of a region goes out for reload, one at a time on a stack. The digest covers the items of R510 in
order, its count advances, and event 0x70 follows. A foreign access to firmware space is an address error with event 0x09
(R492 to R496, R509, R510). -/
def Obligations.TenantConfiguration : Prop :=
  ∀ s : State,
    (∀ u i w, u < 16 → i < 32 → s.get fBootMode ≠ 4 → setsReserved (tenPerm u i) w = false →
      let lo := bitsOf w 15 0
      let hi := bitsOf w 47 32
      let sound := lo ≤ hi ∧ lo ≠ 0 ∧ hi ≠ 0 ∧ lo ≠ 0xFFFF ∧ hi ≠ 0xFFFF
      (bitsOf w 63 63 = 0 ∨ sound → Completes (.tenPermWrite u i w) s (fun t => t.get (fPermValid u i) = bitsOf w 63 63 ∧
        t.get (fPermSite u i) = bitsOf w 50 48 ∧ t.get (fPermHi u i) = hi ∧ t.get (fPermLo u i) = lo ∧
        OnlyRegs s t [tenPerm u i])) ∧
      (bitsOf w 63 63 = 1 → ¬ sound → exec (.tenPermWrite u i w) s = .next (s.refuseWrite (regAddr (tenPerm u i)) 1))) ∧
    (∀ r w, r < 64 → s.get fBootMode ≠ 4 → setsReserved (comRgn r) w = false →
      let was := s.flag (fRgnValid r) && s.flag (fRgnSealed r)
      let held (t : State) : Prop := bitsOf (t.rd (comRgn r)) 63 4 = bitsOf w 63 4
      let marked (c e a b : Nat) : Prop := c < 16 ∧ ∃ x, s.trnEntry c e = some x ∧ x.tgt < b ∧ a < x.tgt + (x.hi - x.lo)
      (bitsOf w 63 63 = 0 → was = true → exec (.comRgnWrite r w) s = .next s) ∧
      (bitsOf w 63 63 = 0 → was = false → Completes (.comRgnWrite r w) s (fun t => held t ∧ OnlyRegs s t [comRgn r])) ∧
      (bitsOf w 63 63 = 1 → s.rgnRefusal r w ≠ 0 → exec (.comRgnWrite r w) s =
        .next (s.refuseWrite (regAddr (comRgn r)) (s.rgnRefusal r w))) ∧
      (bitsOf w 63 63 = 1 → s.rgnRefusal r w = 0 →
        (decide (bitsOf w 62 62 = 1) = was → Completes (.comRgnWrite r w) s (fun t => held t ∧ OnlyRegs s t [comRgn r])) ∧
        (bitsOf w 62 62 = 1 → was = false →
          let open' := (s.targeting (rgnLo w) (rgnHi w)).any (fun x => x.2.2.w || x.2.2.a)
          (open' = true → exec (.comRgnWrite r w) s = .next s) ∧
          (open' = false → Completes (.comRgnWrite r w) s (fun t => held t ∧ t.mem = s.mem ∧ t.cores = s.cores ∧
            ∀ c e, e < 128 → marked c e (rgnLo w) (rgnHi w) → t.flag (fTrnCommons c e) = true))) ∧
        (bitsOf w 62 62 = 0 → was = true →
          let lo := rgnLo (s.rd (comRgn r))
          let hi := rgnHi (s.rd (comRgn r))
          let foreign := (s.targeting lo hi).any (fun x => some x.1 != s.tileOwner (s.get (fRgnStack r)))
          (foreign = true → exec (.comRgnWrite r w) s = .next s) ∧
          (foreign = false → Completes (.comRgnWrite r w) s (fun t => held t ∧ t.mem = s.mem ∧ t.cores = s.cores ∧
            ∀ c e, e < 128 → marked c e lo hi → t.flag (fTrnCommons c e) = false))))) ∧
    (∀ r w, r < 64 → s.get fBootMode ≠ 4 → setsReserved (comRld r) w = false →
      let g := bitsOf w 17 0
      let inside := s.flag (fRgnValid r) = true ∧ s.get (fRgnFirst r) ≤ g ∧ g < s.get (fRgnFirst r) + s.get (fRgnNg r)
      let alone := ∀ i < 64, (i ≠ r ∨ s.get (fRldGranule r) ≠ g) → s.flag (fRldActive i) = true → s.flag (fRgnValid i) = true →
        s.get (fRgnStack i) ≠ s.get (fRgnStack r)
      (bitsOf w 63 63 = 1 → inside → alone → Completes (.comRldWrite r w) s (fun t => t.flag (fRldActive r) = true ∧
        t.get (fRldGranule r) = g ∧ OnlyRegs s t [comRld r])) ∧
      (bitsOf w 63 63 = 1 → ¬ (inside ∧ alone) → exec (.comRldWrite r w) s = .next s) ∧
      (bitsOf w 63 63 = 0 →
        let base (g : Nat) : Nat := s.get (fRgnStack r) * 2 ^ 38 + g * 2 ^ 20
        let writable := (s.targeting (base (s.get (fRldGranule r))) (base (s.get (fRldGranule r) + 1))).any (fun x => x.2.2.w)
        (s.flag (fRldActive r) = true → writable = true → exec (.comRldWrite r w) s = .next s) ∧
        (s.flag (fRldActive r) = false ∨ writable = false → Completes (.comRldWrite r w) s (fun t =>
          t.flag (fRldActive r) = false ∧ t.get (fRldGranule r) = g ∧ OnlyRegs s t [comRld r])))) ∧
    (∀ u, u < 16 → s.flag (fTenValid u) = true → s.cro.running = true → Completes (.configDigestUpdate u) s (fun t =>
      (∀ j < 4, t.rd (tenDig u j) = BitVec.ofNat 64 (Config.sm3 ((s.digRegs u).flatMap s.digItem) / 2 ^ (64 * j))) ∧
      t.get (fTenDgen u) = (s.get (fTenDgen u) + 1) % 2 ^ 32 ∧ t.mem = s.mem ∧ t.cores = s.cores)) ∧
    (∀ site addr write, 0x200000000000 ≤ addr → addr < 0x200100000000 → exec (.firmwareSpaceRefused site addr write) s =
      .next ((s.raiseX 16 0x09 [] (packW [(addr, 0), (site % 64, 48), (if write then 1 else 0, 56)])).emit "address-error"
        [addr] []))

/-! ## The security engine and the life cycle (14, 15) -/

/-- Session sid is as before but for what `f` changes; registers and memory stay. -/
def SessionOnly (s t : State) (sid : Nat) (f : Session → Session) : Prop :=
  t.session sid = (s.session sid).map f ∧ (∀ sid', sid' ≠ sid → t.session sid' = s.session sid') ∧ t.regs = s.regs ∧
  t.mem = s.mem ∧ t.sealKeys = s.sealKeys

/-- A vendor error is the one effect of a refused request; its reason is a free value. -/
def VendorError (s t : State) (sid : Nat) : Prop :=
  ∃ r, t = { s with out := s.out ++ [⟨"vendor-error", [sid, r], []⟩], freeCtr := s.freeCtr + 1 }

/-- Sessions. On a powered engine a supported request is answered, another is not. KEY_EXCHANGE and FINISH establish a
session where the state of the life cycle lets the engine sign and the transport has room; mutual authentication adds the
digest of the requester's key. What a signature proves is made with the alias key, which follows the fused secret and
measurement blocks 1 to 3. BIND binds an authenticated session whose key digest is the tenant's to a valid, active
tenant, else it is refused. Signed measurements carry the blocks asked for; the report of a scrub is answered. A session that
ends is gone, its windows are locked and their keys erased (R499 to R502, R507, R515). -/
def SessionsRule : Prop :=
  ∀ (s : State) (sid : Nat),
    -- an engine whose PLL lost lock refuses every request (18 R599)
    (s.secStopped = true → s.cro.aux = true → s.cro.pwrgd = true →
      (∀ port kind key, s.portCarries port = true → exec (.spdmMessage port kind sid key) s =
        .next (s.emit "spdm-error" [sid, port] [])) ∧
      (∀ i, exec (.getMeasurements sid i) s = .next (s.emit "spdm-error" [sid] [])) ∧
      (∀ u x, s.session sid = some x → Completes (.bindSession sid u) s (fun t => VendorError s t sid) ∧
        Completes (.getScrubReport sid u) s (fun t => VendorError s t sid))) ∧
    (∀ port key, s.cro.aux = true → s.cro.pwrgd = true → s.portCarries port = true → s.secStopped = false →
      exec (.spdmMessage port 0 sid key) s = .next (s.emit "spdm-response" [sid, port] []) ∧
      -- the version is 1.3 alone, the algorithms are fixed, slot 0 alone holds certificates (the codes are the model's, log 101)
      exec (.spdmMessage port 0x84 sid key) s = .next (s.emit "spdm-response" [sid, port, 0x84, 0x13] []) ∧
      exec (.spdmMessage port 0xE3 sid key) s =
        .next (s.emit "spdm-response" [sid, port, 0xE3, 2 ^ 9, 2 ^ 6, 2 ^ 7, 2 ^ 6, 2 ^ 3] []) ∧
      (key ≠ 0 → exec (.spdmMessage port 0x82 sid key) s = .next (s.emit "spdm-error" [sid, port] [])) ∧
      (∀ kind, 2 < kind → s.spdmAnswer kind key = none →
        exec (.spdmMessage port kind sid key) s = .next (s.emit "spdm-error" [sid, port] [])) ∧
      (s.get fLcsState = 2 ∨ s.get fLcsState = 3 → sid ≠ 0 → s.session sid = none →
        (s.sec.sessions.filter (fun x => x.port == port)).length < (if port = 4 then 8 else 4) → s.sec.sessions.length < 24 →
        Completes (.spdmMessage port 1 sid key) s (fun t => (∃ x : Session, t.session sid = some x ∧ x.id = sid ∧
          x.port = port ∧ x.authed = false ∧ x.bound = none) ∧ (∀ sid', sid' ≠ sid → t.session sid' = s.session sid') ∧
          t.regs = s.regs ∧ t.mem = s.mem)) ∧
      (∀ x, s.session sid = some x → x.port = port → x.authed = false → Completes (.spdmMessage port 2 sid key) s (fun t =>
        SessionOnly s t sid (fun x => { x with authed := true, key := key })))) ∧
    (∀ u x, s.session sid = some x → s.secStopped = false →
      let may := u < 16 ∧ x.authed = true ∧ x.bound = none ∧ s.flag (fTenValid u) = true ∧ s.get (fTenState u) = 1 ∧
        x.key = s.tenKeyDigest u
      (may → Completes (.bindSession sid u) s (fun t => SessionOnly s t sid (fun x => { x with bound := some u }))) ∧
      (¬ may → Completes (.bindSession sid u) s (fun t => VendorError s t sid))) ∧
    (∀ i d, s.cro.aux = true → s.cro.pwrgd = true → s.secStopped = false → s.get fLcsState = 2 ∨ s.get fLcsState = 3 → i ≠ 0xFF →
      s.measurement ((s.session sid).bind (fun x => x.bound)) i = some d →
      (i = 4 → d = [BitVec.ofNat 8 (s.get fLcsState), BitVec.ofNat 8 (s.get fLcsPos), BitVec.ofNat 8 (s.get fLcsOpens)]) ∧
      Completes (.getMeasurements sid i) s (fun t => t.out = s.out ++ [⟨"spdm-measurements", [sid],
        (BitVec.ofNat 8 i :: d) ++ s.signed (BitVec.ofNat 8 i :: d)⟩] ∧ t.regs = s.regs ∧ t.mem = s.mem ∧
        t.sec = s.sec)) ∧
    (s.cro.aux = true → s.cro.pwrgd = true → s.secStopped = false → s.get fLcsState = 2 ∨ s.get fLcsState = 3 →
      let bound := (s.session sid).bind (fun x => x.bound)
      let d := ([1, 2, 3, 4, 5, 6, 7, 8, 0x10].filterMap (fun j => (s.measurement bound j).map (fun d => BitVec.ofNat 8 j :: d))).flatten
      exec (.getMeasurements sid 0xFF) s = .next (s.emit "spdm-measurements" [sid] (d ++ s.signed d))) ∧
    (∀ u x ws, s.session sid = some x → s.secStopped = false → smLookup s.sec.reports u = some ws → exec (.getScrubReport sid u) s =
      .next (s.emit "vendor-response" [sid, 0x05] (wordBytes ws))) ∧
    Completes (.spdmSessionEnd sid) s (fun t => t.session sid = none ∧
      (∀ sid', sid' ≠ sid → t.session sid' = s.session sid') ∧ t.mem = s.mem ∧ t.cores = s.cores ∧
      ∀ u i, u < 16 → i < 8 → smLookup s.sec.opener (8 * u + i) = some sid → s.flag (fSealValid u i) = true →
        s.flag (fSealLocked u i) = false → t.flag (fSealLocked u i) = true ∧ smLookup t.sealKeys (8 * u + i) = none) ∧
    (s.cro.aux = true → s.cro.pwrgd = true → s.secStopped = false → (sid = 0 ∨ (s.session sid).isSome = true) →
      exec (.getLcNonce sid) s = .next (s.emit "vendor-response" [sid, 0x10] (bytesLE 8 (s.rd lcsNonce).toNat)))

/-- Sealed windows. A session bound to a confidential tenant opens one of its eight windows over whole pages that no other
valid window meets: the registers show it valid and unlocked, and its key derives from the session's secret, the tenant,
the window and gen. The session that opened it raises gen and gets a new key; CLOSE makes the window invalid and its key is
gone. Anything else is refused (R503, R504). -/
def SealedWindowsRule : Prop :=
  ∀ (s : State) (sid i u : Nat) (x : Session), s.session sid = some x → s.secStopped = false →
    (x.bound = none → ∀ dva npages gen, Completes (.openWindow sid i dva npages gen) s (fun t => VendorError s t sid)) ∧
    (x.bound = some u → u < 16 → i < 8 →
      (∀ dva npages gen,
        let p := dva / 4096
        let fits := s.get (fTenConf u) = 1 ∧ dva % 4096 = 0 ∧ npages ≠ 0 ∧ npages < 2 ^ 32 ∧ p + npages ≤ 2 ^ 36 ∧ gen < 2 ^ 32 ∧
          ∀ j < 8, j ≠ i → s.flag (fSealValid u j) = true →
            s.get (fSealDva u j) + s.get (fSealPages u j) ≤ p ∨ p + npages ≤ s.get (fSealDva u j)
        (fits → Completes (.openWindow sid i dva npages gen) s (fun t => t.flag (fSealValid u i) = true ∧
          t.flag (fSealLocked u i) = false ∧ t.get (fSealDva u i) = p ∧ t.get (fSealPages u i) = npages ∧
          t.get (fSealGen u i) = gen ∧
          smLookup t.sealKeys (8 * u + i) = some (Config.hkdf x.secret (sealInfo u i gen) % 2 ^ 128,
            Config.hkdf x.secret (sealInfo u i gen) / 2 ^ 128 % 2 ^ 52) ∧
          smLookup t.sec.opener (8 * u + i) = some sid ∧ t.mem = s.mem ∧ ∀ o, o ≠ sealA u i → o ≠ sealB u i → t.rd o = s.rd o)) ∧
        (¬ fits → Completes (.openWindow sid i dva npages gen) s (fun t => VendorError s t sid))) ∧
      (∀ gen,
        let newer := s.flag (fSealValid u i) = true ∧ smLookup s.sec.opener (8 * u + i) = some sid ∧
          s.get (fSealGen u i) < gen ∧ gen < 2 ^ 32
        (newer → Completes (.regen sid i gen) s (fun t => t.get (fSealGen u i) = gen ∧
          smLookup t.sealKeys (8 * u + i) = some (Config.hkdf x.secret (sealInfo u i gen) % 2 ^ 128,
            Config.hkdf x.secret (sealInfo u i gen) / 2 ^ 128 % 2 ^ 52) ∧
          t.sec = s.sec ∧ t.mem = s.mem ∧ ∀ o, o ≠ sealB u i → t.rd o = s.rd o)) ∧
        (¬ newer → Completes (.regen sid i gen) s (fun t => VendorError s t sid))) ∧
      (s.flag (fSealValid u i) = true → Completes (.closeWindow sid i) s (fun t => t.flag (fSealValid u i) = false ∧
        smLookup t.sealKeys (8 * u + i) = none ∧ smLookup t.sec.opener (8 * u + i) = none ∧ t.mem = s.mem ∧
        ∀ o, o ≠ sealA u i → o ≠ sealB u i → t.rd o = s.rd o)) ∧
      (s.flag (fSealValid u i) = false → Completes (.closeWindow sid i) s (fun t => VendorError s t sid)))

/-- The security engine: sessions and sealed windows (14). -/
def Obligations.SecurityEngine : Prop := SessionsRule ∧ SealedWindowsRule

/-- Life cycle. A request that fails a check is refused: its code stands in LCS_RESULT, a new nonce is drawn, nothing is
burned. An accepted one burns a free intent slot and then the steps up to its target, ends the user secrets where the target
is position 3 or above, shows done, and the whole-device reset follows 1 ms later. Of an OTP of 16 steps in three copies
without a torn step, a whole burn to position p' reads p' (R519, R523 to R529). -/
def Obligations.LifeCycle : Prop :=
  (∀ (s : State) (req : List Word) (regs erased : Bool), s.cro.aux = true → s.cro.pwrgd = true → s.secStopped = false →
    (regs = true ∨ (req.getD 12 0).toNat = 0 ∨ (s.session (req.getD 12 0).toNat).isSome = true) →
    let ws := if regs then (List.range 12).map (fun i => s.rd (lcsReq i)) else req.take 12
    let t' := bitsOf (ws.getD 0 0) 20 16
    let slot := (s.sec.otp.slots.findIdx? OtpSlot.free).getD 0
    let burned (n : Nat) := (s.sec.otp.burnSlot slot (Config.sm3 (wordBytes ws)) t' n).burnTo t' (n - 296)
    ∀ cut, Completes (.lcTransition req regs cut erased) s (fun t => t.mem = s.mem ∧
      if s.lcCode ws erased ≠ 0 then
        t.get fLcsCode = s.lcCode ws erased ∧ t.get fLcsErr = 1 ∧ t.rd lcsNonce = Config.nonce s.freeCtr ∧ t.sec = s.sec ∧
          t.cro = s.cro ∧ ∀ o, o ≠ lcsResult → o ≠ lcsNonce → t.rd o = s.rd o
      else match cut with
        -- power fails after n bits: what is burned so far stays, and the transition is not done
        | some n => t.sec.otp = burned n ∧ t.get fLcsBusy = 1 ∧ t.cro = s.cro
        | none => t.sec.otp = burned 65536 ∧
          t.get fLcsCode = 0 ∧ t.get fLcsErr = 0 ∧ t.get fLcsDone = 1 ∧ t.get fLcsBusy = 0 ∧ t.cro.lcDelay = true ∧
          t.rd lcsNonce = s.rd lcsNonce ∧
          (3 ≤ t' → t.sec.sessions = [] ∧ t.sealKeys = [] ∧ ∀ u < 16, ∀ j < 4, t.rd (tenKey u j) = 0) ∧
          (t' < 3 → t.sec.sessions = s.sec.sessions ∧ t.sealKeys = s.sealKeys))) ∧
  (∀ (o : Otp) (p' : Nat), o.steps.length = 16 → (∀ cs ∈ o.steps, cs.length = 3) → o.torn = false → o.pos < p' → p' ≤ 16 →
    (o.burnTo p' 65240).pos = p' ∧ (o.burnTo p' 65240).torn = false) ∧
  (∀ s : State, (s.cro.lcDelay = false → exec .lcResetDelay s = .next s) ∧
    (s.cro.lcDelay = true → Completes .lcResetDelay s (fun t => t.cores = [] ∧ t.tasks = [] ∧ t.sec.sessions = [] ∧
      t.sealKeys = [] ∧
      -- an intent that the burn left ahead is completed, and another reset follows (R529)
      t.cro.lcDelay = s.sec.otp.ahead)))

/-- The debug port serves only a powered unit outside FIELD and SCRAPPED: there an aligned read answers the 8 bytes at an
address, a write stores them, a special register reads as its core shows it; every other access is an address error. The
observation group follows TST_OBSSEL where the state and the group number permit (15 R520, R531, R532). -/
def Obligations.DebugAndObservation : Prop :=
  ∀ s : State,
    (∀ sr a w ok odata, (sr ≠ none ∨ a < 2 ^ 48) → s.cro.aux = false ∨ s.get fLcsState = 2 ∨ s.get fLcsState = 5 →
      exec (.debugPortAccess sr a w ok odata) s = .next (s.emit "debug-address-error" [a] [])) ∧
    -- boundary scan stands open, the full scan where the port does; the numbers are the model's (log 103)
    (∀ i w ok odata,
      let open' := s.cro.aux = true ∧ (i < 4 ∨ i = 4 ∧ s.get fLcsState ≠ 2 ∧ s.get fLcsState ≠ 5)
      (open' → Completes (.debugPortAccess none (2 ^ 48 + i) w ok odata) s (fun t => ∃ bs,
        t.out = s.out ++ [⟨"scan-data", [i], bs⟩] ∧ { t with out := s.out, freeCtr := s.freeCtr } = s)) ∧
      (¬ open' → exec (.debugPortAccess none (2 ^ 48 + i) w ok odata) s =
        .next (s.emit "debug-address-error" [2 ^ 48 + i] []))) ∧
    (s.cro.aux = true → s.get fLcsState ≠ 2 → s.get fLcsState ≠ 5 → ∀ a ok odata, a < 2 ^ 48 →
      (∀ w, a % 8 ≠ 0 → exec (.debugPortAccess none a w ok odata) s = .next (s.emit "debug-address-error" [a] [])) ∧
      (∀ c o, a % 8 = 0 → s.place a = .core c o → s.noCore c = false →
        (s.spadPoison c o 8 = none → exec (.debugPortAccess none a none ok odata) s =
          .next (s.emit "debug-data" [a] (s.spadBytes c o 8))) ∧
        (∀ w : Word, exec (.debugPortAccess none a (some w) ok odata) s = .next (s.setSpad c o (bytesLE 8 w.toNat)))) ∧
      (∀ off, a % 8 = 0 → s.place a = .reg off → s.gatedReg off = none → s.sramBad a = false →
        exec (.debugPortAccess none a none ok odata) s =
          .next ((s.regRead off).1.emit "debug-data" [a] (bytesLE 8 (s.regRead off).2.toNat)) ∧
        ∀ w : Word, exec (.debugPortAccess none a (some w) ok odata) s = .next (s.regWrite off w ok)) ∧
      (∀ t o, a % 8 = 0 → s.place a = .stack t o → s.stackServes t o = false → ∀ w,
        exec (.debugPortAccess none a w ok odata) s = .next (s.emit "debug-address-error" [a] [])) ∧
      (∀ n, srListed n = true → s.noCore a = false → Completes (.debugPortAccess (some n) a none ok odata) s (fun t =>
        t.out = s.out ++ [⟨"debug-data", [a, n], bytesLE 8 (s.srRead a n).toNat⟩] ∧ t.regs = s.regs ∧ t.mem = s.mem)) ∧
      (∀ n, srListed n = false → exec (.debugPortAccess (some n) a none ok odata) s =
        .next (s.emit "debug-address-error" [a] []))) ∧
    (∀ w, s.get fBootMode ≠ 4 → setsReserved tstObssel w = false →
      let may := s.get fLcsState ≠ 2 ∧ s.get fLcsState ≠ 5 ∧ bitsOf w 2 0 ≤ 5
      (may → Completes (.tstObsselWrite w) s (fun t => t.get fObsUnit = bitsOf w 13 8 ∧ t.get fObsGrp = bitsOf w 2 0 ∧
        OnlyRegs s { t with out := s.out } [tstObssel] ∧
        ∃ v : BitVec 16, t.out = s.out ++ [⟨"obs-pins", [v.toNat], []⟩] ∧
          (bitsOf w 2 0 = 0 → v.toNat % 8 = s.get fTsqPhase ∧ v.getLsbD 3 = s.cro.faultN ∧
            v.getLsbD 4 = s.cro.thermN ∧ v.getLsbD 5 = decide (s.get fBootMode = 4) ∧ v.getLsbD 6 = s.cro.crystal))) ∧
      (¬ may → exec (.tstObsselWrite w) s = .next s))

/-! ## Resets, scan and the known-answer rotation (16; 17 R573, R574) -/

/-- Core c is as after reset, with a zero scratchpad. -/
def ClearedCore (t : State) (c : Nat) : Prop :=
  (t.core c).mode = .idle ∧ (t.core c).pc = 0 ∧ (∀ r, (t.core c).sreg r = 0) ∧ ∀ o < 2 ^ 15, t.spad c o = 0

/-- A reset request is refused with a code, its one effect. -/
def ResetRefused (s t : State) (code : Nat) : Prop := t.get fRstCode = code ∧ t.get fRstErr = 1 ∧ OnlyRegs s t [rstStat]

/-- What a whole-device reset leaves (R556): no core, task, message, queue, session or cache line keeps anything, registers
are at their reset values, the fused ones and the strap keep theirs, stacks and scratchpads still hold their bytes. -/
def WholeResetLeaves (s t : State) : Prop :=
  t.cores = [] ∧ t.tasks = [] ∧ t.net = [] ∧ t.dma = [] ∧ t.bks = [] ∧ (∀ q, { t.host q with perstHigh := false } = HostTile.fresh) ∧ t.opens = [] ∧ t.lines = [] ∧
  t.sec.sessions = [] ∧ t.sealKeys = [] ∧ t.hubTime = 0 ∧ t.seq = Seq.init ∧ t.cro.running = false ∧
  t.get fMgtSlot = s.get fMgtSlot ∧ t.rd devId = s.rd devId ∧ (∀ off ∈ plainRegs, t.rd off = regReset off) ∧
  (∀ a < 0x400000000000, t.byte a = s.byte a) ∧ t.pending = s.pending

/-- Resets by RST_CTL. A core that is not absent is cleared, and the task that owns it is Aborted; a loaded task's group is
cleared and it is Aborted; a valid tenant's partition is fenced and its tasks are Aborted, and when its answers are in, or
after 100 µs, its cores are cleared, its DMA commands and awaited answers dropped and the fence ends. Whole-device scope and
RST_N low reset the package. A reserved value is refused with code 1, an invalid target with 2, a busy unit with 3, a package
that is not ready with 4; whole scope is taken in every mode (R552 to R556). -/
def Obligations.ResetScopes : Prop :=
  ∀ (s : State) (w : Word), bitsOf w 63 36 = 0 → bitsOf w 28 20 = 0 →
    let firm := s.get fBootMode ≠ 4
    let go := s.flag fRstBusy = false ∧ s.ready = true
    (bitsOf w 31 29 = 1 → s.absent (bitsOf w 19 0) = false → firm → go → Completes (.resetCore w) s (fun t =>
      ClearedCore t (bitsOf w 19 0) ∧ t.get fRstDone = 1 ∧ t.get fRstErr = 0 ∧
      ∀ k < 1024, (s.core (bitsOf w 19 0)).task = some k → s.loaded k = true → t.tstate k = tsAborted)) ∧
    (bitsOf w 31 29 = 1 → s.absent (bitsOf w 19 0) = true → firm → Completes (.resetCore w) s (fun t => ResetRefused s t 2)) ∧
    (bitsOf w 31 29 = 0 ∨ 4 < bitsOf w 31 29 → firm → Completes (.resetCore w) s (fun t => ResetRefused s t 1)) ∧
    (bitsOf w 31 29 = 2 → firm →
      let k := bitsOf w 9 0
      (s.loaded k = true → go → Completes (.resetGroup w) s (fun t => t.tstate k = tsAborted ∧
        t.get fRstDone = 1 ∧ t.get fRstErr = 0 ∧ ∀ c ∈ s.group k, ClearedCore t c)) ∧
      (s.loaded k = false → Completes (.resetGroup w) s (fun t => ResetRefused s t 2)) ∧
      (s.loaded k = true → s.flag fRstBusy = true → Completes (.resetGroup w) s (fun t => ResetRefused s t 3))) ∧
    (bitsOf w 31 29 = 3 → firm → s.flag (fTenValid (bitsOf w 35 32)) = true →
      (go → Completes (.resetPartition w) s (fun t => t.fencedTen = s.fencedTen ++ [bitsOf w 35 32] ∧
        t.cro.resetOf = some (bitsOf w 35 32) ∧ t.get fRstBusy = 1 ∧ t.get fRstDone = 0 ∧ t.mem = s.mem ∧
        ∀ k ∈ s.loadedTasks, s.tdTenant k = bitsOf w 35 32 → t.tstate k = tsAborted)) ∧
      (s.flag fRstBusy = false → s.ready = false → Completes (.resetPartition w) s (fun t => ResetRefused s t 4))) ∧
    (∀ u < 16, s.cro.resetOf = some u → smLookup s.sec.tearWait u = none → Completes .partitionResetTimeout s (fun t => u ∉ t.fencedTen ∧
      t.cro.resetOf = none ∧ t.get fRstBusy = 0 ∧ t.get fRstDone = 1 ∧
      -- the answers that cores of the partition awaited are dropped, no others (11 R392)
      (∀ a, a ∈ t.hub.awaits ↔ a ∈ s.hub.awaits ∧
        ¬(a.fw = false ∧ a.tenant = u ∧ a.site % 16 ≤ 11 ∧ siteTile a.site ∈ s.tenTiles u)) ∧
      ∀ n ∈ s.tenTiles u, (∀ d ∈ t.dma, isCore d.2.core = true → coreTile d.2.core ≠ n) ∧
        ∀ cx cy, cx < 80 → cy < 80 → ClearedCore t (coreAddr n cx cy))) ∧
    -- a teardown write that came during the reset is carried out after it (14 R516)
    (∀ u w', s.cro.resetOf = some u → smLookup s.sec.tearWait u = some w' → Completes .partitionResetTimeout s (fun t =>
      u ∉ t.fencedTen ∧ t.cro.resetOf = none ∧ ∀ x ∈ t.sec.tearWait, x.1 ≠ u)) ∧
    (s.cro.resetOf = none → exec .partitionResetTimeout s = .next s) ∧
    (bitsOf w 31 29 = 4 → Completes (.resetWhole w) s (fun t => WholeResetLeaves s t)) ∧
    (s.cro.aux = true → Completes .rstNLow s (fun t => WholeResetLeaves s t ∧ t.cro.rstN = false ∧ 3 ∉ t.cro.ended))

/-- In-field scan and the known-answer rotation. Without a store nothing is scanned. In the guard band a slice whose cores are free is scanned, and the position
moves on to the next block, after 768 blocks to the next set; a visit that finds a condition unmet counts as skipped, one cut short as
aborted, one with a core that differs as failed, and that core runs its known-answer test again. A tile runs its next cores
in rotation, none of a task at work. A passing run is noted; a first failing one is repeated; the second failure makes the
core permanently wrong, a pass after a failure is a transient (R557 to R560; 17 R573, R574, R576). -/
def Obligations.ScanAndRotation : Prop :=
  ∀ s : State,
    (∀ bad rail aborted, s.flag fFscanNostore = true → exec (.scanSlice bad rail aborted) s = .next s) ∧
    (∀ bad rail aborted, s.flag fFscanNostore = false →
      let b := s.get fFscanBlock
      let moved (t : State) : Prop := t.mem = s.mem ∧ t.cores = s.cores ∧
        t.get fFscanBlock = (if b + 1 < 768 then b + 1 else 0) ∧
        t.get fFscanSet = if b + 1 < 768 then s.get fFscanSet else (s.get fFscanSet + 1) % 64
      (s.scanOn = false ∨ s.sweepDue = true ∨ s.sliceFits b rail = false → Completes (.scanSlice bad rail aborted) s (fun t =>
        moved t ∧ t.get fFscanSkip = min (s.get fFscanSkip + 1) 65535 ∧ t.cro = s.cro)) ∧
      (s.scanOn = true → s.sweepDue = false →
      (s.sliceFits b rail = true → aborted = true → Completes (.scanSlice bad rail aborted) s (fun t => moved t ∧
        t.get fFscanAbort = min (s.get fFscanAbort + 1) 255 ∧ t.cro = s.cro)) ∧
      (s.sliceFits b rail = true → aborted = false →
        (bad = [] → Completes (.scanSlice bad rail aborted) s (fun t => moved t ∧
          t.get fFscanPass = min (s.get fFscanPass + 1) 65535 ∧
          ∀ p ∈ sliceCores b, smLookup t.cro.katPass p = some (s.tick, s.now))) ∧
        (∀ i p c, (sliceCores b)[i]? = some p → i ∈ bad → s.logicalOf p = some c →
          Completes (.scanSlice bad rail aborted) s (fun t => moved t ∧ t.get fFscanFail = min (s.get fFscanFail + 1) 65535 ∧
            (smLookup t.cro.katAgain p).isSome = true))))) ∧
    -- the fault sweep and retraining come before the rotation (10 R369)
    (∀ n < 48, s.sweepDue = true ∨ s.retraining n = true → exec (.katRun n) s = .next s) ∧
    (∀ n < 48, s.seq.inGuard = true → s.get (fSiteState (tileSite n)) ≠ 5 → (∀ p ∈ s.cro.kat, p / 8192 ≠ n) →
      s.sweepDue = false → s.retraining n = false →
      Completes (.katRun n) s (fun t => t.mem = s.mem ∧ t.cores = s.cores ∧ t.net = s.net ∧
        ((∀ k < 1024, s.tstate k ≠ tsCarried) → { t with cro := s.cro } = s) ∧ ∃ runs, t.cro.kat = s.cro.kat ++ runs ∧
        runs.length ≤ s.katCount ∧ ∀ p ∈ runs, p / 8192 = n ∧ s.coreTaken p = false ∧
          ((s.logicalOf p).isSome = true ∨ s.freeRowSpare p = true))) ∧
    (∀ p mask, p ∈ s.cro.kat →
      let unit (part : Nat) := s.namedCore p + part * 2 ^ 20 + p % 8192 % 84 * 2 ^ 23
      (smLookup s.cro.katAgain p = none → mask % 16 = 0 → Completes (.katResult p mask) s (fun t => p ∉ t.cro.kat ∧
        smLookup t.cro.katPass p = some (s.tick, s.now) ∧ { t with cro := s.cro } = s)) ∧
      (smLookup s.cro.katAgain p = none → mask % 16 ≠ 0 → Completes (.katResult p mask) s (fun t =>
        smLookup t.cro.katAgain p = some (mask % 16) ∧ (p ∈ t.cro.kat ∨ p ∈ t.cro.katHeld) ∧ { t with cro := s.cro } = s)) ∧
      (∀ b, smLookup s.cro.katAgain p = some b → Completes (.katResult p mask) s (fun t => p ∉ t.cro.kat ∧
        smLookup t.cro.katAgain p = none ∧ t.mem = s.mem ∧ t.cores = s.cores ∧
        (mask % 16 = 0 → ∃ d, ⟨2, 0x01, unit (partOf b), d⟩ ∈ t.logWait) ∧
        (mask % 16 ≠ 0 → (∃ d, ⟨3, 0x01, unit (partOf (mask % 16)), d⟩ ∈ t.logWait) ∧
          ∀ c, s.logicalOf p = some c → c ∈ t.cro.retire)))) ∧
    (∀ p mask, p ∉ s.cro.kat → exec (.katResult p mask) s = .next s)

/-! ## Reliability and repairs (17; 18 R606) -/

/-- The guarantee's conditions and the log. REL_STAT shows supply, coolant, guard floors, digests, log and the late cores, and
held only while every condition holds. Firmware writes the oldest waiting record to the log, and a record that does not read
back clears logok and asserts FAULT_N. A control core that is taken out of service leaves the active set, and a free spare
takes its logical number (R565, R568, R570; 19 R627). -/
def ReliabilityAndLogRule : Prop :=
  ∀ s : State,
    (∀ supply, s.cro.running = true → Completes (.reliabilityConditionChange supply) s (fun t =>
      t.flag fRelSupply = supply ∧
      (t.flag fRelCoolant = true ↔ s.get fCoolAge ≤ 50 ∧ 150 ≤ s.get fCoolTin ∧ s.get fCoolTin ≤ 350 ∧ 120 ≤ s.get fCoolFlow) ∧
      (t.flag fRelGuard = true ↔ ∀ u < 16, s.flag (fTenValid u) = true → ∀ cls < 3, s.get (fFloor u cls) ≠ 0) ∧
      t.flag fRelDigest = s.digestOk ∧ t.flag fRelLog = s.flag fBootLogok ∧ t.get fRelKatLate = min s.lateCores 65535 ∧
      (t.flag fRelHeld = true ↔ t.flag fRelSupply = true ∧ t.flag fRelCoolant = true ∧ t.flag fRelGuard = true ∧
        t.flag fRelDigest = true ∧ t.flag fRelLog = true ∧ s.lateCores = 0) ∧ t.mem = s.mem ∧ t.cores = s.cores)) ∧
    (∀ ok r l, s.logWait = r :: l → s.cro.running = true → Completes (.logWrite ok) s (fun t => t.logWait = l ∧ t.mem = s.mem ∧
      -- the history ring; a record of the state part is compacted with those in force into the other half (19 R630)
      (ok = true →
        let x := s.logRecord r.kind r.uclass r.unit r.detail
        let state := stateKind (x.headD 0)
        t.cro.log = logAdd s.cro.log x ∧ (state = false → t.cro.halves = s.cro.halves) ∧
        (state = true → s.cro.stateRecords.length < 4094 → t.cro.stateRecords = s.cro.stateRecords ++ [x]) ∧
        (state = true → 4094 ≤ s.cro.stateRecords.length → t.flag fBootLogok = false ∧ t.cro.halves = s.cro.halves)) ∧
      -- an image write that waited for the log goes on (19 R631)
      (∀ image, l = [] → s.cro.flashHeld = some image → t.cro.flashHeld = none ∧ ⟨"flash-write", [], image⟩ ∈ t.out) ∧
      (ok = false → t.flag fBootLogok = false ∧ t.cro.faultN = true ∧ t.cro.log = s.cro.log))) ∧
    (∀ ok, s.logWait = [] → exec (.logWrite ok) s = .next s) ∧
    (∀ w, s.get fBootMode ≠ 4 → setsReserved lspCc w = false → bitsOf w 5 5 = 1 →
      let p := bitsOf w 4 0
      let active (q : Nat) : Prop := s.get fDomActive / 2 ^ q % 2 = 1
      (¬ active p ∨ s.flag fCcBusy = true → Completes (.controlCoreOffline w) s (fun t => t.get fCcErr = 1 ∧
        OnlyRegs s t [lspCc])) ∧
      (active p → s.flag fCcBusy = false →
        (∀ q rest, s.cro.ccFree = q :: rest → q < 18 → ¬ active q → Completes (.controlCoreOffline w) s (fun t =>
          t.get fDomActive = s.get fDomActive - 2 ^ p + 2 ^ q ∧ t.get fCcDone = 1 ∧ t.cro.ccFree = rest ∧
          t.cro.cc = s.cro.cc.map (fun x => if x = some p then some q else x) ∧ t.mem = s.mem)) ∧
        (s.cro.ccFree = [] → Completes (.controlCoreOffline w) s (fun t =>
          t.get fDomActive = s.get fDomActive - 2 ^ p ∧ t.get fCcDone = 1 ∧
          t.cro.cc = s.cro.cc.map (fun x => if x = some p then none else x) ∧ t.mem = s.mem))))

/-- Repairs of bonds and regulators. The first failed lane of a group is steered to the group's spare, logged and told; a
bond steps to the width that its whole groups allow, and past quarter width its site is out. A failed phase is replaced by
a spare; with none left the rail has one phase fewer, which lowers a site's cap, takes a site out below half, and on the hub
rail is the safe state with cause 0x0A (R566, R567; 18 R606). -/
def BondsAndRegulatorsRule : Prop :=
  ∀ s : State,
    (∀ n d i, n < 64 → d < 2 → i < 1056 → 2048 * (64 * d + n) + i ∉ s.cro.lanes → s.siteServes n = true →
      Completes (.bondLaneRepair n d i) s (fun t => t.cro.lanes = s.cro.lanes ++ [2048 * (64 * d + n) + i] ∧ t.mem = s.mem ∧
        t.get (fSiteWidth n) = s.get (fSiteWidth n) ∧
        ((∀ x ∈ s.bondLanes n d, x / 33 ≠ i / 33) → t.logWait = s.logWait ++ [⟨0x01, 0x04, n, i + 2048 * d⟩]) ∧
        ((∃ x ∈ s.bondLanes n d, x / 33 = i / 33) → { t with cro := s.cro } = s))) ∧
    (∀ n, n < 64 → s.siteServes n = true →
      let w := max (bondWidth (s.bondLanes n 0)) (bondWidth (s.bondLanes n 1))
      (w ≤ s.get (fSiteWidth n) → exec (.bondWidthStep n) s = .next s) ∧
      (s.get (fSiteWidth n) < w → Completes (.bondWidthStep n) s (fun t => t.get (fSiteWidth n) = w ∧ CapUnit.net ∈ t.fell ∧
        t.mem = s.mem ∧ ⟨0x07, 0x04, n, w⟩ ∈ t.logWait ∧ (w < 3 → t.get (fSiteState n) = 3 ∧ t.cores = s.cores) ∧
        (w = 3 → n % 16 ≤ 11 → t.get (fSiteState n) = 5) ∧ (w = 3 → 12 ≤ n % 16 → t.get (fSiteState n) = 4)))) ∧
    (∀ r, r < 260 → s.cro.running = true → s.get (fRegP r) ≠ 0 →
      let w := s.get (fRegW r) - 1
      (s.get (fRegS r) ≠ 0 → Completes (.regulatorPhaseFault r) s (fun t => t.get (fRegS r) = s.get (fRegS r) - 1 ∧
        t.get (fRegW r) = s.get (fRegW r) ∧ t.logWait = s.logWait ++ [⟨0x01, 0x08, r, 0⟩] ∧ t.cro = s.cro ∧ t.mem = s.mem)) ∧
      (s.get (fRegS r) = 0 → s.get (fRegW r) ≠ 0 → Completes (.regulatorPhaseFault r) s (fun t =>
        t.get (fRegW r) = w ∧ ⟨0x03, 0x08, r, w⟩ ∈ t.logWait ∧
        (256 ≤ r → w < s.get (fRegP r) → s.get fBootMode ≠ 4 → s.get fBootMode ≠ 2 → SafeWith t 0x0A) ∧
        (r < 256 → r / 4 % 16 ≤ 11 → 2 * w < s.get (fRegP r) → t.get (fSiteState (r / 4)) = 5) ∧
        (r < 256 → r / 4 % 16 ≤ 11 → w < s.get (fRegP r) → s.get (fRegP r) ≤ 2 * w → t.get (fSitePwrCap (r / 4)) =
          min (s.get (fSitePwrCap (r / 4))) (110 * w / s.get (fRegP r))))))

/-- The reliability guarantee, its log, and the repairs of bonds and regulators (17, 18). -/
def Obligations.ReliabilityAndRepair : Prop := ReliabilityAndLogRule ∧ BondsAndRegulatorsRule

/-- Weight digests. A write of SNP_CFG or of a range is taken when the settled bytes of every stack fit
I × (G − 80) × 2,310,000, else it changes nothing and shows code 1, or 2 for a range off its stack; a package alone on its
board refuses replicas. A finished pass leaves its digest, tick and count, and the range is late no more; a pass later than I
ticks makes it late. An own copy that differs from the golden digest has the range read by another lane: the data is
diverged, or the lane was wrong. FETCH is answered with the bursts or an error, FDATA is written into a valid range (R576 to
R580). -/
def Obligations.WeightDigests : Prop :=
  ∀ s : State,
    (∀ w, s.get fBootMode ≠ 4 → setsReserved snpCfg w = false →
      let I := bitsOf w 15 0
      let refused (c : Nat) : Prop := Completes (.snpCfgWrite w) s (fun t => t.get fSnpCode = c ∧ t.get fSnpErr = 1 ∧
        OnlyRegs s t [snpStat])
      let fits := ∀ n < 48, s.settledBytes n ≤ I * ((s.get fTsqGuard - 80) * 2310000)
      (bitsOf w 55 52 ≠ 0 → 4 < s.get fMgtSlot → exec (.snpCfgWrite w) s = .next (s.refuseWrite (regAddr snpCfg) 2)) ∧
      (bitsOf w 55 52 = 0 ∨ s.get fMgtSlot ≤ 4 →
        (I = 0 → refused 2) ∧ (I ≠ 0 → ¬ fits → refused 1) ∧
        (I ≠ 0 → fits → Completes (.snpCfgWrite w) s (fun t => t.get fSnpEn = bitsOf w 63 63 ∧
          t.get fSnpPeers = bitsOf w 55 52 ∧ t.get fSnpInterval = I ∧ t.get fSnpCode = 0 ∧ t.get fSnpErr = 0 ∧
          OnlyRegs s t [snpCfg, snpStat])))) ∧
    (∀ r w, r < 256 → s.get fBootMode ≠ 4 → setsReserved (snpRng r 0) w = false →
      let new := s.writeFields (snpRng r 0) (2 ^ 64 - 1) w
      let sound := bitsOf w 63 63 = 0 ∨ bitsOf w 60 55 ≤ 47 ∧ bitsOf w 36 19 ≠ 0 ∧ bitsOf w 54 37 + bitsOf w 36 19 ≤ s.granules
      (¬ sound → Completes (.snpRngWrite r 0 w) s (fun t => t.get fSnpCode = 2 ∧ t.get fSnpErr = 1 ∧ OnlyRegs s t [snpStat])) ∧
      (sound → new.digestFits = false → Completes (.snpRngWrite r 0 w) s (fun t => t.get fSnpCode = 1 ∧
        t.get fSnpErr = 1 ∧ OnlyRegs s t [snpStat])) ∧
      (sound → new.digestFits = true → Completes (.snpRngWrite r 0 w) s (fun t =>
        t.rd (snpRng r 0) = new.rd (snpRng r 0) ∧ r ∉ t.peers.late ∧ t.get fSnpCode = 0 ∧ t.get fSnpErr = 0 ∧
        OnlyRegs { s with peers := t.peers } t [snpRng r 0, snpStat]))) ∧
    (∀ r faulty bad, r < 256 → s.get fBootMode ≠ 4 → s.flag fSnpEn = true → s.flag (fRngValid r) = true →
      s.flag (fRngSettled r) = true → s.rngWaits r = false →
      Completes (.digestPassDone r faulty bad) s (fun t => match (s.rangeDigest r).2 with
        -- a burst that cannot be read, or a range that does not answer: no digest
        | none => t = (s.rangeDigest r).1
        | some d =>
          let dig := faulty.getD d % 2 ^ 256
          t.get (fRngPtick r) = s.tick32 ∧ r ∉ t.peers.late ∧
          (∀ j < 4, t.rd (snpRng r (2 + j)) = BitVec.ofNat 64 (dig / 2 ^ (64 * j))) ∧
          (4, r, s.get (fRngLgen r), dig) ∈ t.peers.digests)) ∧
    (∀ r, r < 256 → s.flag fSnpEn = true → s.flag (fRngValid r) = true → s.flag (fRngSettled r) = true → r ∉ s.peers.late →
      let gap := (s.tick32 + 2 ^ 32 - s.get (fRngPtick r)) % 2 ^ 32
      (s.get fSnpInterval < gap → Completes (.digestRangeLate r) s (fun t => t.peers.late = s.peers.late ++ [r] ∧
        t.get fSnpLate = (s.peers.late.length + 1) % 65536 ∧ OnlyRegs { s with peers := t.peers } t [snpStat])) ∧
      (gap ≤ s.get fSnpInterval → exec (.digestRangeLate r) s = .next s)) ∧
    (∀ q r lgen dig bad own, r < 256 → s.rngWaits r = false → s.get fBootMode ≠ 4 → s.peerUp q = true → s.get fSnpPeers / 2 ^ q % 2 = 1 →
      s.flag (fRngValid r) = true → s.flag (fRngSettled r) = true → s.flag (fRngGset r) = true →
      (s.rngDigests r).find? (fun x => x.1 == 4) = some (4, own) → own ≠ s.goldOf r →
      Completes (.digestFrame q r lgen dig bad) s (fun t => (q, r, lgen, dig % 2 ^ 256) ∈ t.peers.digests ∧
        ∀ third, ((s.keepDigest q r lgen (dig % 2 ^ 256)).rangeDigest r).2 = some third →
          (third ≠ s.goldOf r → t.flag (fRngSettled r) = false ∧ ∃ x, ⟨0x0A, 0x0A, r, x⟩ ∈ t.logWait) ∧
          (third = s.goldOf r → ∃ k x, (k = 2 ∨ k = 3) ∧ ⟨k, 0x09, s.laneOf (s.get (fRngStack r)), x⟩ ∈ t.logWait))) ∧
    (∀ q n g b k, s.get fBootMode ≠ 4 → s.peerUp q = true →
      let there := n < 48 ∧ g < s.granules ∧ b + k ≤ 4096 ∧ s.runServes n (g * 2 ^ 20 + 256 * b) (256 * k) = true
      (¬ there → exec (.fetchFrame q n g b k) s = .next (s.frame q 0x09 [n, g, b, 0] [])) ∧
      -- a stack that admits no access now: thermal hold, retraining, a granule on its way out (08 R281, R285, R301)
      (there → s.runWaits n (g * 2 ^ 20 + 256 * b) (256 * k) false = true → exec (.fetchFrame q n g b k) s = .next s) ∧
      (there → s.runWaits n (g * 2 ^ 20 + 256 * b) (256 * k) false = false →
        let r := s.readStack n (g * 2 ^ 20 + 256 * b) (256 * k) 0x2
        exec (.fetchFrame q n g b k) s = .next (match r.2 with
          | some bs => r.1.frame q 0x09 [n, g, b, k] bs
          | none => r.1.frame q 0x09 [n, g, b, 0] []) ∧
        -- one burst in service: its bytes
        (let key := s.stackKey n (g * 2 ^ 20 + 256 * b)
         k = 1 → s.burstCond key (s.physCh key) = .clean → Completes (.fetchFrame q n g b k) s (fun t =>
            (∃ m, t.out = s.out ++ [⟨"peer-frame", [q, 0x09, m, n, g, b, 1], s.decoded key []⟩]) ∧ t.mem = s.mem)))) ∧
    (∀ q n g b data, s.get fBootMode ≠ 4 → s.peerUp q = true → s.inRange n g = true → data.length % 256 = 0 →
      256 * b + data.length ≤ 2 ^ 20 → s.runServes n (g * 2 ^ 20 + 256 * b) data.length = true →
      s.runWaits n (g * 2 ^ 20 + 256 * b) data.length true = false →
      exec (.fdataFrame q n g b data) s = .next (s.writeStack n (g * 2 ^ 20 + 256 * b) data).1) ∧
    (∀ q n g b data, s.inRange n g = false → exec (.fdataFrame q n g b data) s = .next s)

/-! ## The twin (17 R581 to R588; 19 R637, R639) -/

/-- The standby has become the active package: no mirror is held, the epoch has advanced, and the tasks of the mirrored
tenants stand as at task load, to run again (R586; 06 R227); other tasks and cores are as before. -/
def FailedOver (s t : State) : Prop :=
  let runs (k : Nat) : Prop := k ∈ s.loadedTasks ∧ s.mirrored (s.tdTenant k) = true
  t.get fTwnRole = 1 ∧ t.get fTwnEpoch = (s.get fTwnEpoch + 1) % 65536 ∧ t.peers.staged = none ∧ t.peers.sent = none ∧
  t.peers.asked = false ∧ t.mem = s.mem ∧
  (∀ k, runs k → t.tstate k = tsAborted ∧ (t.task k).sw = (s.group k).map (fun c => (⟨freshCore c 0, []⟩ : SlotPart)) ∧
    (t.task k).cm = (t.task k).sw ∧ t.holders k = []) ∧
  (∀ k, ¬ runs k → t.task k = s.task k) ∧ ∀ c, (∀ k, runs k → c ∉ s.group k) → t.core c = s.core c

/-- Pairing and the mirror's bounds. Packages that authenticate, have the same stacks and the same digests of every mirrored
tenant pair up; roles follow what each holds or asks for, of two that would be active the lower epoch yields, and equal
epochs or two standbys are refused, which FAULT_N shows. A mirror configuration whose largest mirror exceeds
180 × (T − G) × 1000 bytes is refused with err. The link going down ends the pairing's mirror; a port that loses lanes keeps
the rest, and below four is down (R581, R584, R587; 19 R637, R639). -/
def Obligations.TwinPairing : Prop :=
  ∀ s : State,
    (∀ auth cap digs role epoch standby, s.flag fTwnEn = true → s.peerUp (s.get fTwnPort) = true → s.get fBootMode ≠ 4 →
      s.get fTwnState ≠ 2 →
      let same := ∀ u < 16, s.mirrored u = true → (List.range 4).map (fun j => s.rd (tenDig u j)) = digs.getD u []
      let want := if s.get fTwnRole ≠ 0 then s.get fTwnRole else if s.flag fTwnStandby = true then 2 else 1
      let theirs := if role ≠ 0 then role else if standby = true then 2 else 1
      let fit := auth = true ∧ cap = s.get fDevStackCap ∧ same
      let refused := Completes (.twinPairing auth cap digs role epoch standby) s (fun t => t.get fTwnState = 4 ∧
        t.get fTwnRole = s.get fTwnRole ∧ t.cro.faultN = true ∧ t.mem = s.mem)
      let paired (r : Nat) := Completes (.twinPairing auth cap digs role epoch standby) s (fun t => t.get fTwnState = 2 ∧
        t.get fTwnRole = r ∧ t.peers.sent = none ∧ t.peers.staged = none ∧ t.mem = s.mem ∧ t.cores = s.cores)
      (¬ fit → refused) ∧
      (fit → want = 1 → theirs = 1 →
        (s.get fTwnEpoch < epoch → paired 2) ∧ (epoch < s.get fTwnEpoch → paired 1) ∧ (epoch = s.get fTwnEpoch → refused)) ∧
      (fit → want = 2 → theirs = 2 → refused) ∧
      (fit → want = 1 → theirs = 2 → paired 1) ∧ (fit → want = 2 → theirs = 1 → paired 2)) ∧
    (∀ w, s.get fBootMode ≠ 4 → setsReserved mirCfg w = false →
      let new := s.writeFields mirCfg (2 ^ 64 - 1) (w &&& ~~~ (1 : Word))
      let bound := 180 * (s.get fTsqT - s.get fTsqGuard) * 1000
      (bitsOf w 40 32 ≤ 256 → new.mirBytes ≤ bound → Completes (.mirCfgWrite none w) s (fun t =>
        t.get fMirTenants = bitsOf w 63 48 ∧ t.get fMirBulk = bitsOf w 40 32 ∧ OnlyRegs s t [mirCfg])) ∧
      (256 < bitsOf w 40 32 ∨ bound < new.mirBytes → Completes (.mirCfgWrite none w) s (fun t => t.get fMirErr = 1 ∧
        OnlyField s t fMirErr))) ∧
    (∀ k w, k < 64 → s.get fBootMode ≠ 4 → setsReserved (mirSlot k) w = false →
      let new := s.writeFields (mirSlot k) (2 ^ 64 - 1) w
      let bound := 180 * (s.get fTsqT - s.get fTsqGuard) * 1000
      (new.mirBytes ≤ bound → Completes (.mirCfgWrite (some k) w) s (fun t => t.get (fMirSlotLen k) = bitsOf w 31 8 ∧
        OnlyRegs s t [mirSlot k])) ∧
      (bound < new.mirBytes → Completes (.mirCfgWrite (some k) w) s (fun t => t.get fMirErr = 1 ∧ OnlyField s t fMirErr))) ∧
    ((s.get fTwnState = 1 ∨ s.get fTwnState = 2) → Completes .twinLinkDown s (fun t => t.get fTwnState = 3 ∧
      t.get fTwnRole = s.get fTwnRole ∧ t.peers.sent = none ∧ t.peers.staged = none ∧ t.mem = s.mem ∧ t.cores = s.cores)) ∧
    ((s.get fTwnState ≠ 1 ∧ s.get fTwnState ≠ 2) → exec .twinLinkDown s = .next s) ∧
    (∀ auth cap digs role epoch standby, s.flag fTwnEn = false ∨ s.get fTwnState = 2 ∨ s.peerUp (s.get fTwnPort) = false →
      exec (.twinPairing auth cap digs role epoch standby) s = .next s) ∧
    (∀ q n, q < 4 → s.peers.lanes.getD q 0 ≤ n → exec (.peerPortLaneLoss q ⟨n, []⟩) s = .next s) ∧
    (∀ q n power, q < 4 → n < s.peers.lanes.getD q 0 → Completes (.peerPortLaneLoss q ⟨n, power⟩) s (fun t =>
      -- the port's status reports each lane's laser power (19 R636)
      (power ≠ [] → ⟨"peer-port-status", q :: (List.range 8).map (fun i => power.getD i 0), []⟩ ∈ t.out) ∧
      t.peers.lanes = s.peers.lanes.set q n ∧ CapUnit.net ∈ t.fell ∧ t.mem = s.mem ∧
      (n < 4 → t.peerUp q = false) ∧
      (n < 4 → q = s.get fTwnPort → s.flag fTwnEn = true → (s.get fTwnState = 1 ∨ s.get fTwnState = 2) →
        t.get fTwnState = 3)))

/-- What the standby has staged for a tick's mirror: what is held where the tick is the same, else nothing yet. -/
def StagedFor (s : State) (tick : Nat) (x : Staged) : Prop :=
  (s.peers.staged = some x ∧ x.tick = tick) ∨ ((∀ y, s.peers.staged = some y → y.tick ≠ tick) ∧ x = ⟨tick, 0, [], []⟩)

/-- Mirror and failover. On the standby a position or a record of the active's mirror is held until MEND, which, when it has
as many frames as it says, applies it whole and answers MACK; one with frames missing is dropped. The active notes a tick's
MACK. NOTICE from the active, the operator's order, and a sibling's answer that the active is silent make the standby fail
over; 1 ms of silence asks the siblings. A query is answered, and a quiet port sends HEART (R583 to R588). -/
def Obligations.TwinMirror : Prop :=
  ∀ s : State,
    (∀ q tick kind target off data, s.fromActive q = false → exec (.mird q tick kind target off data) s = .next s) ∧
    (∀ q tick target off data x, s.fromActive q = true → StagedFor s tick x → target < 64 →
      Completes (.mird q tick 3 target off data) s (fun t =>
        t.peers.staged = some { x with items := x.items + 1, slots := smInsert x.slots target (1 - s.get (fSlotCsel target), natLE (data.take 4)) } ∧
        { t with peers := s.peers } = s)) ∧
    -- a stack that admits no write now has the mirror wait (08 R281, R285, R301)
    (∀ q tick kind target off data, s.mirdWaits kind target off data.length = true →
      exec (.mird q tick kind target off data) s = .next s) ∧
    -- bulk state and slot data go to the buffer that is not selected
    (∀ q tick target off data x, s.fromActive q = true → StagedFor s tick x → target < 10240 →
      s.mirdWaits 2 target off data.length = false →
      let r := s.bytes (recKey target) 1024
      Completes (.mird q tick 2 target off data) s (fun t => t.peers.staged = some { x with items := x.items + 1 } ∧
        t.mem = (s.writeMirror (recTenant r) (recBulk r (recBsel r == 0) + off) data).mem)) ∧
    (∀ q tick target off data x, s.fromActive q = true → StagedFor s tick x → target < 64 →
      s.mirdWaits 4 target off data.length = false →
      let v := if s.get (fSlotCsel target) = 0 then s.get (fSlotStb target) else s.get (fSlotSta target)
      Completes (.mird q tick 4 target off data) s (fun t => t.peers.staged = some { x with items := x.items + 1 } ∧
        t.mem = (s.writeMirror (s.get (fSlotTenant target)) (v + off) data).mem)) ∧
    (∀ q tick target off data x, s.fromActive q = true → StagedFor s tick x → target < 10240 →
      data.length = 1024 → s.mirdWaits 1 target off 1024 = false → Completes (.mird q tick 1 target off data) s (fun t =>
        t.peers.staged = some { x with items := x.items + 1, recs := smInsert x.recs target data } ∧
        ∀ j < 1024, t.byte (recKey target + j) = s.byte (recKey target + j))) ∧
    (∀ q tick n x, s.fromActive q = true → StagedFor s tick x →
      (x.items ≠ n → Completes (.mend q tick n) s (fun t => t.peers.staged = none ∧ { t with peers := s.peers } = s)) ∧
      (x.items = n → (x.recs.map Prod.fst).Nodup → (∀ y ∈ x.recs, y.1 < 10240 ∧ y.2.length = 1024) →
        (x.slots.map Prod.fst).Nodup → (∀ y ∈ x.slots, y.1 < 64) →
        Completes (.mend q tick n) s (fun t => t.peers.staged = none ∧ t.get fTwnBase = tick % 2 ^ 32 ∧
          (∀ y ∈ x.recs, ∀ j, (h : j < y.2.length) → t.byte (recKey y.1 + j) = y.2[j]) ∧
          (∀ a, (∀ y ∈ x.recs, a < recKey y.1 ∨ recKey y.1 + 1024 ≤ a) → t.byte a = s.byte a) ∧
          (∀ k c p, (k, c, p) ∈ x.slots → t.get (fSlotCsel k) = c % 2 ∧ t.get (fSlotPos k) = p % 2 ^ (fSlotPos k).width) ∧
          t.cores = s.cores ∧ ∃ m, t.out = s.out ++ [⟨"peer-frame", [q, 0x05, m, tick], []⟩]))) ∧
    (∀ q tick items, s.peers.sent = some (tick, items) → s.get fTwnRole = 1 → q = s.get fTwnPort →
      Completes (.mack q tick) s (fun t => t.get fTwnBase = tick % 2 ^ 32 ∧ t.peers.sent = none ∧ t.peers.changed = [] ∧
        OnlyField { s with peers := t.peers } t fTwnBase)) ∧
    (s.peers.sent = none → ∀ q tick, exec (.mack q tick) s = .next s) ∧
    (∀ q, s.fromActive q = true → Completes (.noticeFrame q) s (fun t => FailedOver s t)) ∧
    (∀ q, s.fromActive q = false → exec (.noticeFrame q) s = .next s) ∧
    (∀ w, s.get fBootMode ≠ 4 → setsReserved twnCfg w = false → bitsOf w 63 63 = 0 ∨ s.get fMgtSlot ≤ 4 → Completes (.twinFailover w) s (fun t =>
      t.get fTwnEn = bitsOf w 63 63 ∧ t.get fTwnPort = bitsOf w 61 60 ∧ t.get fTwnStandby = bitsOf w 59 59 ∧
      (bitsOf w 63 63 = 0 → t.get fTwnState = 0) ∧ (bitsOf w 0 0 = 1 → s.get fTwnRole = 2 → FailedOver s t) ∧
      (bitsOf w 0 0 = 0 ∨ s.get fTwnRole ≠ 2 → t.get fTwnRole = s.get fTwnRole ∧ t.get fTwnEpoch = s.get fTwnEpoch))) ∧
    (s.get fTwnRole = 2 → s.get fTwnState = 2 → s.flag fTwnAuto = true → s.get fBootMode ≠ 4 →
      Completes .twinLinkSilence s (fun t => t.peers.asked = true ∧ t.regs = s.regs ∧ t.mem = s.mem)) ∧
    (s.get fTwnRole ≠ 2 → exec .twinLinkSilence s = .next s) ∧
    (∀ q p silent, s.get fBootMode ≠ 4 → exec (.silq q p silent) s =
      .next (s.frame q 0x0B [p, if silent then 1 else 0] [])) ∧
    (∀ q, s.peers.asked = true → q ≠ s.get fTwnPort → s.peerUp q = true → s.get fBootMode ≠ 4 →
      (s.get fTwnRole = 2 → Completes (.sila q true) s (fun t => FailedOver s t)) ∧
      exec (.sila q false) s = .next { s with peers := { s.peers with asked := false } }) ∧
    (∀ q, s.get fBootMode ≠ 4 → exec (.peerHeart q) s = .next (s.frame q 0x02 [] []))

/-! ## Clocks (18 R594 to R602) -/

/-- A bit of HUB_CLKEN may be cleared: of a compute domain when its four tiles are free or out of service, of the open
sites' when none is in use, of the hosts' when no function is bound, of the peers' when no twin is enabled and no replica is
set; no other domain is gated (R596). -/
def MayGate (s : State) (m : Nat) : Prop :=
  (5 ≤ m ∧ m ≤ 16 ∧ ∀ i < 4, s.get (fTileState (4 * (m - 5) + i)) = 0 ∨ s.get (fTileState (4 * (m - 5) + i)) = 3) ∨
  (m = 21 ∧ ∀ k < 8, s.get (fOsLstate k) = 0 ∨ s.get (fOsLstate k) = 5 ∨ s.get (fOsLstate k) = 6) ∨
  (m = 22 ∧ ∀ q < 4, ∀ f < 17, s.flag (fBindEn q f) = false) ∨
  (m = 23 ∧ s.flag fTwnEn = false ∧ s.get fSnpPeers = 0)

/-- Gating. A write of HUB_CLKEN that clears a bit is refused with reason 2 unless every bit it clears may be cleared; else
those domains drain, and once drained their clocks and PLLs stop. A write that sets bits starts the PLLs, or ends a drain
that has not taken effect (R596, R597). -/
def ClockGatingRule : Prop :=
  ∀ (s : State) (w : Word), s.get fBootMode ≠ 4 → setsReserved hubClken w = false →
    let drops (m : Nat) : Prop := m < 25 ∧ s.flag (fClkEn m) = true ∧ bitsOf w m m = 0
    let sets (m : Nat) : Prop := m < 25 ∧ s.flag (fClkEn m) = false ∧ bitsOf w m m = 1
    let raised (t : State) : Prop := ∀ m, sets m → t.flag (fClkEn m) = true ∧
      t.get (fClkRun m) = s.get (fClkRun m) ∧ t.get (fClkNset m) = s.get (fClkNset m) ∧
      (if (s.clk m).drain = true then t.clk m = { s.clk m with drain := false } ∧ t.get (fClkSrc m) = s.get (fClkSrc m)
        else t.clk m = { s.clk m with on := true, locked := false } ∧ t.get (fClkSrc m) = 0)
    let changes : List Nat := hubClken :: ((List.range 25).filter (fun m => !(s.flag (fClkEn m)) && bitsOf w m m == 1)).map clkDom
    ((∃ m, drops m) →
      exec (.domainUngate w) s = .next s ∧
      ((∃ m, drops m ∧ ¬ MayGate s m) → exec (.domainGate w) s = .next (s.refuseWrite (regAddr hubClken) 2)) ∧
      ((∀ m, drops m → MayGate s m) → Completes (.domainGate w) s (fun t => raised t ∧
        (∀ m, drops m → t.flag (fClkEn m) = false ∧ t.clk m = { s.clk m with drain := true }) ∧
        OnlyRegs { s with clks := t.clks } t changes))) ∧
    ((∀ m, ¬ drops m) → exec (.domainGate w) s = .next s ∧
      Completes (.domainUngate w) s (fun t => raised t ∧ OnlyRegs { s with clks := t.clks } t changes)) ∧
    (∀ m, (s.clk m).drain = true → Completes (.domainGateEffect m) s (fun t => t.get (fClkRun m) = 0 ∧
      t.clk m = { s.clk m with drain := false, on := false, locked := false } ∧
      OnlyField { s with clks := t.clks } t (fClkRun m))) ∧
    (∀ m, (s.clk m).drain = false → exec (.domainGateEffect m) s = .next s)

/-- PLLs, bypass and ramps. A locking PLL runs its domain from it, unless a trip, a bridge voltage or the safe state holds the
clock; a compute domain begins at n = 8, and one that was gated
has its cores in their reset state. Loss of lock is the safe state for the hub and the stacks, stops CD24, and puts a
compute, open-site, host or peer domain on bypass: open sites are isolated with cause 7, host ports that are up freeze, the
twin link is down. Relock enables the PLL again; without lock in 50 µs nolock is set. n_set takes a legal value for a
compute domain, and a ramp moves n by one toward n_eff, which is never below 8 (R595, R598 to R602). -/
def PllsAndRampsRule : Prop :=
  ∀ (s : State) (m : Nat), m ≤ 24 →
    let c := s.clk m
    let safe := s.get fBootMode = 4
    (∀ ns, c.on = true → c.locked = false → (c.relock = true ∨ s.flag (fClkSrc m) = false) →
      Completes (.pllLocked m ns) s (fun t => t.get (fClkRun m) = (if s.clkHeld m then 0 else 1) ∧
      t.get (fClkSrc m) = 0 ∧ (t.clk m).locked = true ∧ (t.clk m).relock = false ∧ (t.clk m).n = 8 ∧ t.mem = s.mem ∧
      (isComp m = true → t.get (fClkNcur m) = 8) ∧
      (c.relock = true → t.get (fClkLost m) = min 65535 ((if isComp m then 20 else 40) * ns / 1000)) ∧
      (c.relock = false → isComp m = true → s.get (fClkRun m) = 0 → ∀ k, tileDom (coreTile k) = m →
        (t.core k).mode = .idle ∧ (t.core k).pc = 0))) ∧
    (∀ ns, (c.on = false ∨ c.locked = true ∨ (s.flag (fClkSrc m) = true ∧ c.relock = false)) →
      exec (.pllLocked m ns) s = .next s) ∧
    (∀ ns, m ≠ 0 → c.locked = false → exec (.pllLockLoss m ns) s = .next s) ∧
    (∀ ns, c.locked = true →
      (m = 1 ∨ m = 2 ∨ m = 3 ∨ m = 4 ∨ m = 17 ∨ m = 18 ∨ m = 19 ∨ m = 20 → s.get fBootMode ≠ 4 →
        s.get fBootMode ≠ 2 → Completes (.pllLockLoss m ns) s (fun t => t.get fBootMode = 4 ∧ t.get fBootCause = s.get fBootCause ∧
          t.cro.running = false)) ∧
      (m = 24 → Completes (.pllLockLoss m ns) s (fun t => t.get (fClkRun m) = 0 ∧ (t.clk m).locked = false ∧ t.mem = s.mem)) ∧
      (isComp m = true ∨ m = 21 ∨ m = 22 ∨ m = 23 → Completes (.pllLockLoss m ns) s (fun t => t.get (fClkSrc m) = 1 ∧
        t.get (fClkLost m) = min 65535 ((if isComp m then s.get (fClkNcur m) else if m = 22 then 80 else 128) * ns / 80) ∧
        (t.clk m).locked = false ∧ (isComp m = true → t.get (fClkNcur m) = 0) ∧
        (m = 21 → ∀ k, InUse s k → IsolatedWith t k 7) ∧
        (m = 22 → ∀ q < 4, s.get (fPortState q) = 1 → t.get (fPortState q) = 3) ∧
        (m = 23 → s.get fTwnState = 1 ∨ s.get fTwnState = 2 → t.get fTwnState = 3)))) ∧
    (∀ w, ¬ safe → setsReserved (clkDom m) w = false →
      let n := bitsOf w 25 20
      let legal := n = s.get (fClkNset m) ∨ (isComp m = true ∧ 8 ≤ n ∧ n ≤ 32)
      (bitsOf w 3 3 = 0 → legal → Completes (.nsetWrite m w) s (fun t => t.get (fClkNset m) = n ∧ t.clks = s.clks ∧
        t.get (fClkNolock m) = (if bitsOf w 2 2 = 1 then 0 else s.get (fClkNolock m)) ∧ t.mem = s.mem)) ∧
      (bitsOf w 3 3 = 0 → ¬ legal → exec (.nsetWrite m w) s = .next s) ∧
      (bitsOf w 3 3 = 1 → legal → s.get (fClkSrc m) = 1 → 5 ≤ m → m ≤ 23 → c.on = true → c.relock = false →
        Completes (.clkRelock m w) s (fun t => t.clk m = { c with relock := true, locked := false } ∧
          t.get (fClkNset m) = n ∧ t.mem = s.mem)) ∧
      (bitsOf w 3 3 = 0 → exec (.clkRelock m w) s = .next s) ∧ (bitsOf w 3 3 = 1 → exec (.nsetWrite m w) s = .next s)) ∧
    (c.relock = true → Completes (.relockTimeout m) s (fun t => t.clk m = { c with relock := false } ∧
      t.get (fClkNolock m) = 1 ∧ OnlyField { s with clks := t.clks } t (fClkNolock m))) ∧
    (c.relock = false → exec (.relockTimeout m) s = .next s) ∧
    (isComp m = true → s.get (fClkRun m) = 1 → s.get (fClkSrc m) = 0 → c.locked = true →
      let e := max 8 (min (min (s.get (fClkNset m)) (min c.therm (min c.cap c.pkg))) c.volt)
      let n := if c.n < e then c.n + 1 else if e < c.n then c.n - 1 else c.n
      Completes (.freqRampStep m) s (fun t => t.clk m = { c with n := n } ∧ t.get (fClkNcur m) = n % 64 ∧ t.mem = s.mem ∧
        t.cores = s.cores))

/-- Clock domains: gating, PLLs, ramps (18). -/
def Obligations.Clocks : Prop := ClockGatingRule ∧ PllsAndRampsRule

/-! ## Heat, power and coolant (18 R603 to R619) -/

/-- Sensors and the thermal loop. A valid reading is shown; a compute site without one shows the throttle threshold, 95 °C,
and is remembered. A stack's hottest layer is shown, 95 °C holds it and 93 °C frees it, a layer above 85 °C refreshes at
double rate. A hub site at 110 °C is the safe state with THERM_N asserted. A compute domain whose tile or stack reaches its
trip stops; at a hard threshold its limit falls by one but not below 8; at a throttle threshold it falls no lower than the
floor; after ten calm loops it rises by one; a tripped domain that is calm runs again at its floor (R609 to R613, R615, R616;
08 R280, R281). -/
def Obligations.ThermalControl : Prop :=
  ∀ s : State,
    (∀ (x : Readings) (n v : Nat), s.cro.aux = true → (x.site.map Prod.fst).Nodup → (n, v) ∈ x.site → n < 64 →
      Completes (.thermalSample x) s (fun t => t.mem = s.mem ∧ t.cores = s.cores ∧
        (readable v = true → 4 * n ∉ x.none_ → t.get (fThmSite n) = v) ∧
        (readable v = false → n % 16 ≤ 11 → t.get (fThmSite n) = 95 * 64 ∧ 4 * n ∈ t.badSensor))) ∧
    -- a layer whose reading fails its check does not count
    (∀ (x : Readings) (k : Nat) (ls : List Nat), s.cro.aux = true → x.layers = [(k, ls)] → k < 48 →
      (∃ y ∈ ls, readable y = true) → 4 * tileSite k + 1 ∉ x.none_ →
      let v := (ls.filter readable).map signed16
      let top := v.foldl max (v.headD 0)
      Completes (.thermalSample x) s (fun t => t.get (fThmStack (tileSite k)) = rawOf top ∧
        t.get (fStkHold k) = (if deg 95 ≤ top then 1 else if top ≤ deg 93 then 0 else s.get (fStkHold k)) ∧
        ((∃ y ∈ v, deg 85 < y) → t.get (fStkRefresh k) = 1) ∧
        ((∀ y ∈ ls, readable y = true) → (∀ y ∈ v, y ≤ deg 83) → t.get (fStkRefresh k) = 0))) ∧
    (s.cro.running = true →
      ((∃ n < 64, deg 110 ≤ signed16 (s.get (fThmHub n))) → s.get fBootMode ≠ 4 → s.get fBootMode ≠ 2 → Completes .thermalLoop s (fun t =>
        t.get fBootMode = 4 ∧ t.cro.thermN = true ∧ t.cro.running = false)) ∧
      ((∀ n < 64, signed16 (s.get (fThmHub n)) < deg 110) → ∀ m, isComp m = true →
        let hs := s.domHeat m
        let c := s.clk m
        let fires := ∃ h ∈ hs, (h.kind = 0 ∨ h.kind = 1) ∧ h.trip = true
        let hard := ∃ h ∈ hs, h.hard = true
        let past := ∃ h ∈ hs, h.over = true
        let calm := ∀ h ∈ hs, h.below = true
        (c.trip = false → fires → Completes .thermalLoop s (fun t => t.get (fClkRun m) = 0 ∧ (t.clk m).trip = true ∧ t.mem = s.mem)) ∧
        (c.trip = false → ¬ fires → hard → Completes .thermalLoop s (fun t => (t.clk m).therm = max 8 (c.therm - 1) ∧
          (t.clk m).calm = 0 ∧ t.mem = s.mem)) ∧
        (c.trip = false → ¬ fires → ¬ hard → past → Completes .thermalLoop s (fun t => (t.clk m).calm = 0 ∧
          (t.clk m).therm = (if s.nFloor m < c.therm then max 8 (c.therm - 1) else c.therm))) ∧
        (c.trip = false → ¬ fires → ¬ hard → ¬ past → calm → Completes .thermalLoop s (fun t =>
          if 9 ≤ c.calm then (t.clk m).therm = min 32 (c.therm + 1) ∧ (t.clk m).calm = 0
          else (t.clk m).therm = c.therm ∧ (t.clk m).calm = c.calm + 1)) ∧
        (c.trip = false → ¬ fires → ¬ hard → ¬ past → ¬ calm → Completes .thermalLoop s (fun t =>
          (t.clk m).therm = c.therm ∧ (t.clk m).calm = 0)) ∧
        (c.trip = true → calm → Completes .thermalLoop s (fun t => (t.clk m).trip = false ∧
          (s.clkSource m = true → c.vstop = false → t.get (fClkRun m) = 1) ∧ (t.clk m).therm = max 8 (s.nFloor m) ∧ (t.clk m).n = max 8 (s.nFloor m)))))

/-- Caps, rails and coolant. A site mean over its cap lowers the site limit of its domain by one, a package mean over the
package cap the package limit of each; after ten calm loops they rise by one, within 8 to 32. The package cap takes 3,000 to
7,500 W. Samples show every rail in use, a rail outside 2 % of its set point is noted, and a site rail 150 mV or more above
the hub's lowers the voltage limit. An over-current of VIN_HI is the safe state without a cause. A coolant report restarts
its age, and one out of limits, or older than 5 s, ends REL_STAT.coolant (R603, R607, R608, R614, R618, R619). -/
def Obligations.PowerAndCoolant : Prop :=
  ∀ s : State,
    (∀ sites pkg, s.cro.running = true → Completes (.powerCapLoop sites pkg) s (fun t => t.get fPwrPkg = pkg % 65536 ∧
      t.mem = s.mem ∧ ∀ m, isComp m = true →
        let c := s.clk m
        let site (i : Nat) := tileSite (4 * (m - 5) + i)
        let high := ∃ i < 4, 10 * s.capOf (site i) < t.get (fThmPower (site i))
        let low := ∀ i < 4, 10 * t.get (fThmPower (site i)) < 95 * s.capOf (site i)
        (high → (t.clk m).cap = max 8 (c.cap - 1)) ∧ (¬ high → ¬ low → (t.clk m).cap = c.cap) ∧
        (¬ high → low → (t.clk m).cap = if 9 ≤ c.capCalm then min 32 (c.cap + 1) else c.cap) ∧
        (s.get fPkgCap < pkg → (t.clk m).pkg = max 8 (c.pkg - 1)) ∧
        (pkg ≤ s.get fPkgCap → 95 * s.get fPkgCap ≤ 100 * pkg → (t.clk m).pkg = c.pkg) ∧
        (pkg ≤ s.get fPkgCap → 100 * pkg < 95 * s.get fPkgCap → (t.clk m).pkg =
          if 9 ≤ c.pkgCalm then min 32 (c.pkg + 1) else c.pkg))) ∧
    -- an open site's measured rail power stands in OS_PWR too, limited to its pwr_cap (12; 01 R32)
    (∀ sites pkg k v, s.cro.running = true → (sites.map Prod.fst).Nodup → (openSite k, v) ∈ sites → k < 8 → v < 65536 →
      Completes (.powerCapLoop sites pkg) s (fun t => t.get (fOsPmeas k) = min v (10 * s.capOf (openSite k)) % 65536)) ∧
    (∀ w, s.get fBootMode ≠ 4 → setsReserved fPkgCap.off w = false →
      (3000 ≤ bitsOf w 15 0 → bitsOf w 15 0 ≤ 7500 → Completes (.pwrCfgWrite w) s (fun t => t.get fPkgCap = bitsOf w 15 0 ∧
        OnlyRegs s t [fPkgCap.off])) ∧
      (bitsOf w 15 0 < 3000 ∨ 7500 < bitsOf w 15 0 → exec (.pwrCfgWrite w) s = .next s)) ∧
    (∀ rails vin iin, s.cro.running = true → (rails.map Prod.fst).Nodup → Completes (.railSample rails vin iin) s (fun t =>
      t.get fPwrVin = vin % 65536 ∧ t.get fPwrIin = iin % 65536 ∧ t.mem = s.mem ∧ ∀ r i v, (r, i, v) ∈ rails → r < 260 →
        s.get (fRegP r) ≠ 0 → i < 65536 → v < 65536 →
        let open' := r < 256 ∧ (r / 4 % 16 = 12 ∨ r / 4 % 16 = 13)
        -- an open site's rails are limited to 140 A and 12 A (12 R420), and to what its pwr_cap leaves (01 R32)
        (¬ open' → t.get (fRegIout r) = i) ∧ (open' → r % 4 = 0 → t.get (fRegIout r) ≤ min i 140) ∧
        (open' → r % 4 = 1 → t.get (fRegIout r) ≤ min i 12) ∧
        (open' → t.get (fRegIout r) * v ≤ 1000 * s.capOf (r / 4) ∨ v = 0) ∧ t.get (fRegVout r) = v ∧
        ((open' → r % 4 < 2) → 10000 * v < 98 * s.setPoint r ∨ 102 * s.setPoint r < 10000 * v → ∃ b, (r, b) ∈ t.cro.railOut) ∧
        ∀ n j y, n < 64 → r = 4 * n → n % 16 ≤ 11 → (256 + n / 16, j, y) ∈ rails → s.get (fRegP (256 + n / 16)) ≠ 0 → y < 65536 →
          y + 150 ≤ v → (t.clk (tileDom (siteTile n))).vlow = true)) ∧
    (s.cro.aux = true → s.cro.pwrgd = true → s.get fBootMode ≠ 2 → s.get fBootMode ≠ 4 → Completes .vinOvercurrent s (fun t =>
      t.get fBootMode = 4 ∧ t.get fBootCause = s.get fBootCause ∧ t.cro.running = false)) ∧
    (s.cro.aux = false → exec .vinOvercurrent s = .next s) ∧
    (∀ w, s.get fBootMode ≠ 4 → setsReserved coolIn w = false →
      let fine := 150 ≤ bitsOf w 63 48 ∧ bitsOf w 63 48 ≤ 350 ∧ 120 ≤ bitsOf w 47 32
      Completes (.coolInWrite w) s (fun t => t.get fCoolTin = bitsOf w 63 48 ∧ t.get fCoolFlow = bitsOf w 47 32 ∧
        t.get fCoolAge = 0 ∧ t.cro.coolAt = some s.now ∧ t.mem = s.mem ∧ (¬ fine → t.flag fRelCoolant = false) ∧
        (fine → t.flag fRelCoolant = s.flag fRelCoolant))) ∧
    (50 < s.get fCoolAge → s.flag fRelCoolant = true → Completes .coolantReportStale s (fun t => t.flag fRelCoolant = false ∧
      t.get fCoolAge = s.get fCoolAge ∧ t.mem = s.mem ∧ t.cores = s.cores)) ∧
    (s.flag fRelCoolant = false → exec .coolantReportStale s = .next s)

/-! ## Management (19 R632 to R635) -/

/-- The management port answers whenever CD0 has power. The bus owner's assignment stands in MGT_STAT; discovery answers the
EID, assignment sets it. A sensor request answers the reading, a request without such a sensor is an error, and an effecter
sets the coolant inputs. Changes of the watched values are sent as events, each once. FRU and log reads answer the records.
The vendor commands reset the package, make the standby fail over, configure a tenant, and answer the status words (R632 to
R635; 14 R488, R511). -/
def ManagementPortRule : Prop :=
  ∀ s : State, s.cro.aux = true →
    (∀ a ibi, 1 ≤ a → a ≤ 127 → Completes (.i3cAddressAssign a ibi) s (fun t => t.get fMgtDaddr = a ∧ t.flag fMgtIbi = ibi ∧
      -- the target shows its static address, and in its provisioned ID vendor code, part code and slot (R632)
      t.out = s.out ++ [⟨"i3c-target", [0x50 + (if 4 < s.get fMgtSlot then 7 else s.get fMgtSlot), 0x1F4A, 0x4B64,
        s.get fMgtSlot], []⟩] ∧ OnlyRegs { s with cro := t.cro, out := t.out } t [mgtStat])) ∧
    (exec (.mctpControl none) s = .next (s.emit "mctp-response" [s.get fMgtEid] [])) ∧
    (∀ e, 1 ≤ e → e ≤ 254 → Completes (.mctpControl (some e)) s (fun t => t.get fMgtEid = e ∧
      OnlyField { s with out := t.out } t fMgtEid)) ∧
    (∀ id, (∀ v, s.sensor id = some v → exec (.pldmPlatformRequest id none) s = .next (s.emit "pldm-reading" [id, v] [])) ∧
      (s.sensor id = none → exec (.pldmPlatformRequest id none) s = .next (s.emit "mgt-error" [id] []))) ∧
    (s.sensor 1 = some (s.get fPwrPkg) ∧ s.sensor 2 = some (s.get fPwrVin) ∧ s.sensor 3 = some (s.get fPwrIin) ∧
      s.sensor 68 = some (s.get fCoolAge) ∧ s.sensor 70 = some (s.get fBootMode) ∧ s.sensor 71 = some (s.get fLcsState) ∧
      (∀ n < 64, (11 < n % 16 ∨ (∀ u, s.tileOwner (siteTile n) = some u → s.flag (fTenConf u) = false) →
        s.sensor (n + 4) = some (s.get (fThmSite n))))) ∧
    (∀ v < 65536, Completes (.pldmPlatformRequest 1 (some v)) s (fun t => t.get fCoolTin = v ∧
        t.get fCoolFlow = s.get fCoolFlow ∧ t.get fCoolAge = 0 ∧ t.mem = s.mem) ∧
      Completes (.pldmPlatformRequest 2 (some v)) s (fun t => t.get fCoolFlow = v ∧ t.get fCoolTin = s.get fCoolTin ∧
        t.get fCoolAge = 0 ∧ t.mem = s.mem)) ∧
    (s.flag fMgtIbi = true → Completes .pldmPlatformEvent s (fun t => t.out = s.out ++
        (s.watched.filter (fun x => smLookup s.cro.reported x.1 != some x.2)).map (fun x => ⟨"pldm-event", [x.1, x.2], []⟩) ∧
      t.cro = { s.cro with reported := s.watched } ∧ t.regs = s.regs ∧ t.mem = s.mem)) ∧
    (s.flag fMgtIbi = false → exec .pldmPlatformEvent s = .next s) ∧
    (exec .pldmFruRead s = .next (s.emit "pldm-fru" [] (wordBytes s.ident))) ∧
    Completes .mgtReset s (fun t => WholeResetLeaves s t) ∧
    (s.ready = true → s.get fTwnRole = 2 → Completes .mgtFailover s (fun t => FailedOver s t)) ∧
    (s.ready = false ∨ s.get fTwnRole ≠ 2 → exec .mgtFailover s = .next (s.emit "mgt-error" [0x02] [])) ∧
    (∀ u w, s.ready = true → u < 16 → setsReserved (tenCfg u) w = false → s.flag (fTenValid u) = true →
      bitsOf w 63 63 = 1 → s.tenRefusal u w = 0 → Completes (.mgtTenantConfig u [] w) s (fun t =>
        t.flag (fTenValid u) = true ∧ t.get (fTenTiles u) = bitsOf w 47 0 ∧ t.get (fTenState u) = 1 ∧ t.mem = s.mem)) ∧
    (∀ u w, s.ready = true → u < 16 → setsReserved (tenCfg u) w = false → s.flag (fTenValid u) = false →
      bitsOf w 63 63 = 1 → s.tenRefusal u w = 0 → Completes (.mgtTenantConfig u [] w) s (fun t =>
        TenantHolds t u w (maskTiles (bitsOf w 47 0)) ∧ t.mem = s.mem)) ∧
    (∀ u key w, s.ready = false ∨ 15 < u → exec (.mgtTenantConfig u key w) s = .next (s.emit "mgt-error" [0x03] [])) ∧
    (∀ i, (∀ r, s.cro.log[i]? = some r → exec (.mgtReadLog i) s = .next (s.emit "vendor-log" [0x04, i] (wordBytes r))) ∧
      (s.cro.log[i]? = none → exec (.mgtReadLog i) s = .next (s.emit "mgt-error" [0x04] []))) ∧
    Completes .mgtReadStatus s (fun t => ∃ w : Word, t.out = s.out ++ [⟨"vendor-status", [0x05],
        wordBytes [s.rd bootStat, s.rd fBootTime.off, w]⟩] ∧ OnlyRegs { s with out := t.out } t [ccxDomst])

/-- A firmware update over management. In recovery mode, or on a ready package, a whole image whose checks hold is written
to the flash, and in recovery the reset follows; a failed check or write is an error that leaves everything as it was; without
CD0 no command is answered (R633; 16 R541, R545). -/
def FirmwareUpdateRule : Prop :=
  ∀ (s : State) (image : List Byte) (ok : Bool),
    let b (i : Nat) : Byte := image.getD i 0
    let fits := 192 + bitsOf (hdrWord b 1) 31 0 + bitsOf (hdrWord b 1) 63 32 ≤ image.length ∧ image.length ≤ 2 ^ 23
    let open' := s.ready = true ∨ (s.get fBootMode = 3 ∧ s.recHold = none ∧ s.cro.recDelay = false)
    (s.cro.aux = true → ¬ open' → exec (.pldmFirmwareUpdate image ok) s = .next (s.emit "mgt-error" [] [])) ∧
    (s.cro.aux = true → open' → fits → match imageVerdict s b 192 with
      | some c => exec (.pldmFirmwareUpdate image ok) s = .next (s.emit "mgt-error" [c] [])
      | none =>
      (ok = false → exec (.pldmFirmwareUpdate image ok) s = .next (s.emit "mgt-error" [7] [])) ∧
      (ok = true → s.ready = true →
        (s.cro.flashHeld ≠ none → exec (.pldmFirmwareUpdate image ok) s = .next (s.emit "mgt-error" [] [])) ∧
        -- while log records wait the write is suspended (19 R631)
        (s.cro.flashHeld = none → s.logWait ≠ [] → exec (.pldmFirmwareUpdate image ok) s =
          .next { s with cro := { s.cro with flashHeld := some image } }) ∧
        (s.cro.flashHeld = none → s.logWait = [] → exec (.pldmFirmwareUpdate image ok) s =
          .next ((s.emit "flash-write" [] image).emit "pldm-response" [] []))) ∧
      (ok = true → s.get fBootMode = 3 → Completes (.pldmFirmwareUpdate image ok) s (fun t => t.cro.recDelay = true ∧
        t.recHold = some 4 ∧ t.mem = s.mem))) ∧
    (s.cro.aux = true → open' → ¬ fits → exec (.pldmFirmwareUpdate image ok) s = .next (s.emit "mgt-error" [4] [])) ∧
    (s.cro.aux = false → exec (.pldmFirmwareUpdate image ok) s = .next s)


/-- The management port and firmware updates over it (19). -/
def Obligations.Management : Prop := ManagementPortRule ∧ FirmwareUpdateRule
end

