-- ==== Sys2Proof/Laws/SMap.lean ====
section
/-! SUPPORT. What the sorted association lists answer after a write, and that every write keeps their canonical form. -/

namespace Sys2Proof.Machine

variable {α : Type}

theorem smLookup_smInsert_same (l : List (Nat × α)) (k : Nat) (v : α) : smLookup (smInsert l k v) k = some v := by
  induction l with
  | nil => simp [smInsert, smLookup]
  | cons e l ih =>
    obtain ⟨k', v'⟩ := e
    unfold smInsert
    split
    · simp [smLookup]
    · split
      · simp [smLookup]
      · simp_all [smLookup]

theorem smLookup_smInsert_other (l : List (Nat × α)) {k k' : Nat} (v : α) (h : k ≠ k') :
    smLookup (smInsert l k v) k' = smLookup l k' := by
  induction l with
  | nil => simp [smInsert, smLookup, h]
  | cons e l ih =>
    obtain ⟨j, w⟩ := e
    unfold smInsert
    split
    · simp [smLookup, h]
    · split
      · rename_i hj
        subst hj
        simp [smLookup, h]
      · simp only [smLookup]
        rw [ih]

theorem smLookup_smErase_same (l : List (Nat × α)) (k : Nat) : smLookup (smErase l k) k = none := by
  induction l with
  | nil => rfl
  | cons e l ih =>
    obtain ⟨j, w⟩ := e
    unfold smErase
    split <;> simp_all [smLookup]

theorem smLookup_smErase_other (l : List (Nat × α)) {k k' : Nat} (h : k ≠ k') :
    smLookup (smErase l k) k' = smLookup l k' := by
  induction l with
  | nil => rfl
  | cons e l ih =>
    obtain ⟨j, w⟩ := e
    unfold smErase
    split
    · rename_i hj
      subst hj
      simp [smLookup, h, ih]
    · simp [smLookup, ih]

section
variable [DecidableEq α]

theorem smGetD_smSetD_same (l : List (Nat × α)) (d : α) (k : Nat) (v : α) : smGetD (smSetD l d k v) d k = v := by
  unfold smGetD smSetD
  split
  · rename_i h
    simp [smLookup_smErase_same, h]
  · simp [smLookup_smInsert_same]

theorem smLookup_smSetD_other (l : List (Nat × α)) (d : α) {k k' : Nat} (v : α) (h : k ≠ k') :
    smLookup (smSetD l d k v) k' = smLookup l k' := by
  unfold smSetD
  split
  · exact smLookup_smErase_other l h
  · exact smLookup_smInsert_other l v h

theorem smGetD_smSetD_other (l : List (Nat × α)) (d d' : α) {k k' : Nat} (v : α) (h : k ≠ k') :
    smGetD (smSetD l d k v) d' k' = smGetD l d' k' := by
  unfold smGetD
  rw [smLookup_smSetD_other l d v h]

end

/-! ## The canonical form -/

/-- Rising keys, said without the list's shape. -/
theorem smSorted_iff (l : List (Nat × α)) : smSorted l = true ↔ l.Pairwise (fun a b => a.1 < b.1) := by
  induction l with
  | nil => simp [smSorted]
  | cons e l ih =>
    obtain ⟨k, v⟩ := e
    cases l with
    | nil => simp [smSorted]
    | cons e' l =>
      obtain ⟨k', v'⟩ := e'
      simp only [smSorted, Bool.and_eq_true, decide_eq_true_eq, ih, List.pairwise_cons, List.mem_cons]
      constructor
      · rintro ⟨h, h1, h2⟩
        refine ⟨?_, h1, h2⟩
        rintro a (rfl | ha)
        · exact h
        · exact lt_trans h (h1 a ha)
      · rintro ⟨h, h1, h2⟩
        exact ⟨h _ (Or.inl rfl), h1, h2⟩

theorem mem_smInsert (l : List (Nat × α)) (k : Nat) (v : α) (e : Nat × α) :
    e ∈ smInsert l k v → e = (k, v) ∨ e ∈ l := by
  induction l with
  | nil => simp [smInsert]
  | cons x l ih =>
    obtain ⟨j, w⟩ := x
    unfold smInsert
    split
    · simp
    · split
      · rintro h
        rcases List.mem_cons.1 h with h | h
        · exact Or.inl h
        · exact Or.inr (List.mem_cons_of_mem _ h)
      · intro h
        rcases List.mem_cons.1 h with h | h
        · exact Or.inr (by simp [h])
        · rcases ih h with h | h
          · exact Or.inl h
          · exact Or.inr (List.mem_cons_of_mem _ h)

theorem mem_smErase (l : List (Nat × α)) (k : Nat) (e : Nat × α) : e ∈ smErase l k → e ∈ l := by
  induction l with
  | nil => simp [smErase]
  | cons x l ih =>
    obtain ⟨j, w⟩ := x
    unfold smErase
    split
    · intro h
      exact List.mem_cons_of_mem _ (ih h)
    · intro h
      rcases List.mem_cons.1 h with h | h
      · simp [h]
      · exact List.mem_cons_of_mem _ (ih h)

theorem smSorted_smInsert (l : List (Nat × α)) (k : Nat) (v : α) (h : smSorted l = true) :
    smSorted (smInsert l k v) = true := by
  rw [smSorted_iff] at h ⊢
  induction l with
  | nil => simp [smInsert]
  | cons x l ih =>
    obtain ⟨j, w⟩ := x
    rw [List.pairwise_cons] at h
    unfold smInsert
    split
    · rename_i hk
      refine List.pairwise_cons.2 ⟨?_, List.pairwise_cons.2 h⟩
      intro e he
      rcases List.mem_cons.1 he with he | he
      · simpa [he] using hk
      · exact lt_trans hk (h.1 e he)
    · split
      · rename_i hj
        subst hj
        exact List.pairwise_cons.2 h
      · rename_i h1 h2
        refine List.pairwise_cons.2 ⟨?_, ih h.2⟩
        intro e he
        rcases mem_smInsert l k v e he with rfl | he
        · simp only
          omega
        · exact h.1 e he

theorem smSorted_smErase (l : List (Nat × α)) (k : Nat) (h : smSorted l = true) : smSorted (smErase l k) = true := by
  rw [smSorted_iff] at h ⊢
  induction l with
  | nil => simp [smErase]
  | cons x l ih =>
    obtain ⟨j, w⟩ := x
    rw [List.pairwise_cons] at h
    unfold smErase
    split
    · exact ih h.2
    · exact List.pairwise_cons.2 ⟨fun e he => h.1 e (mem_smErase l k e he), ih h.2⟩

theorem smSorted_filter (l : List (Nat × α)) (p : Nat × α → Bool) (h : smSorted l = true) :
    smSorted (l.filter p) = true := by
  rw [smSorted_iff] at h ⊢
  exact List.Pairwise.filter p h

section
variable [DecidableEq α]

/-- Every write in canonical form keeps the canonical form. -/
theorem smCanon_smSetD (l : List (Nat × α)) (d : Nat → α) (k : Nat) (v : α) (h : smCanon l d = true) :
    smCanon (smSetD l (d k) k v) d = true := by
  unfold smCanon at h ⊢
  rw [Bool.and_eq_true] at h ⊢
  unfold smSetD
  split
  · refine ⟨smSorted_smErase l k h.1, ?_⟩
    rw [List.all_eq_true] at h ⊢
    exact fun e he => h.2 e (mem_smErase l k e he)
  · rename_i hv
    refine ⟨smSorted_smInsert l k v h.1, ?_⟩
    rw [List.all_eq_true] at h ⊢
    intro e he
    rcases mem_smInsert l k v e he with rfl | he
    · simpa using hv
    · exact h.2 e he

theorem smCanon_filter (l : List (Nat × α)) (d : Nat → α) (p : Nat × α → Bool) (h : smCanon l d = true) :
    smCanon (l.filter p) d = true := by
  unfold smCanon at h ⊢
  rw [Bool.and_eq_true] at h ⊢
  refine ⟨smSorted_filter l p h.1, ?_⟩
  rw [List.all_eq_true] at h ⊢
  exact fun e he => h.2 e (List.mem_of_mem_filter he)

end

end Sys2Proof.Machine
end

