-- ==== Sys2Proof/Laws/Regs.lean ====
section
/-! SUPPORT. Reading a register, a field, a byte or a core after writing one. -/

namespace Sys2Proof.Machine

/-! ## Bits of a word -/

/-- A word cut into the bits above hi, the field, and the bits below lo. -/
theorem field_split (x lo n : Nat) :
    x = 2 ^ (lo + n) * (x / 2 ^ (lo + n)) + (2 ^ lo * ((x >>> lo) % 2 ^ n) + x % 2 ^ lo) := by
  rw [Nat.shiftRight_eq_div_pow, Nat.pow_add, ← Nat.div_div_eq_div_mul]
  have h1 := Nat.div_add_mod x (2 ^ lo)
  have h2 := Nat.div_add_mod (x / 2 ^ lo) (2 ^ n)
  calc x = 2 ^ lo * (x / 2 ^ lo) + x % 2 ^ lo := h1.symm
    _ = 2 ^ lo * (2 ^ n * (x / 2 ^ lo / 2 ^ n) + x / 2 ^ lo % 2 ^ n) + x % 2 ^ lo := by rw [h2]
    _ = _ := by ring

theorem field_lt (a c lo n : Nat) (ha : a < 2 ^ n) (hc : c < 2 ^ lo) : 2 ^ lo * a + c < 2 ^ (lo + n) := by
  rw [Nat.pow_add]
  calc 2 ^ lo * a + c < 2 ^ lo * a + 2 ^ lo := by omega
    _ = 2 ^ lo * (a + 1) := by ring
    _ ≤ 2 ^ lo * 2 ^ n := Nat.mul_le_mul_left _ ha

/-- The number that `putBits` stores. -/
theorem putBits_toNat (w : Word) {hi lo : Nat} (v : Nat) (h1 : hi < 64) (h2 : lo ≤ hi) :
    (putBits w hi lo v).toNat =
      2 ^ (hi + 1) * (w.toNat / 2 ^ (hi + 1)) + (2 ^ lo * (v % 2 ^ (hi + 1 - lo)) + w.toNat % 2 ^ lo) := by
  have hn : lo + (hi + 1 - lo) = hi + 1 := by omega
  have hs := field_split w.toNat lo (hi + 1 - lo)
  rw [hn] at hs
  have hv : 2 ^ lo * (v % 2 ^ (hi + 1 - lo)) + w.toNat % 2 ^ lo < 2 ^ (hi + 1) := by
    have := field_lt (v % 2 ^ (hi + 1 - lo)) (w.toNat % 2 ^ lo) lo (hi + 1 - lo) (Nat.mod_lt _ (by positivity))
      (Nat.mod_lt _ (by positivity))
    rwa [hn] at this
  have hlt : 2 ^ (hi + 1) * (w.toNat / 2 ^ (hi + 1)) + (2 ^ lo * (v % 2 ^ (hi + 1 - lo)) + w.toNat % 2 ^ lo) < 2 ^ 64 := by
    have hd : w.toNat / 2 ^ (hi + 1) < 2 ^ (64 - (hi + 1)) := by
      rw [Nat.div_lt_iff_lt_mul (by positivity), ← Nat.pow_add]
      have : 64 - (hi + 1) + (hi + 1) = 64 := by omega
      rw [this]
      exact w.isLt
    have := field_lt (w.toNat / 2 ^ (hi + 1)) _ (hi + 1) (64 - (hi + 1)) hd hv
    have e : hi + 1 + (64 - (hi + 1)) = 64 := by omega
    rwa [e] at this
  unfold putBits
  simp only [bitsOf, BitVec.toNat_ofNat]
  rw [← Nat.mod_eq_of_lt hlt]
  congr 1
  generalize (w.toNat >>> lo) % 2 ^ (hi + 1 - lo) = f at *
  generalize w.toNat / 2 ^ (hi + 1) = a at *
  generalize w.toNat % 2 ^ lo = c at *
  generalize v % 2 ^ (hi + 1 - lo) = g at *
  rw [hs, Nat.mul_comm f, Nat.mul_comm g]
  generalize 2 ^ (hi + 1) * a = x
  generalize 2 ^ lo * f = y
  generalize 2 ^ lo * g = z
  omega

/-- A field just written reads the low bits of what was written. -/
theorem bitsOf_putBits_same (w : Word) {hi lo : Nat} (v : Nat) (h1 : hi < 64) (h2 : lo ≤ hi) :
    bitsOf (putBits w hi lo v) hi lo = v % 2 ^ (hi + 1 - lo) := by
  have hn : hi + 1 = lo + (hi + 1 - lo) := by omega
  have hc : w.toNat % 2 ^ lo < 2 ^ lo := Nat.mod_lt _ (by positivity)
  unfold bitsOf
  rw [putBits_toNat w v h1 h2, Nat.shiftRight_eq_div_pow]
  generalize w.toNat / 2 ^ (hi + 1) = a
  generalize w.toNat % 2 ^ lo = c at *
  rw [hn, Nat.pow_add]
  simp only [Nat.add_sub_cancel_left]
  rw [show 2 ^ lo * 2 ^ (hi + 1 - lo) * a + (2 ^ lo * (v % 2 ^ (hi + 1 - lo)) + c)
      = c + 2 ^ lo * (2 ^ (hi + 1 - lo) * a + v % 2 ^ (hi + 1 - lo)) by ring,
    Nat.add_mul_div_left _ _ (by positivity), Nat.div_eq_of_lt hc, Nat.zero_add, Nat.mul_add_mod, Nat.mod_mod]

/-- A field below the one written reads as before. -/
theorem bitsOf_putBits_below (w : Word) {hi lo : Nat} (v : Nat) {hi' lo' : Nat} (h1 : hi < 64) (h2 : lo ≤ hi)
    (h3 : hi' < lo) (h4 : lo' ≤ hi') : bitsOf (putBits w hi lo v) hi' lo' = bitsOf w hi' lo' := by
  have key : (putBits w hi lo v).toNat % 2 ^ (hi' + 1) = w.toNat % 2 ^ (hi' + 1) := by
    rw [putBits_toNat w v h1 h2]
    have e1 : (2 : Nat) ^ (hi + 1) = 2 ^ (hi' + 1) * 2 ^ (hi - hi') := by
      rw [← Nat.pow_add]; congr 1; omega
    have e2 : (2 : Nat) ^ lo = 2 ^ (hi' + 1) * 2 ^ (lo - (hi' + 1)) := by
      rw [← Nat.pow_add]; congr 1; omega
    have e3 : w.toNat % 2 ^ lo % 2 ^ (hi' + 1) = w.toNat % 2 ^ (hi' + 1) :=
      Nat.mod_mod_of_dvd _ ⟨_, e2⟩
    rw [← e3]
    generalize w.toNat % 2 ^ lo = c
    rw [e1, e2, Nat.mul_assoc, Nat.mul_assoc, Nat.mul_add_mod, Nat.mul_add_mod]
  unfold bitsOf
  have hh : hi' + 1 = lo' + (hi' + 1 - lo') := by omega
  rw [hh, Nat.pow_add] at key
  rw [Nat.shiftRight_eq_div_pow, Nat.shiftRight_eq_div_pow, ← Nat.mod_mul_right_div_self, ← Nat.mod_mul_right_div_self]
  rw [key]

/-- A field above the one written reads as before. -/
theorem bitsOf_putBits_above (w : Word) {hi lo : Nat} (v : Nat) {hi' lo' : Nat} (h1 : hi < 64) (h2 : lo ≤ hi)
    (h3 : hi < lo') : bitsOf (putBits w hi lo v) hi' lo' = bitsOf w hi' lo' := by
  unfold bitsOf
  congr 1
  rw [Nat.shiftRight_eq_div_pow, Nat.shiftRight_eq_div_pow]
  have e : (2 : Nat) ^ lo' = 2 ^ (hi + 1) * 2 ^ (lo' - (hi + 1)) := by
    rw [← Nat.pow_add]; congr 1; omega
  rw [e, ← Nat.div_div_eq_div_mul, ← Nat.div_div_eq_div_mul]
  congr 1
  rw [putBits_toNat w v h1 h2]
  have hn : lo + (hi + 1 - lo) = hi + 1 := by omega
  have hv := field_lt (v % 2 ^ (hi + 1 - lo)) (w.toNat % 2 ^ lo) lo (hi + 1 - lo) (Nat.mod_lt _ (by positivity))
      (Nat.mod_lt _ (by positivity))
  rw [hn] at hv
  rw [Nat.add_comm, Nat.add_mul_div_left _ _ (by positivity), Nat.div_eq_of_lt hv, Nat.zero_add]

/-! ## Registers -/

@[simp] theorem rd_wr_same (s : State) (o : Nat) (w : Word) : (s.wr o w).rd o = w :=
  smGetD_smSetD_same s.regs (regReset o) o w

theorem rd_wr_other (s : State) {o o' : Nat} (w : Word) (h : o ≠ o') : (s.wr o w).rd o' = s.rd o' := by
  unfold State.rd State.wr
  rw [smLookup_smSetD_other _ _ _ h]

theorem get_set_same (s : State) (f : Fld) (v : Nat) (hf : f.fits = true) : (s.set f v).get f = v % 2 ^ f.width := by
  unfold Fld.fits at hf
  simp only [Bool.and_eq_true, decide_eq_true_eq] at hf
  simp [State.get, State.set, bitsOf_putBits_same _ _ hf.1 hf.2, Fld.width]

theorem get_set_other (s : State) (f g : Fld) (v : Nat) (hf : f.fits = true) (hg : g.fits = true)
    (h : f.apart g = true) : (s.set f v).get g = s.get g := by
  unfold Fld.fits at hf hg
  unfold Fld.apart at h
  simp only [Bool.and_eq_true, decide_eq_true_eq, Bool.or_eq_true] at hf hg h
  unfold State.get State.set
  by_cases he : f.off = g.off
  · rw [he, rd_wr_same]
    rcases h with (h | h) | h
    · exact absurd he h
    · exact bitsOf_putBits_above _ _ hf.1 hf.2 h
    · exact bitsOf_putBits_below _ _ hf.1 hf.2 h hg.2
  · rw [rd_wr_other _ _ he]

theorem rd_set_other (s : State) (f : Fld) (v o : Nat) (h : f.off ≠ o) : (s.set f v).rd o = s.rd o := rd_wr_other _ _ h

/-! ## Memory -/

@[simp] theorem byte_setByte_same (s : State) (k : Nat) (b : Byte) : (s.setByte k b).byte k = b :=
  smGetD_smSetD_same s.mem 0 k b

theorem byte_setByte_other (s : State) {k k' : Nat} (b : Byte) (h : k ≠ k') : (s.setByte k b).byte k' = s.byte k' :=
  smGetD_smSetD_other s.mem 0 0 b h

theorem smGetD_memPut (m : List Host.Cell) (k : Nat) (bs : List Byte) (a : Nat) :
    smGetD (memPut m k bs) 0 a = if k ≤ a then (bs[a - k]?).getD (smGetD m 0 a) else smGetD m 0 a := by
  induction bs generalizing m k with
  | nil => simp [memPut]
  | cons b bs ih =>
    rw [memPut, ih]
    by_cases h1 : k + 1 ≤ a
    · have h2 : k ≤ a := by omega
      have h3 : a - k = a - (k + 1) + 1 := by omega
      simp only [h1, h2, if_true, h3, List.getElem?_cons_succ]
      rw [smGetD_smSetD_other _ _ _ _ (by omega : k ≠ a)]
    · by_cases h2 : k = a
      · subst h2
        simp [smGetD_smSetD_same]
      · have h3 : ¬k ≤ a := by omega
        simp only [h1, h3, if_false]
        exact smGetD_smSetD_other _ _ _ _ h2

/-- A byte after a write of bytes: what was written inside them, else what was there. -/
theorem byte_setBytes (s : State) (k : Nat) (bs : List Byte) (a : Nat) :
    (s.setBytes k bs).byte a = if k ≤ a then (bs[a - k]?).getD (s.byte a) else s.byte a :=
  smGetD_memPut s.mem k bs a

theorem byte_setSpad (s : State) (c o : Nat) (bs : List Byte) (a : Nat) :
    (s.setSpad c o bs).byte a = if spadAddr c o ≤ a then (bs[a - spadAddr c o]?).getD (s.byte a) else s.byte a :=
  smGetD_memPut s.mem (spadAddr c o) bs a

theorem memWf_memPut (m : List Host.Cell) (k : Nat) (bs : List Byte) (h : memWf m = true) : memWf (memPut m k bs) = true := by
  induction bs generalizing m k with
  | nil => exact h
  | cons b bs ih => exact ih _ _ (smCanon_smSetD m (fun _ => 0) k b h)

theorem memWf_setByte (s : State) (k : Nat) (b : Byte) (h : memWf s.mem = true) : memWf (s.setByte k b).mem = true :=
  smCanon_smSetD s.mem (fun _ => 0) k b h

theorem memWf_setBytes (s : State) (k : Nat) (bs : List Byte) (h : memWf s.mem = true) :
    memWf (s.setBytes k bs).mem = true := memWf_memPut s.mem k bs h

theorem memWf_setSpad (s : State) (c o : Nat) (bs : List Byte) (h : memWf s.mem = true) :
    memWf (s.setSpad c o bs).mem = true := memWf_memPut s.mem (spadAddr c o) bs h

theorem memWf_filter (m : List Host.Cell) (p : Host.Cell → Bool) (h : memWf m = true) : memWf (m.filter p) = true :=
  smCanon_filter m (fun _ => 0) p h

theorem memWf_reset : memWf State.reset.mem = true := rfl

/-! ## Cores -/

@[simp] theorem core_setCore_same (s : State) (c : Nat) (k : Core) : (s.setCore c k).core c = k := by
  simp [State.core, State.setCore, smLookup_smInsert_same]

theorem core_setCore_other (s : State) {c c' : Nat} (k : Core) (h : c ≠ c') : (s.setCore c k).core c' = s.core c' := by
  simp [State.core, State.setCore, smLookup_smInsert_other _ _ h]

@[simp] theorem core_modCore_same (s : State) (c : Nat) (f : Core → Core) : (s.modCore c f).core c = f (s.core c) :=
  core_setCore_same _ _ _

theorem core_modCore_other (s : State) {c c' : Nat} (f : Core → Core) (h : c ≠ c') :
    (s.modCore c f).core c' = s.core c' := core_setCore_other _ _ h

@[simp] theorem srd_swr_same (k : Core) (c n : Nat) (w : Word) : (k.swr n w).srd c n = w := by
  simp [Core.srd, Core.swr, smLookup_smInsert_same]

theorem srd_swr_other (k : Core) (c : Nat) {n n' : Nat} (w : Word) (h : n ≠ n') : (k.swr n w).srd c n' = k.srd c n' := by
  simp [Core.srd, Core.swr, smLookup_smInsert_other _ _ h]

theorem cget_cset_same (s : State) (c : Nat) (f : Fld) (v : Nat) (hf : f.fits = true) :
    (s.cset c f v).cget c f = v % 2 ^ f.width := by
  unfold Fld.fits at hf
  simp only [Bool.and_eq_true, decide_eq_true_eq] at hf
  simp [State.cget, State.cset, bitsOf_putBits_same _ _ hf.1 hf.2, Fld.width]

theorem cget_cset_other (s : State) (c : Nat) (f g : Fld) (v : Nat) (hf : f.fits = true) (hg : g.fits = true)
    (h : f.apart g = true) : (s.cset c f v).cget c g = s.cget c g := by
  unfold Fld.fits at hf hg
  unfold Fld.apart at h
  simp only [Bool.and_eq_true, decide_eq_true_eq, Bool.or_eq_true] at hf hg h
  unfold State.cget State.cset
  rw [core_modCore_same]
  by_cases he : f.off = g.off
  · rw [he, srd_swr_same]
    rcases h with (h | h) | h
    · exact absurd he h
    · exact bitsOf_putBits_above _ _ hf.1 hf.2 h
    · exact bitsOf_putBits_below _ _ hf.1 hf.2 h hg.2
  · rw [srd_swr_other _ _ _ he]

theorem sreg_zero (k : Core) : k.sreg 0 = 0 := rfl

theorem sreg_setS_same (k : Core) (r : Fin 32) (w : Word) (h : r ≠ 0) : (k.setS r w).sreg r = w := by
  simp [Core.sreg, Core.setS, h]

theorem sreg_setS_other (k : Core) {r q : Fin 32} (w : Word) (h : r ≠ q) : (k.setS r w).sreg q = k.sreg q := by
  by_cases hr : r = 0
  · simp [Core.setS, hr]
  · have hv : r.val ≠ q.val := fun e => h (Fin.ext e)
    simp [Core.sreg, Core.setS, hr, hv]

theorem setS_zero (k : Core) (w : Word) : k.setS 0 w = k := by simp [Core.setS]

end Sys2Proof.Machine
end

