-- ==== Sys2Proof/Laws/State.lean ====
section
/-! SUPPORT. What each named update of the state leaves in each field: one lemma per field and update, true by
computation. -/

namespace Sys2Proof.Machine

variable (s : State)

/-! ## wr -/

@[simp] theorem State.wr_mem (o : Nat) (w : Word) : (s.wr o w).mem = s.mem := rfl
@[simp] theorem State.wr_badBursts (o : Nat) (w : Word) : (s.wr o w).badBursts = s.badBursts := rfl
@[simp] theorem State.wr_bks (o : Nat) (w : Word) : (s.wr o w).bks = s.bks := rfl
@[simp] theorem State.wr_ueWait (o : Nat) (w : Word) : (s.wr o w).ueWait = s.ueWait := rfl
@[simp] theorem State.wr_badWords (o : Nat) (w : Word) : (s.wr o w).badWords = s.badWords := rfl
@[simp] theorem State.wr_cores (o : Nat) (w : Word) : (s.wr o w).cores = s.cores := rfl
@[simp] theorem State.wr_net (o : Nat) (w : Word) : (s.wr o w).net = s.net := rfl
@[simp] theorem State.wr_dma (o : Nat) (w : Word) : (s.wr o w).dma = s.dma := rfl
@[simp] theorem State.wr_dmaLast (o : Nat) (w : Word) : (s.wr o w).dmaLast = s.dmaLast := rfl
@[simp] theorem State.wr_nextId (o : Nat) (w : Word) : (s.wr o w).nextId = s.nextId := rfl
@[simp] theorem State.wr_logWait (o : Nat) (w : Word) : (s.wr o w).logWait = s.logWait := rfl
@[simp] theorem State.wr_tasks (o : Nat) (w : Word) : (s.wr o w).tasks = s.tasks := rfl
@[simp] theorem State.wr_seq (o : Nat) (w : Word) : (s.wr o w).seq = s.seq := rfl
@[simp] theorem State.wr_hubTime (o : Nat) (w : Word) : (s.wr o w).hubTime = s.hubTime := rfl
@[simp] theorem State.wr_faultSeq (o : Nat) (w : Word) : (s.wr o w).faultSeq = s.faultSeq := rfl
@[simp] theorem State.wr_trnUpd (o : Nat) (w : Word) : (s.wr o w).trnUpd = s.trnUpd := rfl
@[simp] theorem State.wr_hosts (o : Nat) (w : Word) : (s.wr o w).hosts = s.hosts := rfl
@[simp] theorem State.wr_cuts (o : Nat) (w : Word) : (s.wr o w).cuts = s.cuts := rfl
@[simp] theorem State.wr_recHold (o : Nat) (w : Word) : (s.wr o w).recHold = s.recHold := rfl
@[simp] theorem State.wr_sealKeys (o : Nat) (w : Word) : (s.wr o w).sealKeys = s.sealKeys := rfl
@[simp] theorem State.wr_fell (o : Nat) (w : Word) : (s.wr o w).fell = s.fell := rfl
@[simp] theorem State.wr_caps (o : Nat) (w : Word) : (s.wr o w).caps = s.caps := rfl
@[simp] theorem State.wr_labels (o : Nat) (w : Word) : (s.wr o w).labels = s.labels := rfl
@[simp] theorem State.wr_paused (o : Nat) (w : Word) : (s.wr o w).paused = s.paused := rfl
@[simp] theorem State.wr_shadow (o : Nat) (w : Word) : (s.wr o w).shadow = s.shadow := rfl
@[simp] theorem State.wr_faultWait (o : Nat) (w : Word) : (s.wr o w).faultWait = s.faultWait := rfl
@[simp] theorem State.wr_fullTold (o : Nat) (w : Word) : (s.wr o w).fullTold = s.fullTold := rfl
@[simp] theorem State.wr_evSeq (o : Nat) (w : Word) : (s.wr o w).evSeq = s.evSeq := rfl
@[simp] theorem State.wr_fencedTen (o : Nat) (w : Word) : (s.wr o w).fencedTen = s.fencedTen := rfl
@[simp] theorem State.wr_floors (o : Nat) (w : Word) : (s.wr o w).floors = s.floors := rfl
@[simp] theorem State.wr_domCyc (o : Nat) (w : Word) : (s.wr o w).domCyc = s.domCyc := rfl
@[simp] theorem State.wr_lines (o : Nat) (w : Word) : (s.wr o w).lines = s.lines := rfl
@[simp] theorem State.wr_cmo (o : Nat) (w : Word) : (s.wr o w).cmo = s.cmo := rfl
@[simp] theorem State.wr_ident (o : Nat) (w : Word) : (s.wr o w).ident = s.ident := rfl
@[simp] theorem State.wr_hub (o : Nat) (w : Word) : (s.wr o w).hub = s.hub := rfl
@[simp] theorem State.wr_opens (o : Nat) (w : Word) : (s.wr o w).opens = s.opens := rfl
@[simp] theorem State.wr_sec (o : Nat) (w : Word) : (s.wr o w).sec = s.sec := rfl
@[simp] theorem State.wr_cro (o : Nat) (w : Word) : (s.wr o w).cro = s.cro := rfl
@[simp] theorem State.wr_clks (o : Nat) (w : Word) : (s.wr o w).clks = s.clks := rfl
@[simp] theorem State.wr_badSensor (o : Nat) (w : Word) : (s.wr o w).badSensor = s.badSensor := rfl
@[simp] theorem State.wr_coarse (o : Nat) (w : Word) : (s.wr o w).coarse = s.coarse := rfl
@[simp] theorem State.wr_peers (o : Nat) (w : Word) : (s.wr o w).peers = s.peers := rfl
@[simp] theorem State.wr_now (o : Nat) (w : Word) : (s.wr o w).now = s.now := rfl
@[simp] theorem State.wr_freeCtr (o : Nat) (w : Word) : (s.wr o w).freeCtr = s.freeCtr := rfl
@[simp] theorem State.wr_out (o : Nat) (w : Word) : (s.wr o w).out = s.out := rfl
@[simp] theorem State.wr_pending (o : Nat) (w : Word) : (s.wr o w).pending = s.pending := rfl

/-! ## set -/

@[simp] theorem State.set_mem (f : Fld) (v : Nat) : (s.set f v).mem = s.mem := rfl
@[simp] theorem State.set_badBursts (f : Fld) (v : Nat) : (s.set f v).badBursts = s.badBursts := rfl
@[simp] theorem State.set_bks (f : Fld) (v : Nat) : (s.set f v).bks = s.bks := rfl
@[simp] theorem State.set_ueWait (f : Fld) (v : Nat) : (s.set f v).ueWait = s.ueWait := rfl
@[simp] theorem State.set_badWords (f : Fld) (v : Nat) : (s.set f v).badWords = s.badWords := rfl
@[simp] theorem State.set_cores (f : Fld) (v : Nat) : (s.set f v).cores = s.cores := rfl
@[simp] theorem State.set_net (f : Fld) (v : Nat) : (s.set f v).net = s.net := rfl
@[simp] theorem State.set_dma (f : Fld) (v : Nat) : (s.set f v).dma = s.dma := rfl
@[simp] theorem State.set_dmaLast (f : Fld) (v : Nat) : (s.set f v).dmaLast = s.dmaLast := rfl
@[simp] theorem State.set_nextId (f : Fld) (v : Nat) : (s.set f v).nextId = s.nextId := rfl
@[simp] theorem State.set_logWait (f : Fld) (v : Nat) : (s.set f v).logWait = s.logWait := rfl
@[simp] theorem State.set_tasks (f : Fld) (v : Nat) : (s.set f v).tasks = s.tasks := rfl
@[simp] theorem State.set_seq (f : Fld) (v : Nat) : (s.set f v).seq = s.seq := rfl
@[simp] theorem State.set_hubTime (f : Fld) (v : Nat) : (s.set f v).hubTime = s.hubTime := rfl
@[simp] theorem State.set_faultSeq (f : Fld) (v : Nat) : (s.set f v).faultSeq = s.faultSeq := rfl
@[simp] theorem State.set_trnUpd (f : Fld) (v : Nat) : (s.set f v).trnUpd = s.trnUpd := rfl
@[simp] theorem State.set_hosts (f : Fld) (v : Nat) : (s.set f v).hosts = s.hosts := rfl
@[simp] theorem State.set_cuts (f : Fld) (v : Nat) : (s.set f v).cuts = s.cuts := rfl
@[simp] theorem State.set_recHold (f : Fld) (v : Nat) : (s.set f v).recHold = s.recHold := rfl
@[simp] theorem State.set_sealKeys (f : Fld) (v : Nat) : (s.set f v).sealKeys = s.sealKeys := rfl
@[simp] theorem State.set_fell (f : Fld) (v : Nat) : (s.set f v).fell = s.fell := rfl
@[simp] theorem State.set_caps (f : Fld) (v : Nat) : (s.set f v).caps = s.caps := rfl
@[simp] theorem State.set_labels (f : Fld) (v : Nat) : (s.set f v).labels = s.labels := rfl
@[simp] theorem State.set_paused (f : Fld) (v : Nat) : (s.set f v).paused = s.paused := rfl
@[simp] theorem State.set_shadow (f : Fld) (v : Nat) : (s.set f v).shadow = s.shadow := rfl
@[simp] theorem State.set_faultWait (f : Fld) (v : Nat) : (s.set f v).faultWait = s.faultWait := rfl
@[simp] theorem State.set_fullTold (f : Fld) (v : Nat) : (s.set f v).fullTold = s.fullTold := rfl
@[simp] theorem State.set_evSeq (f : Fld) (v : Nat) : (s.set f v).evSeq = s.evSeq := rfl
@[simp] theorem State.set_fencedTen (f : Fld) (v : Nat) : (s.set f v).fencedTen = s.fencedTen := rfl
@[simp] theorem State.set_floors (f : Fld) (v : Nat) : (s.set f v).floors = s.floors := rfl
@[simp] theorem State.set_domCyc (f : Fld) (v : Nat) : (s.set f v).domCyc = s.domCyc := rfl
@[simp] theorem State.set_lines (f : Fld) (v : Nat) : (s.set f v).lines = s.lines := rfl
@[simp] theorem State.set_cmo (f : Fld) (v : Nat) : (s.set f v).cmo = s.cmo := rfl
@[simp] theorem State.set_ident (f : Fld) (v : Nat) : (s.set f v).ident = s.ident := rfl
@[simp] theorem State.set_hub (f : Fld) (v : Nat) : (s.set f v).hub = s.hub := rfl
@[simp] theorem State.set_opens (f : Fld) (v : Nat) : (s.set f v).opens = s.opens := rfl
@[simp] theorem State.set_sec (f : Fld) (v : Nat) : (s.set f v).sec = s.sec := rfl
@[simp] theorem State.set_cro (f : Fld) (v : Nat) : (s.set f v).cro = s.cro := rfl
@[simp] theorem State.set_clks (f : Fld) (v : Nat) : (s.set f v).clks = s.clks := rfl
@[simp] theorem State.set_badSensor (f : Fld) (v : Nat) : (s.set f v).badSensor = s.badSensor := rfl
@[simp] theorem State.set_coarse (f : Fld) (v : Nat) : (s.set f v).coarse = s.coarse := rfl
@[simp] theorem State.set_peers (f : Fld) (v : Nat) : (s.set f v).peers = s.peers := rfl
@[simp] theorem State.set_now (f : Fld) (v : Nat) : (s.set f v).now = s.now := rfl
@[simp] theorem State.set_freeCtr (f : Fld) (v : Nat) : (s.set f v).freeCtr = s.freeCtr := rfl
@[simp] theorem State.set_out (f : Fld) (v : Nat) : (s.set f v).out = s.out := rfl
@[simp] theorem State.set_pending (f : Fld) (v : Nat) : (s.set f v).pending = s.pending := rfl

/-! ## setB -/

@[simp] theorem State.setB_mem (f : Fld) (b : Bool) : (s.setB f b).mem = s.mem := rfl
@[simp] theorem State.setB_badBursts (f : Fld) (b : Bool) : (s.setB f b).badBursts = s.badBursts := rfl
@[simp] theorem State.setB_bks (f : Fld) (b : Bool) : (s.setB f b).bks = s.bks := rfl
@[simp] theorem State.setB_ueWait (f : Fld) (b : Bool) : (s.setB f b).ueWait = s.ueWait := rfl
@[simp] theorem State.setB_badWords (f : Fld) (b : Bool) : (s.setB f b).badWords = s.badWords := rfl
@[simp] theorem State.setB_cores (f : Fld) (b : Bool) : (s.setB f b).cores = s.cores := rfl
@[simp] theorem State.setB_net (f : Fld) (b : Bool) : (s.setB f b).net = s.net := rfl
@[simp] theorem State.setB_dma (f : Fld) (b : Bool) : (s.setB f b).dma = s.dma := rfl
@[simp] theorem State.setB_dmaLast (f : Fld) (b : Bool) : (s.setB f b).dmaLast = s.dmaLast := rfl
@[simp] theorem State.setB_nextId (f : Fld) (b : Bool) : (s.setB f b).nextId = s.nextId := rfl
@[simp] theorem State.setB_logWait (f : Fld) (b : Bool) : (s.setB f b).logWait = s.logWait := rfl
@[simp] theorem State.setB_tasks (f : Fld) (b : Bool) : (s.setB f b).tasks = s.tasks := rfl
@[simp] theorem State.setB_seq (f : Fld) (b : Bool) : (s.setB f b).seq = s.seq := rfl
@[simp] theorem State.setB_hubTime (f : Fld) (b : Bool) : (s.setB f b).hubTime = s.hubTime := rfl
@[simp] theorem State.setB_faultSeq (f : Fld) (b : Bool) : (s.setB f b).faultSeq = s.faultSeq := rfl
@[simp] theorem State.setB_trnUpd (f : Fld) (b : Bool) : (s.setB f b).trnUpd = s.trnUpd := rfl
@[simp] theorem State.setB_hosts (f : Fld) (b : Bool) : (s.setB f b).hosts = s.hosts := rfl
@[simp] theorem State.setB_cuts (f : Fld) (b : Bool) : (s.setB f b).cuts = s.cuts := rfl
@[simp] theorem State.setB_recHold (f : Fld) (b : Bool) : (s.setB f b).recHold = s.recHold := rfl
@[simp] theorem State.setB_sealKeys (f : Fld) (b : Bool) : (s.setB f b).sealKeys = s.sealKeys := rfl
@[simp] theorem State.setB_fell (f : Fld) (b : Bool) : (s.setB f b).fell = s.fell := rfl
@[simp] theorem State.setB_caps (f : Fld) (b : Bool) : (s.setB f b).caps = s.caps := rfl
@[simp] theorem State.setB_labels (f : Fld) (b : Bool) : (s.setB f b).labels = s.labels := rfl
@[simp] theorem State.setB_paused (f : Fld) (b : Bool) : (s.setB f b).paused = s.paused := rfl
@[simp] theorem State.setB_shadow (f : Fld) (b : Bool) : (s.setB f b).shadow = s.shadow := rfl
@[simp] theorem State.setB_faultWait (f : Fld) (b : Bool) : (s.setB f b).faultWait = s.faultWait := rfl
@[simp] theorem State.setB_fullTold (f : Fld) (b : Bool) : (s.setB f b).fullTold = s.fullTold := rfl
@[simp] theorem State.setB_evSeq (f : Fld) (b : Bool) : (s.setB f b).evSeq = s.evSeq := rfl
@[simp] theorem State.setB_fencedTen (f : Fld) (b : Bool) : (s.setB f b).fencedTen = s.fencedTen := rfl
@[simp] theorem State.setB_floors (f : Fld) (b : Bool) : (s.setB f b).floors = s.floors := rfl
@[simp] theorem State.setB_domCyc (f : Fld) (b : Bool) : (s.setB f b).domCyc = s.domCyc := rfl
@[simp] theorem State.setB_lines (f : Fld) (b : Bool) : (s.setB f b).lines = s.lines := rfl
@[simp] theorem State.setB_cmo (f : Fld) (b : Bool) : (s.setB f b).cmo = s.cmo := rfl
@[simp] theorem State.setB_ident (f : Fld) (b : Bool) : (s.setB f b).ident = s.ident := rfl
@[simp] theorem State.setB_hub (f : Fld) (b : Bool) : (s.setB f b).hub = s.hub := rfl
@[simp] theorem State.setB_opens (f : Fld) (b : Bool) : (s.setB f b).opens = s.opens := rfl
@[simp] theorem State.setB_sec (f : Fld) (b : Bool) : (s.setB f b).sec = s.sec := rfl
@[simp] theorem State.setB_cro (f : Fld) (b : Bool) : (s.setB f b).cro = s.cro := rfl
@[simp] theorem State.setB_clks (f : Fld) (b : Bool) : (s.setB f b).clks = s.clks := rfl
@[simp] theorem State.setB_badSensor (f : Fld) (b : Bool) : (s.setB f b).badSensor = s.badSensor := rfl
@[simp] theorem State.setB_coarse (f : Fld) (b : Bool) : (s.setB f b).coarse = s.coarse := rfl
@[simp] theorem State.setB_peers (f : Fld) (b : Bool) : (s.setB f b).peers = s.peers := rfl
@[simp] theorem State.setB_now (f : Fld) (b : Bool) : (s.setB f b).now = s.now := rfl
@[simp] theorem State.setB_freeCtr (f : Fld) (b : Bool) : (s.setB f b).freeCtr = s.freeCtr := rfl
@[simp] theorem State.setB_out (f : Fld) (b : Bool) : (s.setB f b).out = s.out := rfl
@[simp] theorem State.setB_pending (f : Fld) (b : Bool) : (s.setB f b).pending = s.pending := rfl

/-! ## addSat -/

@[simp] theorem State.addSat_mem (f : Fld) (n : Nat) : (s.addSat f n).mem = s.mem := rfl
@[simp] theorem State.addSat_badBursts (f : Fld) (n : Nat) : (s.addSat f n).badBursts = s.badBursts := rfl
@[simp] theorem State.addSat_bks (f : Fld) (n : Nat) : (s.addSat f n).bks = s.bks := rfl
@[simp] theorem State.addSat_ueWait (f : Fld) (n : Nat) : (s.addSat f n).ueWait = s.ueWait := rfl
@[simp] theorem State.addSat_badWords (f : Fld) (n : Nat) : (s.addSat f n).badWords = s.badWords := rfl
@[simp] theorem State.addSat_cores (f : Fld) (n : Nat) : (s.addSat f n).cores = s.cores := rfl
@[simp] theorem State.addSat_net (f : Fld) (n : Nat) : (s.addSat f n).net = s.net := rfl
@[simp] theorem State.addSat_dma (f : Fld) (n : Nat) : (s.addSat f n).dma = s.dma := rfl
@[simp] theorem State.addSat_dmaLast (f : Fld) (n : Nat) : (s.addSat f n).dmaLast = s.dmaLast := rfl
@[simp] theorem State.addSat_nextId (f : Fld) (n : Nat) : (s.addSat f n).nextId = s.nextId := rfl
@[simp] theorem State.addSat_logWait (f : Fld) (n : Nat) : (s.addSat f n).logWait = s.logWait := rfl
@[simp] theorem State.addSat_tasks (f : Fld) (n : Nat) : (s.addSat f n).tasks = s.tasks := rfl
@[simp] theorem State.addSat_seq (f : Fld) (n : Nat) : (s.addSat f n).seq = s.seq := rfl
@[simp] theorem State.addSat_hubTime (f : Fld) (n : Nat) : (s.addSat f n).hubTime = s.hubTime := rfl
@[simp] theorem State.addSat_faultSeq (f : Fld) (n : Nat) : (s.addSat f n).faultSeq = s.faultSeq := rfl
@[simp] theorem State.addSat_trnUpd (f : Fld) (n : Nat) : (s.addSat f n).trnUpd = s.trnUpd := rfl
@[simp] theorem State.addSat_hosts (f : Fld) (n : Nat) : (s.addSat f n).hosts = s.hosts := rfl
@[simp] theorem State.addSat_cuts (f : Fld) (n : Nat) : (s.addSat f n).cuts = s.cuts := rfl
@[simp] theorem State.addSat_recHold (f : Fld) (n : Nat) : (s.addSat f n).recHold = s.recHold := rfl
@[simp] theorem State.addSat_sealKeys (f : Fld) (n : Nat) : (s.addSat f n).sealKeys = s.sealKeys := rfl
@[simp] theorem State.addSat_fell (f : Fld) (n : Nat) : (s.addSat f n).fell = s.fell := rfl
@[simp] theorem State.addSat_caps (f : Fld) (n : Nat) : (s.addSat f n).caps = s.caps := rfl
@[simp] theorem State.addSat_labels (f : Fld) (n : Nat) : (s.addSat f n).labels = s.labels := rfl
@[simp] theorem State.addSat_paused (f : Fld) (n : Nat) : (s.addSat f n).paused = s.paused := rfl
@[simp] theorem State.addSat_shadow (f : Fld) (n : Nat) : (s.addSat f n).shadow = s.shadow := rfl
@[simp] theorem State.addSat_faultWait (f : Fld) (n : Nat) : (s.addSat f n).faultWait = s.faultWait := rfl
@[simp] theorem State.addSat_fullTold (f : Fld) (n : Nat) : (s.addSat f n).fullTold = s.fullTold := rfl
@[simp] theorem State.addSat_evSeq (f : Fld) (n : Nat) : (s.addSat f n).evSeq = s.evSeq := rfl
@[simp] theorem State.addSat_fencedTen (f : Fld) (n : Nat) : (s.addSat f n).fencedTen = s.fencedTen := rfl
@[simp] theorem State.addSat_floors (f : Fld) (n : Nat) : (s.addSat f n).floors = s.floors := rfl
@[simp] theorem State.addSat_domCyc (f : Fld) (n : Nat) : (s.addSat f n).domCyc = s.domCyc := rfl
@[simp] theorem State.addSat_lines (f : Fld) (n : Nat) : (s.addSat f n).lines = s.lines := rfl
@[simp] theorem State.addSat_cmo (f : Fld) (n : Nat) : (s.addSat f n).cmo = s.cmo := rfl
@[simp] theorem State.addSat_ident (f : Fld) (n : Nat) : (s.addSat f n).ident = s.ident := rfl
@[simp] theorem State.addSat_hub (f : Fld) (n : Nat) : (s.addSat f n).hub = s.hub := rfl
@[simp] theorem State.addSat_opens (f : Fld) (n : Nat) : (s.addSat f n).opens = s.opens := rfl
@[simp] theorem State.addSat_sec (f : Fld) (n : Nat) : (s.addSat f n).sec = s.sec := rfl
@[simp] theorem State.addSat_cro (f : Fld) (n : Nat) : (s.addSat f n).cro = s.cro := rfl
@[simp] theorem State.addSat_clks (f : Fld) (n : Nat) : (s.addSat f n).clks = s.clks := rfl
@[simp] theorem State.addSat_badSensor (f : Fld) (n : Nat) : (s.addSat f n).badSensor = s.badSensor := rfl
@[simp] theorem State.addSat_coarse (f : Fld) (n : Nat) : (s.addSat f n).coarse = s.coarse := rfl
@[simp] theorem State.addSat_peers (f : Fld) (n : Nat) : (s.addSat f n).peers = s.peers := rfl
@[simp] theorem State.addSat_now (f : Fld) (n : Nat) : (s.addSat f n).now = s.now := rfl
@[simp] theorem State.addSat_freeCtr (f : Fld) (n : Nat) : (s.addSat f n).freeCtr = s.freeCtr := rfl
@[simp] theorem State.addSat_out (f : Fld) (n : Nat) : (s.addSat f n).out = s.out := rfl
@[simp] theorem State.addSat_pending (f : Fld) (n : Nat) : (s.addSat f n).pending = s.pending := rfl

/-! ## setByte -/

@[simp] theorem State.setByte_regs (k : Nat) (b : Byte) : (s.setByte k b).regs = s.regs := rfl
@[simp] theorem State.setByte_badBursts (k : Nat) (b : Byte) : (s.setByte k b).badBursts = s.badBursts := rfl
@[simp] theorem State.setByte_bks (k : Nat) (b : Byte) : (s.setByte k b).bks = s.bks := rfl
@[simp] theorem State.setByte_ueWait (k : Nat) (b : Byte) : (s.setByte k b).ueWait = s.ueWait := rfl
@[simp] theorem State.setByte_badWords (k : Nat) (b : Byte) : (s.setByte k b).badWords = s.badWords := rfl
@[simp] theorem State.setByte_cores (k : Nat) (b : Byte) : (s.setByte k b).cores = s.cores := rfl
@[simp] theorem State.setByte_net (k : Nat) (b : Byte) : (s.setByte k b).net = s.net := rfl
@[simp] theorem State.setByte_dma (k : Nat) (b : Byte) : (s.setByte k b).dma = s.dma := rfl
@[simp] theorem State.setByte_dmaLast (k : Nat) (b : Byte) : (s.setByte k b).dmaLast = s.dmaLast := rfl
@[simp] theorem State.setByte_nextId (k : Nat) (b : Byte) : (s.setByte k b).nextId = s.nextId := rfl
@[simp] theorem State.setByte_logWait (k : Nat) (b : Byte) : (s.setByte k b).logWait = s.logWait := rfl
@[simp] theorem State.setByte_tasks (k : Nat) (b : Byte) : (s.setByte k b).tasks = s.tasks := rfl
@[simp] theorem State.setByte_seq (k : Nat) (b : Byte) : (s.setByte k b).seq = s.seq := rfl
@[simp] theorem State.setByte_hubTime (k : Nat) (b : Byte) : (s.setByte k b).hubTime = s.hubTime := rfl
@[simp] theorem State.setByte_faultSeq (k : Nat) (b : Byte) : (s.setByte k b).faultSeq = s.faultSeq := rfl
@[simp] theorem State.setByte_trnUpd (k : Nat) (b : Byte) : (s.setByte k b).trnUpd = s.trnUpd := rfl
@[simp] theorem State.setByte_hosts (k : Nat) (b : Byte) : (s.setByte k b).hosts = s.hosts := rfl
@[simp] theorem State.setByte_cuts (k : Nat) (b : Byte) : (s.setByte k b).cuts = s.cuts := rfl
@[simp] theorem State.setByte_recHold (k : Nat) (b : Byte) : (s.setByte k b).recHold = s.recHold := rfl
@[simp] theorem State.setByte_sealKeys (k : Nat) (b : Byte) : (s.setByte k b).sealKeys = s.sealKeys := rfl
@[simp] theorem State.setByte_fell (k : Nat) (b : Byte) : (s.setByte k b).fell = s.fell := rfl
@[simp] theorem State.setByte_caps (k : Nat) (b : Byte) : (s.setByte k b).caps = s.caps := rfl
@[simp] theorem State.setByte_labels (k : Nat) (b : Byte) : (s.setByte k b).labels = s.labels := rfl
@[simp] theorem State.setByte_paused (k : Nat) (b : Byte) : (s.setByte k b).paused = s.paused := rfl
@[simp] theorem State.setByte_shadow (k : Nat) (b : Byte) : (s.setByte k b).shadow = s.shadow := rfl
@[simp] theorem State.setByte_faultWait (k : Nat) (b : Byte) : (s.setByte k b).faultWait = s.faultWait := rfl
@[simp] theorem State.setByte_fullTold (k : Nat) (b : Byte) : (s.setByte k b).fullTold = s.fullTold := rfl
@[simp] theorem State.setByte_evSeq (k : Nat) (b : Byte) : (s.setByte k b).evSeq = s.evSeq := rfl
@[simp] theorem State.setByte_fencedTen (k : Nat) (b : Byte) : (s.setByte k b).fencedTen = s.fencedTen := rfl
@[simp] theorem State.setByte_floors (k : Nat) (b : Byte) : (s.setByte k b).floors = s.floors := rfl
@[simp] theorem State.setByte_domCyc (k : Nat) (b : Byte) : (s.setByte k b).domCyc = s.domCyc := rfl
@[simp] theorem State.setByte_lines (k : Nat) (b : Byte) : (s.setByte k b).lines = s.lines := rfl
@[simp] theorem State.setByte_cmo (k : Nat) (b : Byte) : (s.setByte k b).cmo = s.cmo := rfl
@[simp] theorem State.setByte_ident (k : Nat) (b : Byte) : (s.setByte k b).ident = s.ident := rfl
@[simp] theorem State.setByte_hub (k : Nat) (b : Byte) : (s.setByte k b).hub = s.hub := rfl
@[simp] theorem State.setByte_opens (k : Nat) (b : Byte) : (s.setByte k b).opens = s.opens := rfl
@[simp] theorem State.setByte_sec (k : Nat) (b : Byte) : (s.setByte k b).sec = s.sec := rfl
@[simp] theorem State.setByte_cro (k : Nat) (b : Byte) : (s.setByte k b).cro = s.cro := rfl
@[simp] theorem State.setByte_clks (k : Nat) (b : Byte) : (s.setByte k b).clks = s.clks := rfl
@[simp] theorem State.setByte_badSensor (k : Nat) (b : Byte) : (s.setByte k b).badSensor = s.badSensor := rfl
@[simp] theorem State.setByte_coarse (k : Nat) (b : Byte) : (s.setByte k b).coarse = s.coarse := rfl
@[simp] theorem State.setByte_peers (k : Nat) (b : Byte) : (s.setByte k b).peers = s.peers := rfl
@[simp] theorem State.setByte_now (k : Nat) (b : Byte) : (s.setByte k b).now = s.now := rfl
@[simp] theorem State.setByte_freeCtr (k : Nat) (b : Byte) : (s.setByte k b).freeCtr = s.freeCtr := rfl
@[simp] theorem State.setByte_out (k : Nat) (b : Byte) : (s.setByte k b).out = s.out := rfl
@[simp] theorem State.setByte_pending (k : Nat) (b : Byte) : (s.setByte k b).pending = s.pending := rfl

/-! ## setBytes -/

@[simp] theorem State.setBytes_regs (k : Nat) (bs : List Byte) : (s.setBytes k bs).regs = s.regs := rfl
@[simp] theorem State.setBytes_badBursts (k : Nat) (bs : List Byte) : (s.setBytes k bs).badBursts = s.badBursts := rfl
@[simp] theorem State.setBytes_bks (k : Nat) (bs : List Byte) : (s.setBytes k bs).bks = s.bks := rfl
@[simp] theorem State.setBytes_ueWait (k : Nat) (bs : List Byte) : (s.setBytes k bs).ueWait = s.ueWait := rfl
@[simp] theorem State.setBytes_badWords (k : Nat) (bs : List Byte) : (s.setBytes k bs).badWords = s.badWords := rfl
@[simp] theorem State.setBytes_cores (k : Nat) (bs : List Byte) : (s.setBytes k bs).cores = s.cores := rfl
@[simp] theorem State.setBytes_net (k : Nat) (bs : List Byte) : (s.setBytes k bs).net = s.net := rfl
@[simp] theorem State.setBytes_dma (k : Nat) (bs : List Byte) : (s.setBytes k bs).dma = s.dma := rfl
@[simp] theorem State.setBytes_dmaLast (k : Nat) (bs : List Byte) : (s.setBytes k bs).dmaLast = s.dmaLast := rfl
@[simp] theorem State.setBytes_nextId (k : Nat) (bs : List Byte) : (s.setBytes k bs).nextId = s.nextId := rfl
@[simp] theorem State.setBytes_logWait (k : Nat) (bs : List Byte) : (s.setBytes k bs).logWait = s.logWait := rfl
@[simp] theorem State.setBytes_tasks (k : Nat) (bs : List Byte) : (s.setBytes k bs).tasks = s.tasks := rfl
@[simp] theorem State.setBytes_seq (k : Nat) (bs : List Byte) : (s.setBytes k bs).seq = s.seq := rfl
@[simp] theorem State.setBytes_hubTime (k : Nat) (bs : List Byte) : (s.setBytes k bs).hubTime = s.hubTime := rfl
@[simp] theorem State.setBytes_faultSeq (k : Nat) (bs : List Byte) : (s.setBytes k bs).faultSeq = s.faultSeq := rfl
@[simp] theorem State.setBytes_trnUpd (k : Nat) (bs : List Byte) : (s.setBytes k bs).trnUpd = s.trnUpd := rfl
@[simp] theorem State.setBytes_hosts (k : Nat) (bs : List Byte) : (s.setBytes k bs).hosts = s.hosts := rfl
@[simp] theorem State.setBytes_cuts (k : Nat) (bs : List Byte) : (s.setBytes k bs).cuts = s.cuts := rfl
@[simp] theorem State.setBytes_recHold (k : Nat) (bs : List Byte) : (s.setBytes k bs).recHold = s.recHold := rfl
@[simp] theorem State.setBytes_sealKeys (k : Nat) (bs : List Byte) : (s.setBytes k bs).sealKeys = s.sealKeys := rfl
@[simp] theorem State.setBytes_fell (k : Nat) (bs : List Byte) : (s.setBytes k bs).fell = s.fell := rfl
@[simp] theorem State.setBytes_caps (k : Nat) (bs : List Byte) : (s.setBytes k bs).caps = s.caps := rfl
@[simp] theorem State.setBytes_labels (k : Nat) (bs : List Byte) : (s.setBytes k bs).labels = s.labels := rfl
@[simp] theorem State.setBytes_paused (k : Nat) (bs : List Byte) : (s.setBytes k bs).paused = s.paused := rfl
@[simp] theorem State.setBytes_shadow (k : Nat) (bs : List Byte) : (s.setBytes k bs).shadow = s.shadow := rfl
@[simp] theorem State.setBytes_faultWait (k : Nat) (bs : List Byte) : (s.setBytes k bs).faultWait = s.faultWait := rfl
@[simp] theorem State.setBytes_fullTold (k : Nat) (bs : List Byte) : (s.setBytes k bs).fullTold = s.fullTold := rfl
@[simp] theorem State.setBytes_evSeq (k : Nat) (bs : List Byte) : (s.setBytes k bs).evSeq = s.evSeq := rfl
@[simp] theorem State.setBytes_fencedTen (k : Nat) (bs : List Byte) : (s.setBytes k bs).fencedTen = s.fencedTen := rfl
@[simp] theorem State.setBytes_floors (k : Nat) (bs : List Byte) : (s.setBytes k bs).floors = s.floors := rfl
@[simp] theorem State.setBytes_domCyc (k : Nat) (bs : List Byte) : (s.setBytes k bs).domCyc = s.domCyc := rfl
@[simp] theorem State.setBytes_lines (k : Nat) (bs : List Byte) : (s.setBytes k bs).lines = s.lines := rfl
@[simp] theorem State.setBytes_cmo (k : Nat) (bs : List Byte) : (s.setBytes k bs).cmo = s.cmo := rfl
@[simp] theorem State.setBytes_ident (k : Nat) (bs : List Byte) : (s.setBytes k bs).ident = s.ident := rfl
@[simp] theorem State.setBytes_hub (k : Nat) (bs : List Byte) : (s.setBytes k bs).hub = s.hub := rfl
@[simp] theorem State.setBytes_opens (k : Nat) (bs : List Byte) : (s.setBytes k bs).opens = s.opens := rfl
@[simp] theorem State.setBytes_sec (k : Nat) (bs : List Byte) : (s.setBytes k bs).sec = s.sec := rfl
@[simp] theorem State.setBytes_cro (k : Nat) (bs : List Byte) : (s.setBytes k bs).cro = s.cro := rfl
@[simp] theorem State.setBytes_clks (k : Nat) (bs : List Byte) : (s.setBytes k bs).clks = s.clks := rfl
@[simp] theorem State.setBytes_badSensor (k : Nat) (bs : List Byte) : (s.setBytes k bs).badSensor = s.badSensor := rfl
@[simp] theorem State.setBytes_coarse (k : Nat) (bs : List Byte) : (s.setBytes k bs).coarse = s.coarse := rfl
@[simp] theorem State.setBytes_peers (k : Nat) (bs : List Byte) : (s.setBytes k bs).peers = s.peers := rfl
@[simp] theorem State.setBytes_now (k : Nat) (bs : List Byte) : (s.setBytes k bs).now = s.now := rfl
@[simp] theorem State.setBytes_freeCtr (k : Nat) (bs : List Byte) : (s.setBytes k bs).freeCtr = s.freeCtr := rfl
@[simp] theorem State.setBytes_out (k : Nat) (bs : List Byte) : (s.setBytes k bs).out = s.out := rfl
@[simp] theorem State.setBytes_pending (k : Nat) (bs : List Byte) : (s.setBytes k bs).pending = s.pending := rfl

/-! ## setSpad -/

@[simp] theorem State.setSpad_regs (c o : Nat) (bs : List Byte) : (s.setSpad c o bs).regs = s.regs := rfl
@[simp] theorem State.setSpad_badBursts (c o : Nat) (bs : List Byte) : (s.setSpad c o bs).badBursts = s.badBursts := rfl
@[simp] theorem State.setSpad_bks (c o : Nat) (bs : List Byte) : (s.setSpad c o bs).bks = s.bks := rfl
@[simp] theorem State.setSpad_ueWait (c o : Nat) (bs : List Byte) : (s.setSpad c o bs).ueWait = s.ueWait := rfl
@[simp] theorem State.setSpad_cores (c o : Nat) (bs : List Byte) : (s.setSpad c o bs).cores = s.cores := rfl
@[simp] theorem State.setSpad_net (c o : Nat) (bs : List Byte) : (s.setSpad c o bs).net = s.net := rfl
@[simp] theorem State.setSpad_dma (c o : Nat) (bs : List Byte) : (s.setSpad c o bs).dma = s.dma := rfl
@[simp] theorem State.setSpad_dmaLast (c o : Nat) (bs : List Byte) : (s.setSpad c o bs).dmaLast = s.dmaLast := rfl
@[simp] theorem State.setSpad_nextId (c o : Nat) (bs : List Byte) : (s.setSpad c o bs).nextId = s.nextId := rfl
@[simp] theorem State.setSpad_logWait (c o : Nat) (bs : List Byte) : (s.setSpad c o bs).logWait = s.logWait := rfl
@[simp] theorem State.setSpad_tasks (c o : Nat) (bs : List Byte) : (s.setSpad c o bs).tasks = s.tasks := rfl
@[simp] theorem State.setSpad_seq (c o : Nat) (bs : List Byte) : (s.setSpad c o bs).seq = s.seq := rfl
@[simp] theorem State.setSpad_hubTime (c o : Nat) (bs : List Byte) : (s.setSpad c o bs).hubTime = s.hubTime := rfl
@[simp] theorem State.setSpad_faultSeq (c o : Nat) (bs : List Byte) : (s.setSpad c o bs).faultSeq = s.faultSeq := rfl
@[simp] theorem State.setSpad_trnUpd (c o : Nat) (bs : List Byte) : (s.setSpad c o bs).trnUpd = s.trnUpd := rfl
@[simp] theorem State.setSpad_hosts (c o : Nat) (bs : List Byte) : (s.setSpad c o bs).hosts = s.hosts := rfl
@[simp] theorem State.setSpad_cuts (c o : Nat) (bs : List Byte) : (s.setSpad c o bs).cuts = s.cuts := rfl
@[simp] theorem State.setSpad_recHold (c o : Nat) (bs : List Byte) : (s.setSpad c o bs).recHold = s.recHold := rfl
@[simp] theorem State.setSpad_sealKeys (c o : Nat) (bs : List Byte) : (s.setSpad c o bs).sealKeys = s.sealKeys := rfl
@[simp] theorem State.setSpad_fell (c o : Nat) (bs : List Byte) : (s.setSpad c o bs).fell = s.fell := rfl
@[simp] theorem State.setSpad_caps (c o : Nat) (bs : List Byte) : (s.setSpad c o bs).caps = s.caps := rfl
@[simp] theorem State.setSpad_labels (c o : Nat) (bs : List Byte) : (s.setSpad c o bs).labels = s.labels := rfl
@[simp] theorem State.setSpad_paused (c o : Nat) (bs : List Byte) : (s.setSpad c o bs).paused = s.paused := rfl
@[simp] theorem State.setSpad_shadow (c o : Nat) (bs : List Byte) : (s.setSpad c o bs).shadow = s.shadow := rfl
@[simp] theorem State.setSpad_faultWait (c o : Nat) (bs : List Byte) : (s.setSpad c o bs).faultWait = s.faultWait := rfl
@[simp] theorem State.setSpad_fullTold (c o : Nat) (bs : List Byte) : (s.setSpad c o bs).fullTold = s.fullTold := rfl
@[simp] theorem State.setSpad_evSeq (c o : Nat) (bs : List Byte) : (s.setSpad c o bs).evSeq = s.evSeq := rfl
@[simp] theorem State.setSpad_fencedTen (c o : Nat) (bs : List Byte) : (s.setSpad c o bs).fencedTen = s.fencedTen := rfl
@[simp] theorem State.setSpad_floors (c o : Nat) (bs : List Byte) : (s.setSpad c o bs).floors = s.floors := rfl
@[simp] theorem State.setSpad_domCyc (c o : Nat) (bs : List Byte) : (s.setSpad c o bs).domCyc = s.domCyc := rfl
@[simp] theorem State.setSpad_lines (c o : Nat) (bs : List Byte) : (s.setSpad c o bs).lines = s.lines := rfl
@[simp] theorem State.setSpad_cmo (c o : Nat) (bs : List Byte) : (s.setSpad c o bs).cmo = s.cmo := rfl
@[simp] theorem State.setSpad_ident (c o : Nat) (bs : List Byte) : (s.setSpad c o bs).ident = s.ident := rfl
@[simp] theorem State.setSpad_hub (c o : Nat) (bs : List Byte) : (s.setSpad c o bs).hub = s.hub := rfl
@[simp] theorem State.setSpad_opens (c o : Nat) (bs : List Byte) : (s.setSpad c o bs).opens = s.opens := rfl
@[simp] theorem State.setSpad_sec (c o : Nat) (bs : List Byte) : (s.setSpad c o bs).sec = s.sec := rfl
@[simp] theorem State.setSpad_cro (c o : Nat) (bs : List Byte) : (s.setSpad c o bs).cro = s.cro := rfl
@[simp] theorem State.setSpad_clks (c o : Nat) (bs : List Byte) : (s.setSpad c o bs).clks = s.clks := rfl
@[simp] theorem State.setSpad_badSensor (c o : Nat) (bs : List Byte) : (s.setSpad c o bs).badSensor = s.badSensor := rfl
@[simp] theorem State.setSpad_coarse (c o : Nat) (bs : List Byte) : (s.setSpad c o bs).coarse = s.coarse := rfl
@[simp] theorem State.setSpad_peers (c o : Nat) (bs : List Byte) : (s.setSpad c o bs).peers = s.peers := rfl
@[simp] theorem State.setSpad_now (c o : Nat) (bs : List Byte) : (s.setSpad c o bs).now = s.now := rfl
@[simp] theorem State.setSpad_freeCtr (c o : Nat) (bs : List Byte) : (s.setSpad c o bs).freeCtr = s.freeCtr := rfl
@[simp] theorem State.setSpad_out (c o : Nat) (bs : List Byte) : (s.setSpad c o bs).out = s.out := rfl
@[simp] theorem State.setSpad_pending (c o : Nat) (bs : List Byte) : (s.setSpad c o bs).pending = s.pending := rfl

/-! ## setCore -/

@[simp] theorem State.setCore_regs (c : Nat) (k : Core) : (s.setCore c k).regs = s.regs := rfl
@[simp] theorem State.setCore_mem (c : Nat) (k : Core) : (s.setCore c k).mem = s.mem := rfl
@[simp] theorem State.setCore_badBursts (c : Nat) (k : Core) : (s.setCore c k).badBursts = s.badBursts := rfl
@[simp] theorem State.setCore_bks (c : Nat) (k : Core) : (s.setCore c k).bks = s.bks := rfl
@[simp] theorem State.setCore_ueWait (c : Nat) (k : Core) : (s.setCore c k).ueWait = s.ueWait := rfl
@[simp] theorem State.setCore_badWords (c : Nat) (k : Core) : (s.setCore c k).badWords = s.badWords := rfl
@[simp] theorem State.setCore_net (c : Nat) (k : Core) : (s.setCore c k).net = s.net := rfl
@[simp] theorem State.setCore_dma (c : Nat) (k : Core) : (s.setCore c k).dma = s.dma := rfl
@[simp] theorem State.setCore_dmaLast (c : Nat) (k : Core) : (s.setCore c k).dmaLast = s.dmaLast := rfl
@[simp] theorem State.setCore_nextId (c : Nat) (k : Core) : (s.setCore c k).nextId = s.nextId := rfl
@[simp] theorem State.setCore_logWait (c : Nat) (k : Core) : (s.setCore c k).logWait = s.logWait := rfl
@[simp] theorem State.setCore_tasks (c : Nat) (k : Core) : (s.setCore c k).tasks = s.tasks := rfl
@[simp] theorem State.setCore_seq (c : Nat) (k : Core) : (s.setCore c k).seq = s.seq := rfl
@[simp] theorem State.setCore_hubTime (c : Nat) (k : Core) : (s.setCore c k).hubTime = s.hubTime := rfl
@[simp] theorem State.setCore_faultSeq (c : Nat) (k : Core) : (s.setCore c k).faultSeq = s.faultSeq := rfl
@[simp] theorem State.setCore_trnUpd (c : Nat) (k : Core) : (s.setCore c k).trnUpd = s.trnUpd := rfl
@[simp] theorem State.setCore_hosts (c : Nat) (k : Core) : (s.setCore c k).hosts = s.hosts := rfl
@[simp] theorem State.setCore_cuts (c : Nat) (k : Core) : (s.setCore c k).cuts = s.cuts := rfl
@[simp] theorem State.setCore_recHold (c : Nat) (k : Core) : (s.setCore c k).recHold = s.recHold := rfl
@[simp] theorem State.setCore_sealKeys (c : Nat) (k : Core) : (s.setCore c k).sealKeys = s.sealKeys := rfl
@[simp] theorem State.setCore_fell (c : Nat) (k : Core) : (s.setCore c k).fell = s.fell := rfl
@[simp] theorem State.setCore_caps (c : Nat) (k : Core) : (s.setCore c k).caps = s.caps := rfl
@[simp] theorem State.setCore_labels (c : Nat) (k : Core) : (s.setCore c k).labels = s.labels := rfl
@[simp] theorem State.setCore_paused (c : Nat) (k : Core) : (s.setCore c k).paused = s.paused := rfl
@[simp] theorem State.setCore_shadow (c : Nat) (k : Core) : (s.setCore c k).shadow = s.shadow := rfl
@[simp] theorem State.setCore_faultWait (c : Nat) (k : Core) : (s.setCore c k).faultWait = s.faultWait := rfl
@[simp] theorem State.setCore_fullTold (c : Nat) (k : Core) : (s.setCore c k).fullTold = s.fullTold := rfl
@[simp] theorem State.setCore_evSeq (c : Nat) (k : Core) : (s.setCore c k).evSeq = s.evSeq := rfl
@[simp] theorem State.setCore_fencedTen (c : Nat) (k : Core) : (s.setCore c k).fencedTen = s.fencedTen := rfl
@[simp] theorem State.setCore_floors (c : Nat) (k : Core) : (s.setCore c k).floors = s.floors := rfl
@[simp] theorem State.setCore_domCyc (c : Nat) (k : Core) : (s.setCore c k).domCyc = s.domCyc := rfl
@[simp] theorem State.setCore_lines (c : Nat) (k : Core) : (s.setCore c k).lines = s.lines := rfl
@[simp] theorem State.setCore_cmo (c : Nat) (k : Core) : (s.setCore c k).cmo = s.cmo := rfl
@[simp] theorem State.setCore_ident (c : Nat) (k : Core) : (s.setCore c k).ident = s.ident := rfl
@[simp] theorem State.setCore_hub (c : Nat) (k : Core) : (s.setCore c k).hub = s.hub := rfl
@[simp] theorem State.setCore_opens (c : Nat) (k : Core) : (s.setCore c k).opens = s.opens := rfl
@[simp] theorem State.setCore_sec (c : Nat) (k : Core) : (s.setCore c k).sec = s.sec := rfl
@[simp] theorem State.setCore_cro (c : Nat) (k : Core) : (s.setCore c k).cro = s.cro := rfl
@[simp] theorem State.setCore_clks (c : Nat) (k : Core) : (s.setCore c k).clks = s.clks := rfl
@[simp] theorem State.setCore_badSensor (c : Nat) (k : Core) : (s.setCore c k).badSensor = s.badSensor := rfl
@[simp] theorem State.setCore_coarse (c : Nat) (k : Core) : (s.setCore c k).coarse = s.coarse := rfl
@[simp] theorem State.setCore_peers (c : Nat) (k : Core) : (s.setCore c k).peers = s.peers := rfl
@[simp] theorem State.setCore_now (c : Nat) (k : Core) : (s.setCore c k).now = s.now := rfl
@[simp] theorem State.setCore_freeCtr (c : Nat) (k : Core) : (s.setCore c k).freeCtr = s.freeCtr := rfl
@[simp] theorem State.setCore_out (c : Nat) (k : Core) : (s.setCore c k).out = s.out := rfl
@[simp] theorem State.setCore_pending (c : Nat) (k : Core) : (s.setCore c k).pending = s.pending := rfl

/-! ## modCore -/

@[simp] theorem State.modCore_regs (c : Nat) (f : Core → Core) : (s.modCore c f).regs = s.regs := rfl
@[simp] theorem State.modCore_mem (c : Nat) (f : Core → Core) : (s.modCore c f).mem = s.mem := rfl
@[simp] theorem State.modCore_badBursts (c : Nat) (f : Core → Core) : (s.modCore c f).badBursts = s.badBursts := rfl
@[simp] theorem State.modCore_bks (c : Nat) (f : Core → Core) : (s.modCore c f).bks = s.bks := rfl
@[simp] theorem State.modCore_ueWait (c : Nat) (f : Core → Core) : (s.modCore c f).ueWait = s.ueWait := rfl
@[simp] theorem State.modCore_badWords (c : Nat) (f : Core → Core) : (s.modCore c f).badWords = s.badWords := rfl
@[simp] theorem State.modCore_net (c : Nat) (f : Core → Core) : (s.modCore c f).net = s.net := rfl
@[simp] theorem State.modCore_dma (c : Nat) (f : Core → Core) : (s.modCore c f).dma = s.dma := rfl
@[simp] theorem State.modCore_dmaLast (c : Nat) (f : Core → Core) : (s.modCore c f).dmaLast = s.dmaLast := rfl
@[simp] theorem State.modCore_nextId (c : Nat) (f : Core → Core) : (s.modCore c f).nextId = s.nextId := rfl
@[simp] theorem State.modCore_logWait (c : Nat) (f : Core → Core) : (s.modCore c f).logWait = s.logWait := rfl
@[simp] theorem State.modCore_tasks (c : Nat) (f : Core → Core) : (s.modCore c f).tasks = s.tasks := rfl
@[simp] theorem State.modCore_seq (c : Nat) (f : Core → Core) : (s.modCore c f).seq = s.seq := rfl
@[simp] theorem State.modCore_hubTime (c : Nat) (f : Core → Core) : (s.modCore c f).hubTime = s.hubTime := rfl
@[simp] theorem State.modCore_faultSeq (c : Nat) (f : Core → Core) : (s.modCore c f).faultSeq = s.faultSeq := rfl
@[simp] theorem State.modCore_trnUpd (c : Nat) (f : Core → Core) : (s.modCore c f).trnUpd = s.trnUpd := rfl
@[simp] theorem State.modCore_hosts (c : Nat) (f : Core → Core) : (s.modCore c f).hosts = s.hosts := rfl
@[simp] theorem State.modCore_cuts (c : Nat) (f : Core → Core) : (s.modCore c f).cuts = s.cuts := rfl
@[simp] theorem State.modCore_recHold (c : Nat) (f : Core → Core) : (s.modCore c f).recHold = s.recHold := rfl
@[simp] theorem State.modCore_sealKeys (c : Nat) (f : Core → Core) : (s.modCore c f).sealKeys = s.sealKeys := rfl
@[simp] theorem State.modCore_fell (c : Nat) (f : Core → Core) : (s.modCore c f).fell = s.fell := rfl
@[simp] theorem State.modCore_caps (c : Nat) (f : Core → Core) : (s.modCore c f).caps = s.caps := rfl
@[simp] theorem State.modCore_labels (c : Nat) (f : Core → Core) : (s.modCore c f).labels = s.labels := rfl
@[simp] theorem State.modCore_paused (c : Nat) (f : Core → Core) : (s.modCore c f).paused = s.paused := rfl
@[simp] theorem State.modCore_shadow (c : Nat) (f : Core → Core) : (s.modCore c f).shadow = s.shadow := rfl
@[simp] theorem State.modCore_faultWait (c : Nat) (f : Core → Core) : (s.modCore c f).faultWait = s.faultWait := rfl
@[simp] theorem State.modCore_fullTold (c : Nat) (f : Core → Core) : (s.modCore c f).fullTold = s.fullTold := rfl
@[simp] theorem State.modCore_evSeq (c : Nat) (f : Core → Core) : (s.modCore c f).evSeq = s.evSeq := rfl
@[simp] theorem State.modCore_fencedTen (c : Nat) (f : Core → Core) : (s.modCore c f).fencedTen = s.fencedTen := rfl
@[simp] theorem State.modCore_floors (c : Nat) (f : Core → Core) : (s.modCore c f).floors = s.floors := rfl
@[simp] theorem State.modCore_domCyc (c : Nat) (f : Core → Core) : (s.modCore c f).domCyc = s.domCyc := rfl
@[simp] theorem State.modCore_lines (c : Nat) (f : Core → Core) : (s.modCore c f).lines = s.lines := rfl
@[simp] theorem State.modCore_cmo (c : Nat) (f : Core → Core) : (s.modCore c f).cmo = s.cmo := rfl
@[simp] theorem State.modCore_ident (c : Nat) (f : Core → Core) : (s.modCore c f).ident = s.ident := rfl
@[simp] theorem State.modCore_hub (c : Nat) (f : Core → Core) : (s.modCore c f).hub = s.hub := rfl
@[simp] theorem State.modCore_opens (c : Nat) (f : Core → Core) : (s.modCore c f).opens = s.opens := rfl
@[simp] theorem State.modCore_sec (c : Nat) (f : Core → Core) : (s.modCore c f).sec = s.sec := rfl
@[simp] theorem State.modCore_cro (c : Nat) (f : Core → Core) : (s.modCore c f).cro = s.cro := rfl
@[simp] theorem State.modCore_clks (c : Nat) (f : Core → Core) : (s.modCore c f).clks = s.clks := rfl
@[simp] theorem State.modCore_badSensor (c : Nat) (f : Core → Core) : (s.modCore c f).badSensor = s.badSensor := rfl
@[simp] theorem State.modCore_coarse (c : Nat) (f : Core → Core) : (s.modCore c f).coarse = s.coarse := rfl
@[simp] theorem State.modCore_peers (c : Nat) (f : Core → Core) : (s.modCore c f).peers = s.peers := rfl
@[simp] theorem State.modCore_now (c : Nat) (f : Core → Core) : (s.modCore c f).now = s.now := rfl
@[simp] theorem State.modCore_freeCtr (c : Nat) (f : Core → Core) : (s.modCore c f).freeCtr = s.freeCtr := rfl
@[simp] theorem State.modCore_out (c : Nat) (f : Core → Core) : (s.modCore c f).out = s.out := rfl
@[simp] theorem State.modCore_pending (c : Nat) (f : Core → Core) : (s.modCore c f).pending = s.pending := rfl

/-! ## cset -/

@[simp] theorem State.cset_regs (c : Nat) (f : Fld) (v : Nat) : (s.cset c f v).regs = s.regs := rfl
@[simp] theorem State.cset_mem (c : Nat) (f : Fld) (v : Nat) : (s.cset c f v).mem = s.mem := rfl
@[simp] theorem State.cset_badBursts (c : Nat) (f : Fld) (v : Nat) : (s.cset c f v).badBursts = s.badBursts := rfl
@[simp] theorem State.cset_bks (c : Nat) (f : Fld) (v : Nat) : (s.cset c f v).bks = s.bks := rfl
@[simp] theorem State.cset_ueWait (c : Nat) (f : Fld) (v : Nat) : (s.cset c f v).ueWait = s.ueWait := rfl
@[simp] theorem State.cset_badWords (c : Nat) (f : Fld) (v : Nat) : (s.cset c f v).badWords = s.badWords := rfl
@[simp] theorem State.cset_net (c : Nat) (f : Fld) (v : Nat) : (s.cset c f v).net = s.net := rfl
@[simp] theorem State.cset_dma (c : Nat) (f : Fld) (v : Nat) : (s.cset c f v).dma = s.dma := rfl
@[simp] theorem State.cset_dmaLast (c : Nat) (f : Fld) (v : Nat) : (s.cset c f v).dmaLast = s.dmaLast := rfl
@[simp] theorem State.cset_nextId (c : Nat) (f : Fld) (v : Nat) : (s.cset c f v).nextId = s.nextId := rfl
@[simp] theorem State.cset_logWait (c : Nat) (f : Fld) (v : Nat) : (s.cset c f v).logWait = s.logWait := rfl
@[simp] theorem State.cset_tasks (c : Nat) (f : Fld) (v : Nat) : (s.cset c f v).tasks = s.tasks := rfl
@[simp] theorem State.cset_seq (c : Nat) (f : Fld) (v : Nat) : (s.cset c f v).seq = s.seq := rfl
@[simp] theorem State.cset_hubTime (c : Nat) (f : Fld) (v : Nat) : (s.cset c f v).hubTime = s.hubTime := rfl
@[simp] theorem State.cset_faultSeq (c : Nat) (f : Fld) (v : Nat) : (s.cset c f v).faultSeq = s.faultSeq := rfl
@[simp] theorem State.cset_trnUpd (c : Nat) (f : Fld) (v : Nat) : (s.cset c f v).trnUpd = s.trnUpd := rfl
@[simp] theorem State.cset_hosts (c : Nat) (f : Fld) (v : Nat) : (s.cset c f v).hosts = s.hosts := rfl
@[simp] theorem State.cset_cuts (c : Nat) (f : Fld) (v : Nat) : (s.cset c f v).cuts = s.cuts := rfl
@[simp] theorem State.cset_recHold (c : Nat) (f : Fld) (v : Nat) : (s.cset c f v).recHold = s.recHold := rfl
@[simp] theorem State.cset_sealKeys (c : Nat) (f : Fld) (v : Nat) : (s.cset c f v).sealKeys = s.sealKeys := rfl
@[simp] theorem State.cset_fell (c : Nat) (f : Fld) (v : Nat) : (s.cset c f v).fell = s.fell := rfl
@[simp] theorem State.cset_caps (c : Nat) (f : Fld) (v : Nat) : (s.cset c f v).caps = s.caps := rfl
@[simp] theorem State.cset_labels (c : Nat) (f : Fld) (v : Nat) : (s.cset c f v).labels = s.labels := rfl
@[simp] theorem State.cset_paused (c : Nat) (f : Fld) (v : Nat) : (s.cset c f v).paused = s.paused := rfl
@[simp] theorem State.cset_shadow (c : Nat) (f : Fld) (v : Nat) : (s.cset c f v).shadow = s.shadow := rfl
@[simp] theorem State.cset_faultWait (c : Nat) (f : Fld) (v : Nat) : (s.cset c f v).faultWait = s.faultWait := rfl
@[simp] theorem State.cset_fullTold (c : Nat) (f : Fld) (v : Nat) : (s.cset c f v).fullTold = s.fullTold := rfl
@[simp] theorem State.cset_evSeq (c : Nat) (f : Fld) (v : Nat) : (s.cset c f v).evSeq = s.evSeq := rfl
@[simp] theorem State.cset_fencedTen (c : Nat) (f : Fld) (v : Nat) : (s.cset c f v).fencedTen = s.fencedTen := rfl
@[simp] theorem State.cset_floors (c : Nat) (f : Fld) (v : Nat) : (s.cset c f v).floors = s.floors := rfl
@[simp] theorem State.cset_domCyc (c : Nat) (f : Fld) (v : Nat) : (s.cset c f v).domCyc = s.domCyc := rfl
@[simp] theorem State.cset_lines (c : Nat) (f : Fld) (v : Nat) : (s.cset c f v).lines = s.lines := rfl
@[simp] theorem State.cset_cmo (c : Nat) (f : Fld) (v : Nat) : (s.cset c f v).cmo = s.cmo := rfl
@[simp] theorem State.cset_ident (c : Nat) (f : Fld) (v : Nat) : (s.cset c f v).ident = s.ident := rfl
@[simp] theorem State.cset_hub (c : Nat) (f : Fld) (v : Nat) : (s.cset c f v).hub = s.hub := rfl
@[simp] theorem State.cset_opens (c : Nat) (f : Fld) (v : Nat) : (s.cset c f v).opens = s.opens := rfl
@[simp] theorem State.cset_sec (c : Nat) (f : Fld) (v : Nat) : (s.cset c f v).sec = s.sec := rfl
@[simp] theorem State.cset_cro (c : Nat) (f : Fld) (v : Nat) : (s.cset c f v).cro = s.cro := rfl
@[simp] theorem State.cset_clks (c : Nat) (f : Fld) (v : Nat) : (s.cset c f v).clks = s.clks := rfl
@[simp] theorem State.cset_badSensor (c : Nat) (f : Fld) (v : Nat) : (s.cset c f v).badSensor = s.badSensor := rfl
@[simp] theorem State.cset_coarse (c : Nat) (f : Fld) (v : Nat) : (s.cset c f v).coarse = s.coarse := rfl
@[simp] theorem State.cset_peers (c : Nat) (f : Fld) (v : Nat) : (s.cset c f v).peers = s.peers := rfl
@[simp] theorem State.cset_now (c : Nat) (f : Fld) (v : Nat) : (s.cset c f v).now = s.now := rfl
@[simp] theorem State.cset_freeCtr (c : Nat) (f : Fld) (v : Nat) : (s.cset c f v).freeCtr = s.freeCtr := rfl
@[simp] theorem State.cset_out (c : Nat) (f : Fld) (v : Nat) : (s.cset c f v).out = s.out := rfl
@[simp] theorem State.cset_pending (c : Nat) (f : Fld) (v : Nat) : (s.cset c f v).pending = s.pending := rfl

/-! ## caddSat -/

@[simp] theorem State.caddSat_regs (c : Nat) (f : Fld) (n : Nat) : (s.caddSat c f n).regs = s.regs := rfl
@[simp] theorem State.caddSat_mem (c : Nat) (f : Fld) (n : Nat) : (s.caddSat c f n).mem = s.mem := rfl
@[simp] theorem State.caddSat_badBursts (c : Nat) (f : Fld) (n : Nat) : (s.caddSat c f n).badBursts = s.badBursts := rfl
@[simp] theorem State.caddSat_bks (c : Nat) (f : Fld) (n : Nat) : (s.caddSat c f n).bks = s.bks := rfl
@[simp] theorem State.caddSat_ueWait (c : Nat) (f : Fld) (n : Nat) : (s.caddSat c f n).ueWait = s.ueWait := rfl
@[simp] theorem State.caddSat_badWords (c : Nat) (f : Fld) (n : Nat) : (s.caddSat c f n).badWords = s.badWords := rfl
@[simp] theorem State.caddSat_net (c : Nat) (f : Fld) (n : Nat) : (s.caddSat c f n).net = s.net := rfl
@[simp] theorem State.caddSat_dma (c : Nat) (f : Fld) (n : Nat) : (s.caddSat c f n).dma = s.dma := rfl
@[simp] theorem State.caddSat_dmaLast (c : Nat) (f : Fld) (n : Nat) : (s.caddSat c f n).dmaLast = s.dmaLast := rfl
@[simp] theorem State.caddSat_nextId (c : Nat) (f : Fld) (n : Nat) : (s.caddSat c f n).nextId = s.nextId := rfl
@[simp] theorem State.caddSat_logWait (c : Nat) (f : Fld) (n : Nat) : (s.caddSat c f n).logWait = s.logWait := rfl
@[simp] theorem State.caddSat_tasks (c : Nat) (f : Fld) (n : Nat) : (s.caddSat c f n).tasks = s.tasks := rfl
@[simp] theorem State.caddSat_seq (c : Nat) (f : Fld) (n : Nat) : (s.caddSat c f n).seq = s.seq := rfl
@[simp] theorem State.caddSat_hubTime (c : Nat) (f : Fld) (n : Nat) : (s.caddSat c f n).hubTime = s.hubTime := rfl
@[simp] theorem State.caddSat_faultSeq (c : Nat) (f : Fld) (n : Nat) : (s.caddSat c f n).faultSeq = s.faultSeq := rfl
@[simp] theorem State.caddSat_trnUpd (c : Nat) (f : Fld) (n : Nat) : (s.caddSat c f n).trnUpd = s.trnUpd := rfl
@[simp] theorem State.caddSat_hosts (c : Nat) (f : Fld) (n : Nat) : (s.caddSat c f n).hosts = s.hosts := rfl
@[simp] theorem State.caddSat_cuts (c : Nat) (f : Fld) (n : Nat) : (s.caddSat c f n).cuts = s.cuts := rfl
@[simp] theorem State.caddSat_recHold (c : Nat) (f : Fld) (n : Nat) : (s.caddSat c f n).recHold = s.recHold := rfl
@[simp] theorem State.caddSat_sealKeys (c : Nat) (f : Fld) (n : Nat) : (s.caddSat c f n).sealKeys = s.sealKeys := rfl
@[simp] theorem State.caddSat_fell (c : Nat) (f : Fld) (n : Nat) : (s.caddSat c f n).fell = s.fell := rfl
@[simp] theorem State.caddSat_caps (c : Nat) (f : Fld) (n : Nat) : (s.caddSat c f n).caps = s.caps := rfl
@[simp] theorem State.caddSat_labels (c : Nat) (f : Fld) (n : Nat) : (s.caddSat c f n).labels = s.labels := rfl
@[simp] theorem State.caddSat_paused (c : Nat) (f : Fld) (n : Nat) : (s.caddSat c f n).paused = s.paused := rfl
@[simp] theorem State.caddSat_shadow (c : Nat) (f : Fld) (n : Nat) : (s.caddSat c f n).shadow = s.shadow := rfl
@[simp] theorem State.caddSat_faultWait (c : Nat) (f : Fld) (n : Nat) : (s.caddSat c f n).faultWait = s.faultWait := rfl
@[simp] theorem State.caddSat_fullTold (c : Nat) (f : Fld) (n : Nat) : (s.caddSat c f n).fullTold = s.fullTold := rfl
@[simp] theorem State.caddSat_evSeq (c : Nat) (f : Fld) (n : Nat) : (s.caddSat c f n).evSeq = s.evSeq := rfl
@[simp] theorem State.caddSat_fencedTen (c : Nat) (f : Fld) (n : Nat) : (s.caddSat c f n).fencedTen = s.fencedTen := rfl
@[simp] theorem State.caddSat_floors (c : Nat) (f : Fld) (n : Nat) : (s.caddSat c f n).floors = s.floors := rfl
@[simp] theorem State.caddSat_domCyc (c : Nat) (f : Fld) (n : Nat) : (s.caddSat c f n).domCyc = s.domCyc := rfl
@[simp] theorem State.caddSat_lines (c : Nat) (f : Fld) (n : Nat) : (s.caddSat c f n).lines = s.lines := rfl
@[simp] theorem State.caddSat_cmo (c : Nat) (f : Fld) (n : Nat) : (s.caddSat c f n).cmo = s.cmo := rfl
@[simp] theorem State.caddSat_ident (c : Nat) (f : Fld) (n : Nat) : (s.caddSat c f n).ident = s.ident := rfl
@[simp] theorem State.caddSat_hub (c : Nat) (f : Fld) (n : Nat) : (s.caddSat c f n).hub = s.hub := rfl
@[simp] theorem State.caddSat_opens (c : Nat) (f : Fld) (n : Nat) : (s.caddSat c f n).opens = s.opens := rfl
@[simp] theorem State.caddSat_sec (c : Nat) (f : Fld) (n : Nat) : (s.caddSat c f n).sec = s.sec := rfl
@[simp] theorem State.caddSat_cro (c : Nat) (f : Fld) (n : Nat) : (s.caddSat c f n).cro = s.cro := rfl
@[simp] theorem State.caddSat_clks (c : Nat) (f : Fld) (n : Nat) : (s.caddSat c f n).clks = s.clks := rfl
@[simp] theorem State.caddSat_badSensor (c : Nat) (f : Fld) (n : Nat) : (s.caddSat c f n).badSensor = s.badSensor := rfl
@[simp] theorem State.caddSat_coarse (c : Nat) (f : Fld) (n : Nat) : (s.caddSat c f n).coarse = s.coarse := rfl
@[simp] theorem State.caddSat_peers (c : Nat) (f : Fld) (n : Nat) : (s.caddSat c f n).peers = s.peers := rfl
@[simp] theorem State.caddSat_now (c : Nat) (f : Fld) (n : Nat) : (s.caddSat c f n).now = s.now := rfl
@[simp] theorem State.caddSat_freeCtr (c : Nat) (f : Fld) (n : Nat) : (s.caddSat c f n).freeCtr = s.freeCtr := rfl
@[simp] theorem State.caddSat_out (c : Nat) (f : Fld) (n : Nat) : (s.caddSat c f n).out = s.out := rfl
@[simp] theorem State.caddSat_pending (c : Nat) (f : Fld) (n : Nat) : (s.caddSat c f n).pending = s.pending := rfl

/-! ## emit -/

@[simp] theorem State.emit_regs (k : String) (a : List Nat) (d : List Byte) : (s.emit k a d).regs = s.regs := rfl
@[simp] theorem State.emit_mem (k : String) (a : List Nat) (d : List Byte) : (s.emit k a d).mem = s.mem := rfl
@[simp] theorem State.emit_badBursts (k : String) (a : List Nat) (d : List Byte) : (s.emit k a d).badBursts = s.badBursts := rfl
@[simp] theorem State.emit_bks (k : String) (a : List Nat) (d : List Byte) : (s.emit k a d).bks = s.bks := rfl
@[simp] theorem State.emit_ueWait (k : String) (a : List Nat) (d : List Byte) : (s.emit k a d).ueWait = s.ueWait := rfl
@[simp] theorem State.emit_badWords (k : String) (a : List Nat) (d : List Byte) : (s.emit k a d).badWords = s.badWords := rfl
@[simp] theorem State.emit_cores (k : String) (a : List Nat) (d : List Byte) : (s.emit k a d).cores = s.cores := rfl
@[simp] theorem State.emit_net (k : String) (a : List Nat) (d : List Byte) : (s.emit k a d).net = s.net := rfl
@[simp] theorem State.emit_dma (k : String) (a : List Nat) (d : List Byte) : (s.emit k a d).dma = s.dma := rfl
@[simp] theorem State.emit_dmaLast (k : String) (a : List Nat) (d : List Byte) : (s.emit k a d).dmaLast = s.dmaLast := rfl
@[simp] theorem State.emit_nextId (k : String) (a : List Nat) (d : List Byte) : (s.emit k a d).nextId = s.nextId := rfl
@[simp] theorem State.emit_logWait (k : String) (a : List Nat) (d : List Byte) : (s.emit k a d).logWait = s.logWait := rfl
@[simp] theorem State.emit_tasks (k : String) (a : List Nat) (d : List Byte) : (s.emit k a d).tasks = s.tasks := rfl
@[simp] theorem State.emit_seq (k : String) (a : List Nat) (d : List Byte) : (s.emit k a d).seq = s.seq := rfl
@[simp] theorem State.emit_hubTime (k : String) (a : List Nat) (d : List Byte) : (s.emit k a d).hubTime = s.hubTime := rfl
@[simp] theorem State.emit_faultSeq (k : String) (a : List Nat) (d : List Byte) : (s.emit k a d).faultSeq = s.faultSeq := rfl
@[simp] theorem State.emit_trnUpd (k : String) (a : List Nat) (d : List Byte) : (s.emit k a d).trnUpd = s.trnUpd := rfl
@[simp] theorem State.emit_hosts (k : String) (a : List Nat) (d : List Byte) : (s.emit k a d).hosts = s.hosts := rfl
@[simp] theorem State.emit_cuts (k : String) (a : List Nat) (d : List Byte) : (s.emit k a d).cuts = s.cuts := rfl
@[simp] theorem State.emit_recHold (k : String) (a : List Nat) (d : List Byte) : (s.emit k a d).recHold = s.recHold := rfl
@[simp] theorem State.emit_sealKeys (k : String) (a : List Nat) (d : List Byte) : (s.emit k a d).sealKeys = s.sealKeys := rfl
@[simp] theorem State.emit_fell (k : String) (a : List Nat) (d : List Byte) : (s.emit k a d).fell = s.fell := rfl
@[simp] theorem State.emit_caps (k : String) (a : List Nat) (d : List Byte) : (s.emit k a d).caps = s.caps := rfl
@[simp] theorem State.emit_labels (k : String) (a : List Nat) (d : List Byte) : (s.emit k a d).labels = s.labels := rfl
@[simp] theorem State.emit_paused (k : String) (a : List Nat) (d : List Byte) : (s.emit k a d).paused = s.paused := rfl
@[simp] theorem State.emit_shadow (k : String) (a : List Nat) (d : List Byte) : (s.emit k a d).shadow = s.shadow := rfl
@[simp] theorem State.emit_faultWait (k : String) (a : List Nat) (d : List Byte) : (s.emit k a d).faultWait = s.faultWait := rfl
@[simp] theorem State.emit_fullTold (k : String) (a : List Nat) (d : List Byte) : (s.emit k a d).fullTold = s.fullTold := rfl
@[simp] theorem State.emit_evSeq (k : String) (a : List Nat) (d : List Byte) : (s.emit k a d).evSeq = s.evSeq := rfl
@[simp] theorem State.emit_fencedTen (k : String) (a : List Nat) (d : List Byte) : (s.emit k a d).fencedTen = s.fencedTen := rfl
@[simp] theorem State.emit_floors (k : String) (a : List Nat) (d : List Byte) : (s.emit k a d).floors = s.floors := rfl
@[simp] theorem State.emit_domCyc (k : String) (a : List Nat) (d : List Byte) : (s.emit k a d).domCyc = s.domCyc := rfl
@[simp] theorem State.emit_lines (k : String) (a : List Nat) (d : List Byte) : (s.emit k a d).lines = s.lines := rfl
@[simp] theorem State.emit_cmo (k : String) (a : List Nat) (d : List Byte) : (s.emit k a d).cmo = s.cmo := rfl
@[simp] theorem State.emit_ident (k : String) (a : List Nat) (d : List Byte) : (s.emit k a d).ident = s.ident := rfl
@[simp] theorem State.emit_hub (k : String) (a : List Nat) (d : List Byte) : (s.emit k a d).hub = s.hub := rfl
@[simp] theorem State.emit_opens (k : String) (a : List Nat) (d : List Byte) : (s.emit k a d).opens = s.opens := rfl
@[simp] theorem State.emit_sec (k : String) (a : List Nat) (d : List Byte) : (s.emit k a d).sec = s.sec := rfl
@[simp] theorem State.emit_cro (k : String) (a : List Nat) (d : List Byte) : (s.emit k a d).cro = s.cro := rfl
@[simp] theorem State.emit_clks (k : String) (a : List Nat) (d : List Byte) : (s.emit k a d).clks = s.clks := rfl
@[simp] theorem State.emit_badSensor (k : String) (a : List Nat) (d : List Byte) : (s.emit k a d).badSensor = s.badSensor := rfl
@[simp] theorem State.emit_coarse (k : String) (a : List Nat) (d : List Byte) : (s.emit k a d).coarse = s.coarse := rfl
@[simp] theorem State.emit_peers (k : String) (a : List Nat) (d : List Byte) : (s.emit k a d).peers = s.peers := rfl
@[simp] theorem State.emit_now (k : String) (a : List Nat) (d : List Byte) : (s.emit k a d).now = s.now := rfl
@[simp] theorem State.emit_freeCtr (k : String) (a : List Nat) (d : List Byte) : (s.emit k a d).freeCtr = s.freeCtr := rfl
@[simp] theorem State.emit_pending (k : String) (a : List Nat) (d : List Byte) : (s.emit k a d).pending = s.pending := rfl

/-! ## modCro -/

@[simp] theorem State.modCro_regs (f : Crocus → Crocus) : (s.modCro f).regs = s.regs := rfl
@[simp] theorem State.modCro_mem (f : Crocus → Crocus) : (s.modCro f).mem = s.mem := rfl
@[simp] theorem State.modCro_badBursts (f : Crocus → Crocus) : (s.modCro f).badBursts = s.badBursts := rfl
@[simp] theorem State.modCro_bks (f : Crocus → Crocus) : (s.modCro f).bks = s.bks := rfl
@[simp] theorem State.modCro_ueWait (f : Crocus → Crocus) : (s.modCro f).ueWait = s.ueWait := rfl
@[simp] theorem State.modCro_badWords (f : Crocus → Crocus) : (s.modCro f).badWords = s.badWords := rfl
@[simp] theorem State.modCro_cores (f : Crocus → Crocus) : (s.modCro f).cores = s.cores := rfl
@[simp] theorem State.modCro_net (f : Crocus → Crocus) : (s.modCro f).net = s.net := rfl
@[simp] theorem State.modCro_dma (f : Crocus → Crocus) : (s.modCro f).dma = s.dma := rfl
@[simp] theorem State.modCro_dmaLast (f : Crocus → Crocus) : (s.modCro f).dmaLast = s.dmaLast := rfl
@[simp] theorem State.modCro_nextId (f : Crocus → Crocus) : (s.modCro f).nextId = s.nextId := rfl
@[simp] theorem State.modCro_logWait (f : Crocus → Crocus) : (s.modCro f).logWait = s.logWait := rfl
@[simp] theorem State.modCro_tasks (f : Crocus → Crocus) : (s.modCro f).tasks = s.tasks := rfl
@[simp] theorem State.modCro_seq (f : Crocus → Crocus) : (s.modCro f).seq = s.seq := rfl
@[simp] theorem State.modCro_hubTime (f : Crocus → Crocus) : (s.modCro f).hubTime = s.hubTime := rfl
@[simp] theorem State.modCro_faultSeq (f : Crocus → Crocus) : (s.modCro f).faultSeq = s.faultSeq := rfl
@[simp] theorem State.modCro_trnUpd (f : Crocus → Crocus) : (s.modCro f).trnUpd = s.trnUpd := rfl
@[simp] theorem State.modCro_hosts (f : Crocus → Crocus) : (s.modCro f).hosts = s.hosts := rfl
@[simp] theorem State.modCro_cuts (f : Crocus → Crocus) : (s.modCro f).cuts = s.cuts := rfl
@[simp] theorem State.modCro_recHold (f : Crocus → Crocus) : (s.modCro f).recHold = s.recHold := rfl
@[simp] theorem State.modCro_sealKeys (f : Crocus → Crocus) : (s.modCro f).sealKeys = s.sealKeys := rfl
@[simp] theorem State.modCro_fell (f : Crocus → Crocus) : (s.modCro f).fell = s.fell := rfl
@[simp] theorem State.modCro_caps (f : Crocus → Crocus) : (s.modCro f).caps = s.caps := rfl
@[simp] theorem State.modCro_labels (f : Crocus → Crocus) : (s.modCro f).labels = s.labels := rfl
@[simp] theorem State.modCro_paused (f : Crocus → Crocus) : (s.modCro f).paused = s.paused := rfl
@[simp] theorem State.modCro_shadow (f : Crocus → Crocus) : (s.modCro f).shadow = s.shadow := rfl
@[simp] theorem State.modCro_faultWait (f : Crocus → Crocus) : (s.modCro f).faultWait = s.faultWait := rfl
@[simp] theorem State.modCro_fullTold (f : Crocus → Crocus) : (s.modCro f).fullTold = s.fullTold := rfl
@[simp] theorem State.modCro_evSeq (f : Crocus → Crocus) : (s.modCro f).evSeq = s.evSeq := rfl
@[simp] theorem State.modCro_fencedTen (f : Crocus → Crocus) : (s.modCro f).fencedTen = s.fencedTen := rfl
@[simp] theorem State.modCro_floors (f : Crocus → Crocus) : (s.modCro f).floors = s.floors := rfl
@[simp] theorem State.modCro_domCyc (f : Crocus → Crocus) : (s.modCro f).domCyc = s.domCyc := rfl
@[simp] theorem State.modCro_lines (f : Crocus → Crocus) : (s.modCro f).lines = s.lines := rfl
@[simp] theorem State.modCro_cmo (f : Crocus → Crocus) : (s.modCro f).cmo = s.cmo := rfl
@[simp] theorem State.modCro_ident (f : Crocus → Crocus) : (s.modCro f).ident = s.ident := rfl
@[simp] theorem State.modCro_hub (f : Crocus → Crocus) : (s.modCro f).hub = s.hub := rfl
@[simp] theorem State.modCro_opens (f : Crocus → Crocus) : (s.modCro f).opens = s.opens := rfl
@[simp] theorem State.modCro_sec (f : Crocus → Crocus) : (s.modCro f).sec = s.sec := rfl
@[simp] theorem State.modCro_clks (f : Crocus → Crocus) : (s.modCro f).clks = s.clks := rfl
@[simp] theorem State.modCro_badSensor (f : Crocus → Crocus) : (s.modCro f).badSensor = s.badSensor := rfl
@[simp] theorem State.modCro_coarse (f : Crocus → Crocus) : (s.modCro f).coarse = s.coarse := rfl
@[simp] theorem State.modCro_peers (f : Crocus → Crocus) : (s.modCro f).peers = s.peers := rfl
@[simp] theorem State.modCro_now (f : Crocus → Crocus) : (s.modCro f).now = s.now := rfl
@[simp] theorem State.modCro_freeCtr (f : Crocus → Crocus) : (s.modCro f).freeCtr = s.freeCtr := rfl
@[simp] theorem State.modCro_out (f : Crocus → Crocus) : (s.modCro f).out = s.out := rfl
@[simp] theorem State.modCro_pending (f : Crocus → Crocus) : (s.modCro f).pending = s.pending := rfl

/-! ## modHub -/

@[simp] theorem State.modHub_regs (f : HubNet → HubNet) : (s.modHub f).regs = s.regs := rfl
@[simp] theorem State.modHub_mem (f : HubNet → HubNet) : (s.modHub f).mem = s.mem := rfl
@[simp] theorem State.modHub_badBursts (f : HubNet → HubNet) : (s.modHub f).badBursts = s.badBursts := rfl
@[simp] theorem State.modHub_bks (f : HubNet → HubNet) : (s.modHub f).bks = s.bks := rfl
@[simp] theorem State.modHub_ueWait (f : HubNet → HubNet) : (s.modHub f).ueWait = s.ueWait := rfl
@[simp] theorem State.modHub_badWords (f : HubNet → HubNet) : (s.modHub f).badWords = s.badWords := rfl
@[simp] theorem State.modHub_cores (f : HubNet → HubNet) : (s.modHub f).cores = s.cores := rfl
@[simp] theorem State.modHub_net (f : HubNet → HubNet) : (s.modHub f).net = s.net := rfl
@[simp] theorem State.modHub_dma (f : HubNet → HubNet) : (s.modHub f).dma = s.dma := rfl
@[simp] theorem State.modHub_dmaLast (f : HubNet → HubNet) : (s.modHub f).dmaLast = s.dmaLast := rfl
@[simp] theorem State.modHub_nextId (f : HubNet → HubNet) : (s.modHub f).nextId = s.nextId := rfl
@[simp] theorem State.modHub_logWait (f : HubNet → HubNet) : (s.modHub f).logWait = s.logWait := rfl
@[simp] theorem State.modHub_tasks (f : HubNet → HubNet) : (s.modHub f).tasks = s.tasks := rfl
@[simp] theorem State.modHub_seq (f : HubNet → HubNet) : (s.modHub f).seq = s.seq := rfl
@[simp] theorem State.modHub_hubTime (f : HubNet → HubNet) : (s.modHub f).hubTime = s.hubTime := rfl
@[simp] theorem State.modHub_faultSeq (f : HubNet → HubNet) : (s.modHub f).faultSeq = s.faultSeq := rfl
@[simp] theorem State.modHub_trnUpd (f : HubNet → HubNet) : (s.modHub f).trnUpd = s.trnUpd := rfl
@[simp] theorem State.modHub_hosts (f : HubNet → HubNet) : (s.modHub f).hosts = s.hosts := rfl
@[simp] theorem State.modHub_cuts (f : HubNet → HubNet) : (s.modHub f).cuts = s.cuts := rfl
@[simp] theorem State.modHub_recHold (f : HubNet → HubNet) : (s.modHub f).recHold = s.recHold := rfl
@[simp] theorem State.modHub_sealKeys (f : HubNet → HubNet) : (s.modHub f).sealKeys = s.sealKeys := rfl
@[simp] theorem State.modHub_fell (f : HubNet → HubNet) : (s.modHub f).fell = s.fell := rfl
@[simp] theorem State.modHub_caps (f : HubNet → HubNet) : (s.modHub f).caps = s.caps := rfl
@[simp] theorem State.modHub_labels (f : HubNet → HubNet) : (s.modHub f).labels = s.labels := rfl
@[simp] theorem State.modHub_paused (f : HubNet → HubNet) : (s.modHub f).paused = s.paused := rfl
@[simp] theorem State.modHub_shadow (f : HubNet → HubNet) : (s.modHub f).shadow = s.shadow := rfl
@[simp] theorem State.modHub_faultWait (f : HubNet → HubNet) : (s.modHub f).faultWait = s.faultWait := rfl
@[simp] theorem State.modHub_fullTold (f : HubNet → HubNet) : (s.modHub f).fullTold = s.fullTold := rfl
@[simp] theorem State.modHub_evSeq (f : HubNet → HubNet) : (s.modHub f).evSeq = s.evSeq := rfl
@[simp] theorem State.modHub_fencedTen (f : HubNet → HubNet) : (s.modHub f).fencedTen = s.fencedTen := rfl
@[simp] theorem State.modHub_floors (f : HubNet → HubNet) : (s.modHub f).floors = s.floors := rfl
@[simp] theorem State.modHub_domCyc (f : HubNet → HubNet) : (s.modHub f).domCyc = s.domCyc := rfl
@[simp] theorem State.modHub_lines (f : HubNet → HubNet) : (s.modHub f).lines = s.lines := rfl
@[simp] theorem State.modHub_cmo (f : HubNet → HubNet) : (s.modHub f).cmo = s.cmo := rfl
@[simp] theorem State.modHub_ident (f : HubNet → HubNet) : (s.modHub f).ident = s.ident := rfl
@[simp] theorem State.modHub_opens (f : HubNet → HubNet) : (s.modHub f).opens = s.opens := rfl
@[simp] theorem State.modHub_sec (f : HubNet → HubNet) : (s.modHub f).sec = s.sec := rfl
@[simp] theorem State.modHub_cro (f : HubNet → HubNet) : (s.modHub f).cro = s.cro := rfl
@[simp] theorem State.modHub_clks (f : HubNet → HubNet) : (s.modHub f).clks = s.clks := rfl
@[simp] theorem State.modHub_badSensor (f : HubNet → HubNet) : (s.modHub f).badSensor = s.badSensor := rfl
@[simp] theorem State.modHub_coarse (f : HubNet → HubNet) : (s.modHub f).coarse = s.coarse := rfl
@[simp] theorem State.modHub_peers (f : HubNet → HubNet) : (s.modHub f).peers = s.peers := rfl
@[simp] theorem State.modHub_now (f : HubNet → HubNet) : (s.modHub f).now = s.now := rfl
@[simp] theorem State.modHub_freeCtr (f : HubNet → HubNet) : (s.modHub f).freeCtr = s.freeCtr := rfl
@[simp] theorem State.modHub_out (f : HubNet → HubNet) : (s.modHub f).out = s.out := rfl
@[simp] theorem State.modHub_pending (f : HubNet → HubNet) : (s.modHub f).pending = s.pending := rfl

/-! ## modSec -/

@[simp] theorem State.modSec_regs (f : Security → Security) : (s.modSec f).regs = s.regs := rfl
@[simp] theorem State.modSec_mem (f : Security → Security) : (s.modSec f).mem = s.mem := rfl
@[simp] theorem State.modSec_badBursts (f : Security → Security) : (s.modSec f).badBursts = s.badBursts := rfl
@[simp] theorem State.modSec_bks (f : Security → Security) : (s.modSec f).bks = s.bks := rfl
@[simp] theorem State.modSec_ueWait (f : Security → Security) : (s.modSec f).ueWait = s.ueWait := rfl
@[simp] theorem State.modSec_badWords (f : Security → Security) : (s.modSec f).badWords = s.badWords := rfl
@[simp] theorem State.modSec_cores (f : Security → Security) : (s.modSec f).cores = s.cores := rfl
@[simp] theorem State.modSec_net (f : Security → Security) : (s.modSec f).net = s.net := rfl
@[simp] theorem State.modSec_dma (f : Security → Security) : (s.modSec f).dma = s.dma := rfl
@[simp] theorem State.modSec_dmaLast (f : Security → Security) : (s.modSec f).dmaLast = s.dmaLast := rfl
@[simp] theorem State.modSec_nextId (f : Security → Security) : (s.modSec f).nextId = s.nextId := rfl
@[simp] theorem State.modSec_logWait (f : Security → Security) : (s.modSec f).logWait = s.logWait := rfl
@[simp] theorem State.modSec_tasks (f : Security → Security) : (s.modSec f).tasks = s.tasks := rfl
@[simp] theorem State.modSec_seq (f : Security → Security) : (s.modSec f).seq = s.seq := rfl
@[simp] theorem State.modSec_hubTime (f : Security → Security) : (s.modSec f).hubTime = s.hubTime := rfl
@[simp] theorem State.modSec_faultSeq (f : Security → Security) : (s.modSec f).faultSeq = s.faultSeq := rfl
@[simp] theorem State.modSec_trnUpd (f : Security → Security) : (s.modSec f).trnUpd = s.trnUpd := rfl
@[simp] theorem State.modSec_hosts (f : Security → Security) : (s.modSec f).hosts = s.hosts := rfl
@[simp] theorem State.modSec_cuts (f : Security → Security) : (s.modSec f).cuts = s.cuts := rfl
@[simp] theorem State.modSec_recHold (f : Security → Security) : (s.modSec f).recHold = s.recHold := rfl
@[simp] theorem State.modSec_sealKeys (f : Security → Security) : (s.modSec f).sealKeys = s.sealKeys := rfl
@[simp] theorem State.modSec_fell (f : Security → Security) : (s.modSec f).fell = s.fell := rfl
@[simp] theorem State.modSec_caps (f : Security → Security) : (s.modSec f).caps = s.caps := rfl
@[simp] theorem State.modSec_labels (f : Security → Security) : (s.modSec f).labels = s.labels := rfl
@[simp] theorem State.modSec_paused (f : Security → Security) : (s.modSec f).paused = s.paused := rfl
@[simp] theorem State.modSec_shadow (f : Security → Security) : (s.modSec f).shadow = s.shadow := rfl
@[simp] theorem State.modSec_faultWait (f : Security → Security) : (s.modSec f).faultWait = s.faultWait := rfl
@[simp] theorem State.modSec_fullTold (f : Security → Security) : (s.modSec f).fullTold = s.fullTold := rfl
@[simp] theorem State.modSec_evSeq (f : Security → Security) : (s.modSec f).evSeq = s.evSeq := rfl
@[simp] theorem State.modSec_fencedTen (f : Security → Security) : (s.modSec f).fencedTen = s.fencedTen := rfl
@[simp] theorem State.modSec_floors (f : Security → Security) : (s.modSec f).floors = s.floors := rfl
@[simp] theorem State.modSec_domCyc (f : Security → Security) : (s.modSec f).domCyc = s.domCyc := rfl
@[simp] theorem State.modSec_lines (f : Security → Security) : (s.modSec f).lines = s.lines := rfl
@[simp] theorem State.modSec_cmo (f : Security → Security) : (s.modSec f).cmo = s.cmo := rfl
@[simp] theorem State.modSec_ident (f : Security → Security) : (s.modSec f).ident = s.ident := rfl
@[simp] theorem State.modSec_hub (f : Security → Security) : (s.modSec f).hub = s.hub := rfl
@[simp] theorem State.modSec_opens (f : Security → Security) : (s.modSec f).opens = s.opens := rfl
@[simp] theorem State.modSec_cro (f : Security → Security) : (s.modSec f).cro = s.cro := rfl
@[simp] theorem State.modSec_clks (f : Security → Security) : (s.modSec f).clks = s.clks := rfl
@[simp] theorem State.modSec_badSensor (f : Security → Security) : (s.modSec f).badSensor = s.badSensor := rfl
@[simp] theorem State.modSec_coarse (f : Security → Security) : (s.modSec f).coarse = s.coarse := rfl
@[simp] theorem State.modSec_peers (f : Security → Security) : (s.modSec f).peers = s.peers := rfl
@[simp] theorem State.modSec_now (f : Security → Security) : (s.modSec f).now = s.now := rfl
@[simp] theorem State.modSec_freeCtr (f : Security → Security) : (s.modSec f).freeCtr = s.freeCtr := rfl
@[simp] theorem State.modSec_out (f : Security → Security) : (s.modSec f).out = s.out := rfl
@[simp] theorem State.modSec_pending (f : Security → Security) : (s.modSec f).pending = s.pending := rfl

/-! ## modPeers -/

@[simp] theorem State.modPeers_regs (f : Peers → Peers) : (s.modPeers f).regs = s.regs := rfl
@[simp] theorem State.modPeers_mem (f : Peers → Peers) : (s.modPeers f).mem = s.mem := rfl
@[simp] theorem State.modPeers_badBursts (f : Peers → Peers) : (s.modPeers f).badBursts = s.badBursts := rfl
@[simp] theorem State.modPeers_bks (f : Peers → Peers) : (s.modPeers f).bks = s.bks := rfl
@[simp] theorem State.modPeers_ueWait (f : Peers → Peers) : (s.modPeers f).ueWait = s.ueWait := rfl
@[simp] theorem State.modPeers_badWords (f : Peers → Peers) : (s.modPeers f).badWords = s.badWords := rfl
@[simp] theorem State.modPeers_cores (f : Peers → Peers) : (s.modPeers f).cores = s.cores := rfl
@[simp] theorem State.modPeers_net (f : Peers → Peers) : (s.modPeers f).net = s.net := rfl
@[simp] theorem State.modPeers_dma (f : Peers → Peers) : (s.modPeers f).dma = s.dma := rfl
@[simp] theorem State.modPeers_dmaLast (f : Peers → Peers) : (s.modPeers f).dmaLast = s.dmaLast := rfl
@[simp] theorem State.modPeers_nextId (f : Peers → Peers) : (s.modPeers f).nextId = s.nextId := rfl
@[simp] theorem State.modPeers_logWait (f : Peers → Peers) : (s.modPeers f).logWait = s.logWait := rfl
@[simp] theorem State.modPeers_tasks (f : Peers → Peers) : (s.modPeers f).tasks = s.tasks := rfl
@[simp] theorem State.modPeers_seq (f : Peers → Peers) : (s.modPeers f).seq = s.seq := rfl
@[simp] theorem State.modPeers_hubTime (f : Peers → Peers) : (s.modPeers f).hubTime = s.hubTime := rfl
@[simp] theorem State.modPeers_faultSeq (f : Peers → Peers) : (s.modPeers f).faultSeq = s.faultSeq := rfl
@[simp] theorem State.modPeers_trnUpd (f : Peers → Peers) : (s.modPeers f).trnUpd = s.trnUpd := rfl
@[simp] theorem State.modPeers_hosts (f : Peers → Peers) : (s.modPeers f).hosts = s.hosts := rfl
@[simp] theorem State.modPeers_cuts (f : Peers → Peers) : (s.modPeers f).cuts = s.cuts := rfl
@[simp] theorem State.modPeers_recHold (f : Peers → Peers) : (s.modPeers f).recHold = s.recHold := rfl
@[simp] theorem State.modPeers_sealKeys (f : Peers → Peers) : (s.modPeers f).sealKeys = s.sealKeys := rfl
@[simp] theorem State.modPeers_fell (f : Peers → Peers) : (s.modPeers f).fell = s.fell := rfl
@[simp] theorem State.modPeers_caps (f : Peers → Peers) : (s.modPeers f).caps = s.caps := rfl
@[simp] theorem State.modPeers_labels (f : Peers → Peers) : (s.modPeers f).labels = s.labels := rfl
@[simp] theorem State.modPeers_paused (f : Peers → Peers) : (s.modPeers f).paused = s.paused := rfl
@[simp] theorem State.modPeers_shadow (f : Peers → Peers) : (s.modPeers f).shadow = s.shadow := rfl
@[simp] theorem State.modPeers_faultWait (f : Peers → Peers) : (s.modPeers f).faultWait = s.faultWait := rfl
@[simp] theorem State.modPeers_fullTold (f : Peers → Peers) : (s.modPeers f).fullTold = s.fullTold := rfl
@[simp] theorem State.modPeers_evSeq (f : Peers → Peers) : (s.modPeers f).evSeq = s.evSeq := rfl
@[simp] theorem State.modPeers_fencedTen (f : Peers → Peers) : (s.modPeers f).fencedTen = s.fencedTen := rfl
@[simp] theorem State.modPeers_floors (f : Peers → Peers) : (s.modPeers f).floors = s.floors := rfl
@[simp] theorem State.modPeers_domCyc (f : Peers → Peers) : (s.modPeers f).domCyc = s.domCyc := rfl
@[simp] theorem State.modPeers_lines (f : Peers → Peers) : (s.modPeers f).lines = s.lines := rfl
@[simp] theorem State.modPeers_cmo (f : Peers → Peers) : (s.modPeers f).cmo = s.cmo := rfl
@[simp] theorem State.modPeers_ident (f : Peers → Peers) : (s.modPeers f).ident = s.ident := rfl
@[simp] theorem State.modPeers_hub (f : Peers → Peers) : (s.modPeers f).hub = s.hub := rfl
@[simp] theorem State.modPeers_opens (f : Peers → Peers) : (s.modPeers f).opens = s.opens := rfl
@[simp] theorem State.modPeers_sec (f : Peers → Peers) : (s.modPeers f).sec = s.sec := rfl
@[simp] theorem State.modPeers_cro (f : Peers → Peers) : (s.modPeers f).cro = s.cro := rfl
@[simp] theorem State.modPeers_clks (f : Peers → Peers) : (s.modPeers f).clks = s.clks := rfl
@[simp] theorem State.modPeers_badSensor (f : Peers → Peers) : (s.modPeers f).badSensor = s.badSensor := rfl
@[simp] theorem State.modPeers_coarse (f : Peers → Peers) : (s.modPeers f).coarse = s.coarse := rfl
@[simp] theorem State.modPeers_now (f : Peers → Peers) : (s.modPeers f).now = s.now := rfl
@[simp] theorem State.modPeers_freeCtr (f : Peers → Peers) : (s.modPeers f).freeCtr = s.freeCtr := rfl
@[simp] theorem State.modPeers_out (f : Peers → Peers) : (s.modPeers f).out = s.out := rfl
@[simp] theorem State.modPeers_pending (f : Peers → Peers) : (s.modPeers f).pending = s.pending := rfl

/-! ## modOpen -/

@[simp] theorem State.modOpen_regs (k : Nat) (f : OpenSite → OpenSite) : (s.modOpen k f).regs = s.regs := rfl
@[simp] theorem State.modOpen_mem (k : Nat) (f : OpenSite → OpenSite) : (s.modOpen k f).mem = s.mem := rfl
@[simp] theorem State.modOpen_badBursts (k : Nat) (f : OpenSite → OpenSite) : (s.modOpen k f).badBursts = s.badBursts := rfl
@[simp] theorem State.modOpen_bks (k : Nat) (f : OpenSite → OpenSite) : (s.modOpen k f).bks = s.bks := rfl
@[simp] theorem State.modOpen_ueWait (k : Nat) (f : OpenSite → OpenSite) : (s.modOpen k f).ueWait = s.ueWait := rfl
@[simp] theorem State.modOpen_badWords (k : Nat) (f : OpenSite → OpenSite) : (s.modOpen k f).badWords = s.badWords := rfl
@[simp] theorem State.modOpen_cores (k : Nat) (f : OpenSite → OpenSite) : (s.modOpen k f).cores = s.cores := rfl
@[simp] theorem State.modOpen_net (k : Nat) (f : OpenSite → OpenSite) : (s.modOpen k f).net = s.net := rfl
@[simp] theorem State.modOpen_dma (k : Nat) (f : OpenSite → OpenSite) : (s.modOpen k f).dma = s.dma := rfl
@[simp] theorem State.modOpen_dmaLast (k : Nat) (f : OpenSite → OpenSite) : (s.modOpen k f).dmaLast = s.dmaLast := rfl
@[simp] theorem State.modOpen_nextId (k : Nat) (f : OpenSite → OpenSite) : (s.modOpen k f).nextId = s.nextId := rfl
@[simp] theorem State.modOpen_logWait (k : Nat) (f : OpenSite → OpenSite) : (s.modOpen k f).logWait = s.logWait := rfl
@[simp] theorem State.modOpen_tasks (k : Nat) (f : OpenSite → OpenSite) : (s.modOpen k f).tasks = s.tasks := rfl
@[simp] theorem State.modOpen_seq (k : Nat) (f : OpenSite → OpenSite) : (s.modOpen k f).seq = s.seq := rfl
@[simp] theorem State.modOpen_hubTime (k : Nat) (f : OpenSite → OpenSite) : (s.modOpen k f).hubTime = s.hubTime := rfl
@[simp] theorem State.modOpen_faultSeq (k : Nat) (f : OpenSite → OpenSite) : (s.modOpen k f).faultSeq = s.faultSeq := rfl
@[simp] theorem State.modOpen_trnUpd (k : Nat) (f : OpenSite → OpenSite) : (s.modOpen k f).trnUpd = s.trnUpd := rfl
@[simp] theorem State.modOpen_hosts (k : Nat) (f : OpenSite → OpenSite) : (s.modOpen k f).hosts = s.hosts := rfl
@[simp] theorem State.modOpen_cuts (k : Nat) (f : OpenSite → OpenSite) : (s.modOpen k f).cuts = s.cuts := rfl
@[simp] theorem State.modOpen_recHold (k : Nat) (f : OpenSite → OpenSite) : (s.modOpen k f).recHold = s.recHold := rfl
@[simp] theorem State.modOpen_sealKeys (k : Nat) (f : OpenSite → OpenSite) : (s.modOpen k f).sealKeys = s.sealKeys := rfl
@[simp] theorem State.modOpen_fell (k : Nat) (f : OpenSite → OpenSite) : (s.modOpen k f).fell = s.fell := rfl
@[simp] theorem State.modOpen_caps (k : Nat) (f : OpenSite → OpenSite) : (s.modOpen k f).caps = s.caps := rfl
@[simp] theorem State.modOpen_labels (k : Nat) (f : OpenSite → OpenSite) : (s.modOpen k f).labels = s.labels := rfl
@[simp] theorem State.modOpen_paused (k : Nat) (f : OpenSite → OpenSite) : (s.modOpen k f).paused = s.paused := rfl
@[simp] theorem State.modOpen_shadow (k : Nat) (f : OpenSite → OpenSite) : (s.modOpen k f).shadow = s.shadow := rfl
@[simp] theorem State.modOpen_faultWait (k : Nat) (f : OpenSite → OpenSite) : (s.modOpen k f).faultWait = s.faultWait := rfl
@[simp] theorem State.modOpen_fullTold (k : Nat) (f : OpenSite → OpenSite) : (s.modOpen k f).fullTold = s.fullTold := rfl
@[simp] theorem State.modOpen_evSeq (k : Nat) (f : OpenSite → OpenSite) : (s.modOpen k f).evSeq = s.evSeq := rfl
@[simp] theorem State.modOpen_fencedTen (k : Nat) (f : OpenSite → OpenSite) : (s.modOpen k f).fencedTen = s.fencedTen := rfl
@[simp] theorem State.modOpen_floors (k : Nat) (f : OpenSite → OpenSite) : (s.modOpen k f).floors = s.floors := rfl
@[simp] theorem State.modOpen_domCyc (k : Nat) (f : OpenSite → OpenSite) : (s.modOpen k f).domCyc = s.domCyc := rfl
@[simp] theorem State.modOpen_lines (k : Nat) (f : OpenSite → OpenSite) : (s.modOpen k f).lines = s.lines := rfl
@[simp] theorem State.modOpen_cmo (k : Nat) (f : OpenSite → OpenSite) : (s.modOpen k f).cmo = s.cmo := rfl
@[simp] theorem State.modOpen_ident (k : Nat) (f : OpenSite → OpenSite) : (s.modOpen k f).ident = s.ident := rfl
@[simp] theorem State.modOpen_hub (k : Nat) (f : OpenSite → OpenSite) : (s.modOpen k f).hub = s.hub := rfl
@[simp] theorem State.modOpen_sec (k : Nat) (f : OpenSite → OpenSite) : (s.modOpen k f).sec = s.sec := rfl
@[simp] theorem State.modOpen_cro (k : Nat) (f : OpenSite → OpenSite) : (s.modOpen k f).cro = s.cro := rfl
@[simp] theorem State.modOpen_clks (k : Nat) (f : OpenSite → OpenSite) : (s.modOpen k f).clks = s.clks := rfl
@[simp] theorem State.modOpen_badSensor (k : Nat) (f : OpenSite → OpenSite) : (s.modOpen k f).badSensor = s.badSensor := rfl
@[simp] theorem State.modOpen_coarse (k : Nat) (f : OpenSite → OpenSite) : (s.modOpen k f).coarse = s.coarse := rfl
@[simp] theorem State.modOpen_peers (k : Nat) (f : OpenSite → OpenSite) : (s.modOpen k f).peers = s.peers := rfl
@[simp] theorem State.modOpen_now (k : Nat) (f : OpenSite → OpenSite) : (s.modOpen k f).now = s.now := rfl
@[simp] theorem State.modOpen_freeCtr (k : Nat) (f : OpenSite → OpenSite) : (s.modOpen k f).freeCtr = s.freeCtr := rfl
@[simp] theorem State.modOpen_out (k : Nat) (f : OpenSite → OpenSite) : (s.modOpen k f).out = s.out := rfl
@[simp] theorem State.modOpen_pending (k : Nat) (f : OpenSite → OpenSite) : (s.modOpen k f).pending = s.pending := rfl

/-! ## modClk -/

@[simp] theorem State.modClk_regs (m : Nat) (f : ClkDomain → ClkDomain) : (s.modClk m f).regs = s.regs := rfl
@[simp] theorem State.modClk_mem (m : Nat) (f : ClkDomain → ClkDomain) : (s.modClk m f).mem = s.mem := rfl
@[simp] theorem State.modClk_badBursts (m : Nat) (f : ClkDomain → ClkDomain) : (s.modClk m f).badBursts = s.badBursts := rfl
@[simp] theorem State.modClk_bks (m : Nat) (f : ClkDomain → ClkDomain) : (s.modClk m f).bks = s.bks := rfl
@[simp] theorem State.modClk_ueWait (m : Nat) (f : ClkDomain → ClkDomain) : (s.modClk m f).ueWait = s.ueWait := rfl
@[simp] theorem State.modClk_badWords (m : Nat) (f : ClkDomain → ClkDomain) : (s.modClk m f).badWords = s.badWords := rfl
@[simp] theorem State.modClk_cores (m : Nat) (f : ClkDomain → ClkDomain) : (s.modClk m f).cores = s.cores := rfl
@[simp] theorem State.modClk_net (m : Nat) (f : ClkDomain → ClkDomain) : (s.modClk m f).net = s.net := rfl
@[simp] theorem State.modClk_dma (m : Nat) (f : ClkDomain → ClkDomain) : (s.modClk m f).dma = s.dma := rfl
@[simp] theorem State.modClk_dmaLast (m : Nat) (f : ClkDomain → ClkDomain) : (s.modClk m f).dmaLast = s.dmaLast := rfl
@[simp] theorem State.modClk_nextId (m : Nat) (f : ClkDomain → ClkDomain) : (s.modClk m f).nextId = s.nextId := rfl
@[simp] theorem State.modClk_logWait (m : Nat) (f : ClkDomain → ClkDomain) : (s.modClk m f).logWait = s.logWait := rfl
@[simp] theorem State.modClk_tasks (m : Nat) (f : ClkDomain → ClkDomain) : (s.modClk m f).tasks = s.tasks := rfl
@[simp] theorem State.modClk_seq (m : Nat) (f : ClkDomain → ClkDomain) : (s.modClk m f).seq = s.seq := rfl
@[simp] theorem State.modClk_hubTime (m : Nat) (f : ClkDomain → ClkDomain) : (s.modClk m f).hubTime = s.hubTime := rfl
@[simp] theorem State.modClk_faultSeq (m : Nat) (f : ClkDomain → ClkDomain) : (s.modClk m f).faultSeq = s.faultSeq := rfl
@[simp] theorem State.modClk_trnUpd (m : Nat) (f : ClkDomain → ClkDomain) : (s.modClk m f).trnUpd = s.trnUpd := rfl
@[simp] theorem State.modClk_hosts (m : Nat) (f : ClkDomain → ClkDomain) : (s.modClk m f).hosts = s.hosts := rfl
@[simp] theorem State.modClk_cuts (m : Nat) (f : ClkDomain → ClkDomain) : (s.modClk m f).cuts = s.cuts := rfl
@[simp] theorem State.modClk_recHold (m : Nat) (f : ClkDomain → ClkDomain) : (s.modClk m f).recHold = s.recHold := rfl
@[simp] theorem State.modClk_sealKeys (m : Nat) (f : ClkDomain → ClkDomain) : (s.modClk m f).sealKeys = s.sealKeys := rfl
@[simp] theorem State.modClk_fell (m : Nat) (f : ClkDomain → ClkDomain) : (s.modClk m f).fell = s.fell := rfl
@[simp] theorem State.modClk_caps (m : Nat) (f : ClkDomain → ClkDomain) : (s.modClk m f).caps = s.caps := rfl
@[simp] theorem State.modClk_labels (m : Nat) (f : ClkDomain → ClkDomain) : (s.modClk m f).labels = s.labels := rfl
@[simp] theorem State.modClk_paused (m : Nat) (f : ClkDomain → ClkDomain) : (s.modClk m f).paused = s.paused := rfl
@[simp] theorem State.modClk_shadow (m : Nat) (f : ClkDomain → ClkDomain) : (s.modClk m f).shadow = s.shadow := rfl
@[simp] theorem State.modClk_faultWait (m : Nat) (f : ClkDomain → ClkDomain) : (s.modClk m f).faultWait = s.faultWait := rfl
@[simp] theorem State.modClk_fullTold (m : Nat) (f : ClkDomain → ClkDomain) : (s.modClk m f).fullTold = s.fullTold := rfl
@[simp] theorem State.modClk_evSeq (m : Nat) (f : ClkDomain → ClkDomain) : (s.modClk m f).evSeq = s.evSeq := rfl
@[simp] theorem State.modClk_fencedTen (m : Nat) (f : ClkDomain → ClkDomain) : (s.modClk m f).fencedTen = s.fencedTen := rfl
@[simp] theorem State.modClk_floors (m : Nat) (f : ClkDomain → ClkDomain) : (s.modClk m f).floors = s.floors := rfl
@[simp] theorem State.modClk_domCyc (m : Nat) (f : ClkDomain → ClkDomain) : (s.modClk m f).domCyc = s.domCyc := rfl
@[simp] theorem State.modClk_lines (m : Nat) (f : ClkDomain → ClkDomain) : (s.modClk m f).lines = s.lines := rfl
@[simp] theorem State.modClk_cmo (m : Nat) (f : ClkDomain → ClkDomain) : (s.modClk m f).cmo = s.cmo := rfl
@[simp] theorem State.modClk_ident (m : Nat) (f : ClkDomain → ClkDomain) : (s.modClk m f).ident = s.ident := rfl
@[simp] theorem State.modClk_hub (m : Nat) (f : ClkDomain → ClkDomain) : (s.modClk m f).hub = s.hub := rfl
@[simp] theorem State.modClk_opens (m : Nat) (f : ClkDomain → ClkDomain) : (s.modClk m f).opens = s.opens := rfl
@[simp] theorem State.modClk_sec (m : Nat) (f : ClkDomain → ClkDomain) : (s.modClk m f).sec = s.sec := rfl
@[simp] theorem State.modClk_cro (m : Nat) (f : ClkDomain → ClkDomain) : (s.modClk m f).cro = s.cro := rfl
@[simp] theorem State.modClk_badSensor (m : Nat) (f : ClkDomain → ClkDomain) : (s.modClk m f).badSensor = s.badSensor := rfl
@[simp] theorem State.modClk_coarse (m : Nat) (f : ClkDomain → ClkDomain) : (s.modClk m f).coarse = s.coarse := rfl
@[simp] theorem State.modClk_peers (m : Nat) (f : ClkDomain → ClkDomain) : (s.modClk m f).peers = s.peers := rfl
@[simp] theorem State.modClk_now (m : Nat) (f : ClkDomain → ClkDomain) : (s.modClk m f).now = s.now := rfl
@[simp] theorem State.modClk_freeCtr (m : Nat) (f : ClkDomain → ClkDomain) : (s.modClk m f).freeCtr = s.freeCtr := rfl
@[simp] theorem State.modClk_out (m : Nat) (f : ClkDomain → ClkDomain) : (s.modClk m f).out = s.out := rfl
@[simp] theorem State.modClk_pending (m : Nat) (f : ClkDomain → ClkDomain) : (s.modClk m f).pending = s.pending := rfl

/-! ## Readers -/

@[simp] theorem State.byte_wr (o : Nat) (w : Word) (x : Nat) : (s.wr o w).byte x = s.byte x := rfl
@[simp] theorem State.core_wr (o : Nat) (w : Word) (x : Nat) : (s.wr o w).core x = s.core x := rfl
@[simp] theorem State.cget_wr (o : Nat) (w : Word) (x : Nat) (g : Fld) : (s.wr o w).cget x g = s.cget x g := rfl
@[simp] theorem State.opn_wr (o : Nat) (w : Word) (x : Nat) : (s.wr o w).opn x = s.opn x := rfl
@[simp] theorem State.clk_wr (o : Nat) (w : Word) (x : Nat) : (s.wr o w).clk x = s.clk x := rfl
@[simp] theorem State.byte_set (f : Fld) (v : Nat) (x : Nat) : (s.set f v).byte x = s.byte x := rfl
@[simp] theorem State.core_set (f : Fld) (v : Nat) (x : Nat) : (s.set f v).core x = s.core x := rfl
@[simp] theorem State.cget_set (f : Fld) (v : Nat) (x : Nat) (g : Fld) : (s.set f v).cget x g = s.cget x g := rfl
@[simp] theorem State.opn_set (f : Fld) (v : Nat) (x : Nat) : (s.set f v).opn x = s.opn x := rfl
@[simp] theorem State.clk_set (f : Fld) (v : Nat) (x : Nat) : (s.set f v).clk x = s.clk x := rfl
@[simp] theorem State.byte_setB (f : Fld) (b : Bool) (x : Nat) : (s.setB f b).byte x = s.byte x := rfl
@[simp] theorem State.core_setB (f : Fld) (b : Bool) (x : Nat) : (s.setB f b).core x = s.core x := rfl
@[simp] theorem State.cget_setB (f : Fld) (b : Bool) (x : Nat) (g : Fld) : (s.setB f b).cget x g = s.cget x g := rfl
@[simp] theorem State.opn_setB (f : Fld) (b : Bool) (x : Nat) : (s.setB f b).opn x = s.opn x := rfl
@[simp] theorem State.clk_setB (f : Fld) (b : Bool) (x : Nat) : (s.setB f b).clk x = s.clk x := rfl
@[simp] theorem State.byte_addSat (f : Fld) (n : Nat) (x : Nat) : (s.addSat f n).byte x = s.byte x := rfl
@[simp] theorem State.core_addSat (f : Fld) (n : Nat) (x : Nat) : (s.addSat f n).core x = s.core x := rfl
@[simp] theorem State.cget_addSat (f : Fld) (n : Nat) (x : Nat) (g : Fld) : (s.addSat f n).cget x g = s.cget x g := rfl
@[simp] theorem State.opn_addSat (f : Fld) (n : Nat) (x : Nat) : (s.addSat f n).opn x = s.opn x := rfl
@[simp] theorem State.clk_addSat (f : Fld) (n : Nat) (x : Nat) : (s.addSat f n).clk x = s.clk x := rfl
@[simp] theorem State.rd_setByte (k : Nat) (b : Byte) (x : Nat) : (s.setByte k b).rd x = s.rd x := rfl
@[simp] theorem State.get_setByte (k : Nat) (b : Byte) (g : Fld) : (s.setByte k b).get g = s.get g := rfl
@[simp] theorem State.flag_setByte (k : Nat) (b : Byte) (g : Fld) : (s.setByte k b).flag g = s.flag g := rfl
@[simp] theorem State.core_setByte (k : Nat) (b : Byte) (x : Nat) : (s.setByte k b).core x = s.core x := rfl
@[simp] theorem State.cget_setByte (k : Nat) (b : Byte) (x : Nat) (g : Fld) : (s.setByte k b).cget x g = s.cget x g := rfl
@[simp] theorem State.opn_setByte (k : Nat) (b : Byte) (x : Nat) : (s.setByte k b).opn x = s.opn x := rfl
@[simp] theorem State.clk_setByte (k : Nat) (b : Byte) (x : Nat) : (s.setByte k b).clk x = s.clk x := rfl
@[simp] theorem State.rd_setBytes (k : Nat) (bs : List Byte) (x : Nat) : (s.setBytes k bs).rd x = s.rd x := rfl
@[simp] theorem State.get_setBytes (k : Nat) (bs : List Byte) (g : Fld) : (s.setBytes k bs).get g = s.get g := rfl
@[simp] theorem State.flag_setBytes (k : Nat) (bs : List Byte) (g : Fld) : (s.setBytes k bs).flag g = s.flag g := rfl
@[simp] theorem State.core_setBytes (k : Nat) (bs : List Byte) (x : Nat) : (s.setBytes k bs).core x = s.core x := rfl
@[simp] theorem State.cget_setBytes (k : Nat) (bs : List Byte) (x : Nat) (g : Fld) : (s.setBytes k bs).cget x g = s.cget x g := rfl
@[simp] theorem State.opn_setBytes (k : Nat) (bs : List Byte) (x : Nat) : (s.setBytes k bs).opn x = s.opn x := rfl
@[simp] theorem State.clk_setBytes (k : Nat) (bs : List Byte) (x : Nat) : (s.setBytes k bs).clk x = s.clk x := rfl
@[simp] theorem State.rd_setSpad (c o : Nat) (bs : List Byte) (x : Nat) : (s.setSpad c o bs).rd x = s.rd x := rfl
@[simp] theorem State.get_setSpad (c o : Nat) (bs : List Byte) (g : Fld) : (s.setSpad c o bs).get g = s.get g := rfl
@[simp] theorem State.flag_setSpad (c o : Nat) (bs : List Byte) (g : Fld) : (s.setSpad c o bs).flag g = s.flag g := rfl
@[simp] theorem State.core_setSpad (c o : Nat) (bs : List Byte) (x : Nat) : (s.setSpad c o bs).core x = s.core x := rfl
@[simp] theorem State.cget_setSpad (c o : Nat) (bs : List Byte) (x : Nat) (g : Fld) : (s.setSpad c o bs).cget x g = s.cget x g := rfl
@[simp] theorem State.opn_setSpad (c o : Nat) (bs : List Byte) (x : Nat) : (s.setSpad c o bs).opn x = s.opn x := rfl
@[simp] theorem State.clk_setSpad (c o : Nat) (bs : List Byte) (x : Nat) : (s.setSpad c o bs).clk x = s.clk x := rfl
@[simp] theorem State.rd_setCore (c : Nat) (k : Core) (x : Nat) : (s.setCore c k).rd x = s.rd x := rfl
@[simp] theorem State.get_setCore (c : Nat) (k : Core) (g : Fld) : (s.setCore c k).get g = s.get g := rfl
@[simp] theorem State.flag_setCore (c : Nat) (k : Core) (g : Fld) : (s.setCore c k).flag g = s.flag g := rfl
@[simp] theorem State.byte_setCore (c : Nat) (k : Core) (x : Nat) : (s.setCore c k).byte x = s.byte x := rfl
@[simp] theorem State.opn_setCore (c : Nat) (k : Core) (x : Nat) : (s.setCore c k).opn x = s.opn x := rfl
@[simp] theorem State.clk_setCore (c : Nat) (k : Core) (x : Nat) : (s.setCore c k).clk x = s.clk x := rfl
@[simp] theorem State.rd_modCore (c : Nat) (f : Core → Core) (x : Nat) : (s.modCore c f).rd x = s.rd x := rfl
@[simp] theorem State.get_modCore (c : Nat) (f : Core → Core) (g : Fld) : (s.modCore c f).get g = s.get g := rfl
@[simp] theorem State.flag_modCore (c : Nat) (f : Core → Core) (g : Fld) : (s.modCore c f).flag g = s.flag g := rfl
@[simp] theorem State.byte_modCore (c : Nat) (f : Core → Core) (x : Nat) : (s.modCore c f).byte x = s.byte x := rfl
@[simp] theorem State.opn_modCore (c : Nat) (f : Core → Core) (x : Nat) : (s.modCore c f).opn x = s.opn x := rfl
@[simp] theorem State.clk_modCore (c : Nat) (f : Core → Core) (x : Nat) : (s.modCore c f).clk x = s.clk x := rfl
@[simp] theorem State.rd_cset (c : Nat) (f : Fld) (v : Nat) (x : Nat) : (s.cset c f v).rd x = s.rd x := rfl
@[simp] theorem State.get_cset (c : Nat) (f : Fld) (v : Nat) (g : Fld) : (s.cset c f v).get g = s.get g := rfl
@[simp] theorem State.flag_cset (c : Nat) (f : Fld) (v : Nat) (g : Fld) : (s.cset c f v).flag g = s.flag g := rfl
@[simp] theorem State.byte_cset (c : Nat) (f : Fld) (v : Nat) (x : Nat) : (s.cset c f v).byte x = s.byte x := rfl
@[simp] theorem State.opn_cset (c : Nat) (f : Fld) (v : Nat) (x : Nat) : (s.cset c f v).opn x = s.opn x := rfl
@[simp] theorem State.clk_cset (c : Nat) (f : Fld) (v : Nat) (x : Nat) : (s.cset c f v).clk x = s.clk x := rfl
@[simp] theorem State.rd_caddSat (c : Nat) (f : Fld) (n : Nat) (x : Nat) : (s.caddSat c f n).rd x = s.rd x := rfl
@[simp] theorem State.get_caddSat (c : Nat) (f : Fld) (n : Nat) (g : Fld) : (s.caddSat c f n).get g = s.get g := rfl
@[simp] theorem State.flag_caddSat (c : Nat) (f : Fld) (n : Nat) (g : Fld) : (s.caddSat c f n).flag g = s.flag g := rfl
@[simp] theorem State.byte_caddSat (c : Nat) (f : Fld) (n : Nat) (x : Nat) : (s.caddSat c f n).byte x = s.byte x := rfl
@[simp] theorem State.opn_caddSat (c : Nat) (f : Fld) (n : Nat) (x : Nat) : (s.caddSat c f n).opn x = s.opn x := rfl
@[simp] theorem State.clk_caddSat (c : Nat) (f : Fld) (n : Nat) (x : Nat) : (s.caddSat c f n).clk x = s.clk x := rfl
@[simp] theorem State.rd_emit (k : String) (a : List Nat) (d : List Byte) (x : Nat) : (s.emit k a d).rd x = s.rd x := rfl
@[simp] theorem State.get_emit (k : String) (a : List Nat) (d : List Byte) (g : Fld) : (s.emit k a d).get g = s.get g := rfl
@[simp] theorem State.flag_emit (k : String) (a : List Nat) (d : List Byte) (g : Fld) : (s.emit k a d).flag g = s.flag g := rfl
@[simp] theorem State.byte_emit (k : String) (a : List Nat) (d : List Byte) (x : Nat) : (s.emit k a d).byte x = s.byte x := rfl
@[simp] theorem State.core_emit (k : String) (a : List Nat) (d : List Byte) (x : Nat) : (s.emit k a d).core x = s.core x := rfl
@[simp] theorem State.cget_emit (k : String) (a : List Nat) (d : List Byte) (x : Nat) (g : Fld) : (s.emit k a d).cget x g = s.cget x g := rfl
@[simp] theorem State.opn_emit (k : String) (a : List Nat) (d : List Byte) (x : Nat) : (s.emit k a d).opn x = s.opn x := rfl
@[simp] theorem State.clk_emit (k : String) (a : List Nat) (d : List Byte) (x : Nat) : (s.emit k a d).clk x = s.clk x := rfl
@[simp] theorem State.rd_modCro (f : Crocus → Crocus) (x : Nat) : (s.modCro f).rd x = s.rd x := rfl
@[simp] theorem State.get_modCro (f : Crocus → Crocus) (g : Fld) : (s.modCro f).get g = s.get g := rfl
@[simp] theorem State.flag_modCro (f : Crocus → Crocus) (g : Fld) : (s.modCro f).flag g = s.flag g := rfl
@[simp] theorem State.byte_modCro (f : Crocus → Crocus) (x : Nat) : (s.modCro f).byte x = s.byte x := rfl
@[simp] theorem State.core_modCro (f : Crocus → Crocus) (x : Nat) : (s.modCro f).core x = s.core x := rfl
@[simp] theorem State.cget_modCro (f : Crocus → Crocus) (x : Nat) (g : Fld) : (s.modCro f).cget x g = s.cget x g := rfl
@[simp] theorem State.opn_modCro (f : Crocus → Crocus) (x : Nat) : (s.modCro f).opn x = s.opn x := rfl
@[simp] theorem State.clk_modCro (f : Crocus → Crocus) (x : Nat) : (s.modCro f).clk x = s.clk x := rfl
@[simp] theorem State.rd_modHub (f : HubNet → HubNet) (x : Nat) : (s.modHub f).rd x = s.rd x := rfl
@[simp] theorem State.get_modHub (f : HubNet → HubNet) (g : Fld) : (s.modHub f).get g = s.get g := rfl
@[simp] theorem State.flag_modHub (f : HubNet → HubNet) (g : Fld) : (s.modHub f).flag g = s.flag g := rfl
@[simp] theorem State.byte_modHub (f : HubNet → HubNet) (x : Nat) : (s.modHub f).byte x = s.byte x := rfl
@[simp] theorem State.core_modHub (f : HubNet → HubNet) (x : Nat) : (s.modHub f).core x = s.core x := rfl
@[simp] theorem State.cget_modHub (f : HubNet → HubNet) (x : Nat) (g : Fld) : (s.modHub f).cget x g = s.cget x g := rfl
@[simp] theorem State.opn_modHub (f : HubNet → HubNet) (x : Nat) : (s.modHub f).opn x = s.opn x := rfl
@[simp] theorem State.clk_modHub (f : HubNet → HubNet) (x : Nat) : (s.modHub f).clk x = s.clk x := rfl
@[simp] theorem State.rd_modSec (f : Security → Security) (x : Nat) : (s.modSec f).rd x = s.rd x := rfl
@[simp] theorem State.get_modSec (f : Security → Security) (g : Fld) : (s.modSec f).get g = s.get g := rfl
@[simp] theorem State.flag_modSec (f : Security → Security) (g : Fld) : (s.modSec f).flag g = s.flag g := rfl
@[simp] theorem State.byte_modSec (f : Security → Security) (x : Nat) : (s.modSec f).byte x = s.byte x := rfl
@[simp] theorem State.core_modSec (f : Security → Security) (x : Nat) : (s.modSec f).core x = s.core x := rfl
@[simp] theorem State.cget_modSec (f : Security → Security) (x : Nat) (g : Fld) : (s.modSec f).cget x g = s.cget x g := rfl
@[simp] theorem State.opn_modSec (f : Security → Security) (x : Nat) : (s.modSec f).opn x = s.opn x := rfl
@[simp] theorem State.clk_modSec (f : Security → Security) (x : Nat) : (s.modSec f).clk x = s.clk x := rfl
@[simp] theorem State.rd_modPeers (f : Peers → Peers) (x : Nat) : (s.modPeers f).rd x = s.rd x := rfl
@[simp] theorem State.get_modPeers (f : Peers → Peers) (g : Fld) : (s.modPeers f).get g = s.get g := rfl
@[simp] theorem State.flag_modPeers (f : Peers → Peers) (g : Fld) : (s.modPeers f).flag g = s.flag g := rfl
@[simp] theorem State.byte_modPeers (f : Peers → Peers) (x : Nat) : (s.modPeers f).byte x = s.byte x := rfl
@[simp] theorem State.core_modPeers (f : Peers → Peers) (x : Nat) : (s.modPeers f).core x = s.core x := rfl
@[simp] theorem State.cget_modPeers (f : Peers → Peers) (x : Nat) (g : Fld) : (s.modPeers f).cget x g = s.cget x g := rfl
@[simp] theorem State.opn_modPeers (f : Peers → Peers) (x : Nat) : (s.modPeers f).opn x = s.opn x := rfl
@[simp] theorem State.clk_modPeers (f : Peers → Peers) (x : Nat) : (s.modPeers f).clk x = s.clk x := rfl
@[simp] theorem State.rd_modOpen (k : Nat) (f : OpenSite → OpenSite) (x : Nat) : (s.modOpen k f).rd x = s.rd x := rfl
@[simp] theorem State.get_modOpen (k : Nat) (f : OpenSite → OpenSite) (g : Fld) : (s.modOpen k f).get g = s.get g := rfl
@[simp] theorem State.flag_modOpen (k : Nat) (f : OpenSite → OpenSite) (g : Fld) : (s.modOpen k f).flag g = s.flag g := rfl
@[simp] theorem State.byte_modOpen (k : Nat) (f : OpenSite → OpenSite) (x : Nat) : (s.modOpen k f).byte x = s.byte x := rfl
@[simp] theorem State.core_modOpen (k : Nat) (f : OpenSite → OpenSite) (x : Nat) : (s.modOpen k f).core x = s.core x := rfl
@[simp] theorem State.cget_modOpen (k : Nat) (f : OpenSite → OpenSite) (x : Nat) (g : Fld) : (s.modOpen k f).cget x g = s.cget x g := rfl
@[simp] theorem State.clk_modOpen (k : Nat) (f : OpenSite → OpenSite) (x : Nat) : (s.modOpen k f).clk x = s.clk x := rfl
@[simp] theorem State.rd_modClk (m : Nat) (f : ClkDomain → ClkDomain) (x : Nat) : (s.modClk m f).rd x = s.rd x := rfl
@[simp] theorem State.get_modClk (m : Nat) (f : ClkDomain → ClkDomain) (g : Fld) : (s.modClk m f).get g = s.get g := rfl
@[simp] theorem State.flag_modClk (m : Nat) (f : ClkDomain → ClkDomain) (g : Fld) : (s.modClk m f).flag g = s.flag g := rfl
@[simp] theorem State.byte_modClk (m : Nat) (f : ClkDomain → ClkDomain) (x : Nat) : (s.modClk m f).byte x = s.byte x := rfl
@[simp] theorem State.core_modClk (m : Nat) (f : ClkDomain → ClkDomain) (x : Nat) : (s.modClk m f).core x = s.core x := rfl
@[simp] theorem State.cget_modClk (m : Nat) (f : ClkDomain → ClkDomain) (x : Nat) (g : Fld) : (s.modClk m f).cget x g = s.cget x g := rfl
@[simp] theorem State.opn_modClk (m : Nat) (f : ClkDomain → ClkDomain) (x : Nat) : (s.modClk m f).opn x = s.opn x := rfl

end Sys2Proof.Machine
end

