-- ==== Sys2Proof/Laws/CoreOps.lean ====
section
/-! SUPPORT. What the operations that every core instruction shares can do: issue, the advance of the program counter, a
scalar result. -/

namespace Sys2Proof.Machine

theorem issue_ready {s : State} {c : Nat} {rs : List (Fin 32)} {vs : List (Fin 16)} (f : Core → State)
    (h : Ready s c rs vs) : s.issue c rs vs f = f (s.core c) := by
  obtain ⟨h1, h2, h3⟩ := h
  simp [State.issue, h1, h2, h3]

/-- An instruction either runs or stalls; a stall changes nothing. -/
theorem issue_cases (s : State) (c : Nat) (rs : List (Fin 32)) (vs : List (Fin 16)) (f : Core → State) :
    (Ready s c rs vs ∧ s.issue c rs vs f = f (s.core c)) ∨ s.issue c rs vs f = s := by
  by_cases h : Ready s c rs vs
  · exact Or.inl ⟨h, issue_ready f h⟩
  · refine Or.inr ?_
    unfold State.issue
    have : (s.canIssue c && rs.all (s.core c).regFree && vs.all (s.core c).vregFree) = false := by
      by_contra hc
      simp only [Bool.not_eq_false, Bool.and_eq_true] at hc
      exact h ⟨hc.1.1, hc.1.2, hc.2⟩
    simp only [this]
    rfl

theorem retire_mid {s : State} {c : Nat} (h : (s.core c).pc ≠ 0x7FFC) :
    s.retire c = s.modCore c (fun k => { k with pc := k.pc + 4, wait := none }) := by
  simp [State.retire, h]

theorem retire_last {s : State} {c : Nat} (h : (s.core c).pc = 0x7FFC) : s.retire c = s.raiseSync c 0x04 0x8000 := by
  simp [State.retire, h]

@[simp] theorem setS_pc (k : Core) (r : Fin 32) (w : Word) : (k.setS r w).pc = k.pc := by
  unfold Core.setS; split <;> rfl

theorem onlyCore_modCore (s : State) (c : Nat) (f : Core → Core) : OnlyCore s (s.modCore c f) c :=
  ⟨rfl, fun _ h => core_modCore_other s f (Ne.symm h)⟩

theorem OnlyCore.trans {s t u : State} {c : Nat} (h : OnlyCore s t c) (g : OnlyCore t u c) : OnlyCore s u c := by
  refine ⟨?_, fun c' hc => (g.2 c' hc).trans (h.2 c' hc)⟩
  have h1 := h.1
  have g1 := g.1
  rw [← g1] at h1
  exact h1

/-- A change of the core that keeps its program counter, then the advance. -/
theorem stepped_retire {s : State} {c : Nat} (f : Core → Core) (h : (s.core c).pc ≠ 0x7FFC)
    (hf : (f (s.core c)).pc = (s.core c).pc) : Stepped s ((s.modCore c f).retire c) c f := by
  have hp : ((s.modCore c f).core c).pc ≠ 0x7FFC := by rw [core_modCore_same, hf]; exact h
  rw [retire_mid hp]
  refine ⟨?_, (onlyCore_modCore s c f).trans (onlyCore_modCore _ c _)⟩
  rw [core_modCore_same, core_modCore_same, hf]

theorem stepped_retire_id {s : State} {c : Nat} (h : (s.core c).pc ≠ 0x7FFC) : Stepped s (s.retire c) c id := by
  rw [retire_mid h]
  exact ⟨by rw [core_modCore_same]; rfl, onlyCore_modCore s c _⟩

/-- A scalar instruction writes its result and passes on. -/
theorem scalar_stepped {s : State} {c : Nat} {d : Fin 32} {rs : List (Fin 32)} (f : Core → Word)
    (h : ReadyMid s c (d :: rs) []) : Stepped s (s.scalar c d rs f) c (fun k => k.setS d (f k)) := by
  unfold State.scalar
  rw [issue_ready _ h.1]
  exact stepped_retire (fun k' => k'.setS d (f (s.core c))) h.2 (setS_pc _ _ _)

end Sys2Proof.Machine
end

