-- ==== Sys2Proof/Tests/Slice0.lean ====
section
/-! SUPPORT. Tests: ill-formed operands that the check refuses, instruction words written out from the encoding tables,
steps with results worked out by hand from the rules, and for every statement with hypotheses states and operands that
meet them. -/

namespace Sys2Proof.Tests

open Sys2Proof Sys2Proof.Machine

-- one theorem after the other: the evaluations are large
set_option Elab.async false

/-! ## Ill-formed operands (WellFormed.lean): for each check a command that it refuses -/

/-- Training without findings, and a sample without readings. -/
def noFinding : Training := ⟨[], [], [], [], [], [], [], [], [], [], [], [], []⟩

theorem test_wf_refuses_1 : ([.registerWrite 0 (2 ^ 32) 0 false, .registerWrite 0 4 0 false, .registerWrite 66 0 0 false,
   .rsRegisterRead 0 ⟨2 ^ 32, [], false⟩, .rsRegisterRead 0 ⟨4, [], false⟩, .rsRegisterRead 66 ⟨0, [], false⟩, .registerWrite 1 (2 ^ 44) 0 false,
   .registerWrite 0 (2 ^ 44 + 4) 0 false, .registerWrite 0 (2 ^ 48 + 2 ^ 44 + 2) 0 false, .rsRegisterRead 0 ⟨4 * 2 ^ 48 + 2 ^ 44, [], false⟩,
   .auxPowerOn [] [] 8, .auxPowerOn (List.replicate 19 0) [] 0, .auxPowerOn [] (List.replicate 5 0) 0,
   .pwrgdRise [] [4], .pwrgdRise [260] [], .strapValueReceived 4 0 false,
   .strapValueReceived 0 4 false, .hubReleaseAndSelfTest false false (2 ^ 18) false, .bringupKnownAnswer [48 * 8192], .bringupKnownAnswer [6720],
   .configRetryTimeout 4, .pwrCapWrite 64 0, .openSiteCurrentLimit 8,
   .coreRemap (48 * 2 ^ 14) false, .scratchpadScrubStep (48 * 2 ^ 14) [], .scratchpadScrubStep 0 [(8, false)],
   .scratchpadCorrectWriteback (48 * 2 ^ 14) 0, .scratchpadCorrectWriteback 0 0x8000, .scratchpadCorrectWriteback 0 4,
   .add (48 * 2 ^ 14) 0 0 0, .sub (48 * 2 ^ 14) 0 0 0, .and (48 * 2 ^ 14) 0 0 0,
   .or (48 * 2 ^ 14) 0 0 0, .xor (48 * 2 ^ 14) 0 0 0, .shl (48 * 2 ^ 14) 0 0 0] : List Instr).all (fun i => !i.wf) = true := by decide +kernel

theorem test_wf_refuses_2 : ([.shr (48 * 2 ^ 14) 0 0 0, .sra (48 * 2 ^ 14) 0 0 0, .slt (48 * 2 ^ 14) 0 0 0,
   .min (48 * 2 ^ 14) 0 0 0, .max (48 * 2 ^ 14) 0 0 0, .minu (48 * 2 ^ 14) 0 0 0,
   .maxu (48 * 2 ^ 14) 0 0 0, .mul (48 * 2 ^ 14) 0 0 0, .mulh (48 * 2 ^ 14) 0 0 0,
   .mulhu (48 * 2 ^ 14) 0 0 0, .popc (48 * 2 ^ 14) 0 0, .clz (48 * 2 ^ 14) 0 0,
   .ctz (48 * 2 ^ 14) 0 0, .sltu (48 * 2 ^ 14) 0 0 0, .addi (48 * 2 ^ 14) 0 0 0,
   .andi (48 * 2 ^ 14) 0 0 0, .ori (48 * 2 ^ 14) 0 0 0, .xori (48 * 2 ^ 14) 0 0 0,
   .slti (48 * 2 ^ 14) 0 0 0, .sltiu (48 * 2 ^ 14) 0 0 0, .lui (48 * 2 ^ 14) 0 0,
   .ins32 (48 * 2 ^ 14) 0 0 0, .shi (48 * 2 ^ 14) 0 0 0 0, .ldb (48 * 2 ^ 14) 0 0 0,
   .ldbu (48 * 2 ^ 14) 0 0 0, .ldh (48 * 2 ^ 14) 0 0 0, .ldhu (48 * 2 ^ 14) 0 0 0,
   .ldw (48 * 2 ^ 14) 0 0 0, .ldwu (48 * 2 ^ 14) 0 0 0, .ldd (48 * 2 ^ 14) 0 0 0] : List Instr).all (fun i => !i.wf) = true := by decide +kernel

theorem test_wf_refuses_3 : ([.stb (48 * 2 ^ 14) 0 0 0, .sth (48 * 2 ^ 14) 0 0 0, .stw (48 * 2 ^ 14) 0 0 0,
   .std (48 * 2 ^ 14) 0 0 0, .beq (48 * 2 ^ 14) 0 0 0, .bne (48 * 2 ^ 14) 0 0 0,
   .blt (48 * 2 ^ 14) 0 0 0, .bge (48 * 2 ^ 14) 0 0 0, .bltu (48 * 2 ^ 14) 0 0 0,
   .bgeu (48 * 2 ^ 14) 0 0 0, .jal (48 * 2 ^ 14) 0 0, .jalr (48 * 2 ^ 14) 0 0 0,
   .send (48 * 2 ^ 14) 0 0, .recv (48 * 2 ^ 14) 0 0, .atomAdd (48 * 2 ^ 14) 0 0 0,
   .atomSwap (48 * 2 ^ 14) 0 0 0, .atomCas (48 * 2 ^ 14) 0 0 0, .atomOr (48 * 2 ^ 14) 0 0 0,
   .fenceS (48 * 2 ^ 14), .waitcnt (48 * 2 ^ 14) 0 0, .waitcnti (48 * 2 ^ 14) 0 0,
   .cntrd (48 * 2 ^ 14) 0 0, .cntwr (48 * 2 ^ 14) 0 0, .cntsub (48 * 2 ^ 14) 0 0,
   .dmaFill (48 * 2 ^ 14) 0, .dmaDrain (48 * 2 ^ 14) 0, .dmaCopy (48 * 2 ^ 14) 0,
   .dmaZero (48 * 2 ^ 14) 0, .fenceD (48 * 2 ^ 14), .dmaChunk 48 false []] : List Instr).all (fun i => !i.wf) = true := by decide +kernel

theorem test_wf_refuses_4 : ([.mfsr (48 * 2 ^ 14) 0 0, .mtsr (48 * 2 ^ 14) 0 0, .tbar (48 * 2 ^ 14),
   .tbarRelease 1024, .tend (48 * 2 ^ 14), .eret (48 * 2 ^ 14),
   .fenceI (48 * 2 ^ 14), .coreStopReport (48 * 2 ^ 14), .tmac (48 * 2 ^ 14) 0 0 0 false 0,
   .tensorOpComplete (48 * 2 ^ 14) [], .tzero (48 * 2 ^ 14) 0, .tst (48 * 2 ^ 14) 0 0,
   .tld (48 * 2 ^ 14) 0 0, .trow (48 * 2 ^ 14) 0 0 0 false, .taddr (48 * 2 ^ 14) 0 0 0,
   .taddm (48 * 2 ^ 14) 0 0, .vld (48 * 2 ^ 14) 0 0 0, .vst (48 * 2 ^ 14) 0 0 0,
   .vaddH (48 * 2 ^ 14) 0 0 0, .vsubH (48 * 2 ^ 14) 0 0 0, .vmulH (48 * 2 ^ 14) 0 0 0,
   .vfmaH (48 * 2 ^ 14) 0 0 0 0, .vminH (48 * 2 ^ 14) 0 0 0, .vmaxH (48 * 2 ^ 14) 0 0 0,
   .vabsH (48 * 2 ^ 14) 0 0, .vnegH (48 * 2 ^ 14) 0 0, .vrcpH (48 * 2 ^ 14) 0 0,
   .vrsqH (48 * 2 ^ 14) 0 0, .vexp2H (48 * 2 ^ 14) 0 0, .vcltH (48 * 2 ^ 14) 0 0 0] : List Instr).all (fun i => !i.wf) = true := by decide +kernel

theorem test_wf_refuses_5 : ([.vceqH (48 * 2 ^ 14) 0 0 0, .vsel (48 * 2 ^ 14) 0 0 0 0, .vaddI (48 * 2 ^ 14) 0 0 0,
   .vsubI (48 * 2 ^ 14) 0 0 0, .vand (48 * 2 ^ 14) 0 0 0, .vor (48 * 2 ^ 14) 0 0 0,
   .vxor (48 * 2 ^ 14) 0 0 0, .vshlI (48 * 2 ^ 14) 0 0 0, .vshrI (48 * 2 ^ 14) 0 0 0,
   .vsraI (48 * 2 ^ 14) 0 0 0, .vcltI (48 * 2 ^ 14) 0 0 0, .vrsumH (48 * 2 ^ 14) 0 0,
   .vrmaxH (48 * 2 ^ 14) 0 0, .vrminH (48 * 2 ^ 14) 0 0, .vrsumI (48 * 2 ^ 14) 0 0,
   .vbcast (48 * 2 ^ 14) 0 0, .vext (48 * 2 ^ 14) 0 0 0, .vins (48 * 2 ^ 14) 0 0 0,
   .vldq (48 * 2 ^ 14) 0 0 false, .vcvtHi (48 * 2 ^ 14) 0 0 false, .vcvtIh (48 * 2 ^ 14) 0 0 false,
   .qsb (48 * 2 ^ 14) 0 0 0, .dqb (48 * 2 ^ 14) 0 0 0, .cvtb (48 * 2 ^ 14) 0 0 0,
   .illegalInstruction (48 * 2 ^ 14) 0, .cmoClean 16 0, .cmoInvalidate 16 0,
   .cmoCleanInvalidate 16 0, .cmoDone 16, .controlCacheFill (2 ^ 48) []] : List Instr).all (fun i => !i.wf) = true := by decide +kernel

theorem test_wf_refuses_6 : ([.controlCacheFill 0 [(64, 0)], .controlCacheWriteback (2 ^ 48) false, .poisonLineTrap (2 ^ 48),
   .controlCacheError 5 0, .controlCacheError 0 (2 ^ 48), .directoryProbeTimeout 18,
   .stackRead (2 ^ 48) 0 [], .stackRead 0 16 [], .stackRead 0 0 [(288, 1)],
   .stackWrite (2 ^ 48) [], .stackWrite 0 (List.replicate 257 0), .stackCorrectWriteback (2 ^ 48),
   .patrolScrub (2 ^ 48) [], .patrolScrub 0 [(288, 1)], .stackRefresh 48 0,
   .stackRefresh 0 17, .retrainDue 48 0, .retrainDue 0 136,
   .retrainGroup 48 [], .retrainGroup 0 [136], .retrainGroupDone 48 [],
   .retrainGroupDone 0 [(136, none)], .retrainingOverdue 48 0, .retrainingOverdue 0 136,
   .channelRepair 48 0 false, .channelRepair 0 128 false, .layerRepair 48 0 false,
   .layerRepair 0 16 false, .repairCopyBurst 48, .repairCopyDone 48] : List Instr).all (fun i => !i.wf) = true := by decide +kernel

theorem test_wf_refuses_7 : ([.stkRetWrite 48 0 0, .stkRetWrite 0 256 0, .retirementFillDone 48 0,
   .retirementFillDone 0 256, .faultRecordWrite 17, .taskPark 1024,
   .fltConsWrite 17 0 false, .fltPush 17 0, .fltResolveRetry 17 0,
   .fltResolveRetry 0 (2 ^ 32), .fltResolveDrop 17 0, .fltResolveDrop 0 (2 ^ 32),
   .faultSweep 17, .atsInvalidation 4 0 0 0, .atsInvalidation 0 17 0 0,
   .coreWaveStart 1024, .drainStopDone 1024, .seqSlotWrite 64 0 0,
   .seqSlotWrite 0 4 0, .contextRecordWrite (2 ^ 48) 0, .routerAccept 64 0 0,
   .routerAccept 0 16 0, .packetInject 0 0 0 (List.replicate 2049 0) 0, .linkReplay 64 0 0,
   .linkReplay 0 16 0, .hubLinkNarrow 64 0, .hubLinkNarrow 0 4,
   .wavelengthSpareSwap 12 0, .wavelengthSpareSwap 0 32, .linkRetrain false 512 false 0] : List Instr).all (fun i => !i.wf) = true := by decide +kernel

theorem test_wf_refuses_8 : ([.queueFeedback 64 0 0, .labelLatencyMissed 64 0, .labelLatencyMissed 0 8,
   .eventQueueWrite 17 [], .evqConsWrite 17 false 0 false, .evqWordRead 17 0,
   .evqWordRead 0 16384, .lupProbeWrite 64 0 0 0 0, .lupProbeWrite 0 4 0 0 0,
   .lupProbeWrite 0 0 3 0 0, .lupProbeWrite 0 0 0 17 0, .slrCfgWrite 8 0,
   .guaranteeWrite 128 0, .openSitePowerUp 8, .ucieTrain 8 0 0 [],
   .ucieTrain 0 0 16 [], .ucieModuleLoss 8 0 false, .ucieModuleLoss 0 4 false,
   .bmlSend 8 (.guest []), .bmlRecv 8 (.guest []), .rdata 8 (.guest []),
   .ackMsg 8 (.guest []), .merr 8 (.guest []), .mrd 8 [],
   .mrdd 8 0, .mrdd 0 (2 ^ 16), .mwr 8 [],
   .mcpl 8 0, .mcpl 0 (2 ^ 16), .matom 8 []] : List Instr).all (fun i => !i.wf) = true := by decide +kernel

theorem test_wf_refuses_9 : ([.ordMsg 8 0 0, .ordMsg 0 (2 ^ 40) 0, .ordd 8 [],
   .owr 8 0 [], .owr 0 (2 ^ 40) [], .ocpl 8 [],
   .descMsg 8 (.guest []), .dack 8 (.guest []), .heart 8 (.guest []),
   .treport 8 [], .throttle 8, .credit 8 (.guest []),
   .gerr 8 [], .descriptorTimeout 8, .heartbeatLoss 8,
   .treportMissing 8, .galertAsserted 8, .osIsolate 8 0,
   .osRejoin 8 0, .osGrantWrite 8 0 0, .osGrantWrite 0 16 0,
   .perstNAssert 4 0 0, .hostLinkUp 4 0 0, .hostLinkUp 0 17 0,
   .hostLinkUp 0 0 7, .hostLinkDown 4 0 0 0, .hostLinkDown 0 8 0 0,
   .portQuiesce 4, .quiesceComplete 4, .portRelease 4 false] : List Instr).all (fun i => !i.wf) = true := by decide +kernel

theorem test_wf_refuses_10 : ([.htBindWrite 4 0 0, .htBindWrite 0 17 0, .queueEnable 4 0 0 0 0,
   .queueEnable 0 17 0 0 0, .queueEnable 0 0 256 0 0, .queueEnable 0 0 0 4 0,
   .sqTailDoorbell 4 0 0 0, .sqTailDoorbell 0 17 0 0, .sqTailDoorbell 0 0 256 0,
   .sqTailDoorbell 0 0 0 4096, .cqHeadDoorbell 4 0 0 0, .cqHeadDoorbell 0 17 0 0,
   .cqHeadDoorbell 0 0 256 0, .cqHeadDoorbell 0 0 0 4096, .sqFetch 4 ⟨[], none⟩,
   .sqFetchError 4, .ingestCut 16, .msixMessage 4 0 0,
   .msixMessage 0 17 0, .cqCoalesceTimeout 4 0 0, .cqCoalesceTimeout 0 17 0,
   .cqCoalesceTimeout 0 0 256, .hostMemRead 4 0 0 0 false [], .hostMemRead 0 17 0 0 false [],
   .hostMemWrite 4 0 0 [] false false, .hostMemWrite 0 17 0 [] false false, .bar0Access 4 0 0 0 none false,
   .bar0Access 0 17 0 0 none false, .flr 4 0 false, .flr 0 17 false] : List Instr).all (fun i => !i.wf) = true := by decide +kernel

theorem test_wf_refuses_11 : ([.d3hotEntry 4 0, .d3hotEntry 0 17, .tenantCreate 16 0,
   .tenantAddTiles 16 0, .tenantRemoveTiles 16 0, .tenantTeardown 16 0,
   .teardownScrubDone 16, .tenPermWrite 16 0 0, .tenPermWrite 0 32 0,
   .comRgnWrite 64 0, .comRldWrite 64 0, .configDigestUpdate 16,
   .firmwareSpaceRefused 64 0 false, .firmwareSpaceRefused 0 (2 ^ 48) false, .spdmMessage 5 0 0 0,
   .getMeasurements 0 256, .bindSession 0 16, .openWindow 0 8 0 0 0,
   .openWindow 0 0 (2 ^ 48) 0 0, .regen 0 8 0, .closeWindow 0 8,
   .getScrubReport 0 16, .debugPortAccess none (2 ^ 48 + 5) none false [], .recoveryClaim 4,
   .recoveryGo 4 0 false, .recoveryGo 0 (2 ^ 24) false, .katRun 48,
   .katResult 0 (2 ^ 32), .bondLaneRepair 64 0 0, .bondLaneRepair 0 2 0] : List Instr).all (fun i => !i.wf) = true := by decide +kernel

theorem test_wf_refuses_12 : ([.bondLaneRepair 0 0 2048, .bondWidthStep 64, .regulatorPhaseFault 260,
   .snpRngWrite 256 0 0, .snpRngWrite 0 8 0, .digestPassDone 256 none false,
   .digestRangeLate 256, .digestFrame 4 0 0 0 false, .digestFrame 0 256 0 0 false,
   .fetchFrame 4 0 0 0 0, .fetchFrame 0 48 0 0 0, .fdataFrame 4 0 0 0 [],
   .fdataFrame 0 48 0 0 [], .mirCfgWrite (some 64) 0, .mird 4 0 0 0 0 [],
   .mend 4 0 0, .mack 4 0, .noticeFrame 4,
   .silq 4 0 false, .silq 0 4 false, .sila 4 false,
   .peerHeart 4, .domainGateEffect 25, .pllLocked 25 0,
   .pllLockLoss 25 0, .clkRelock 25 0, .relockTimeout 25,
   .nsetWrite 25 0, .freqRampStep 25, .powerCapLoop [(64, 0)] 0] : List Instr).all (fun i => !i.wf) = true := by decide +kernel

theorem test_wf_refuses_13 : ([.railSample [(260, 0, 0)] 0 0, .i3cAddressAssign 128 false, .mctpControl (some 256),
   .mgtTenantConfig 16 [] 0, .peerPortLaneLoss 4 ⟨0, []⟩, .peerPortLaneLoss 0 ⟨9, []⟩, .perstNDeassert 4,
   .returnToD0 4 0, .returnToD0 0 17] : List Instr).all (fun i => !i.wf) = true := by decide +kernel

theorem test_wf_refuses_more : ([.hostAtomicop 4 0 0 4 0 0 0 [], .hostAtomicop 0 17 0 4 0 0 0 [], .hostAtomicop 0 0 0 2 0 0 0 [],
   .lcTransition [] false none true, .stackRead 0 0 [(0, 0)], .stackRead 0 0 [(0, 256)],
   .siteReleaseAndTrain { noFinding with links := [(256, 0, 0)] }, .siteReleaseAndTrain { noFinding with guides := [(12, 0, 0)] },
   .siteReleaseAndTrain { noFinding with chans := [(6528, some [])] }, .siteReleaseAndTrain { noFinding with temps := [(48, 0)] },
   .siteReleaseAndTrain { noFinding with tiles := [48] }, .siteReleaseAndTrain { noFinding with cores := [6720] },
   .siteReleaseAndTrain { noFinding with ports := [64] }, .siteReleaseAndTrain { noFinding with peers := [8, 8, 8, 8, 8] },
   .siteReleaseAndTrain { noFinding with laser := [[], [], [], [], []] }, .siteReleaseAndTrain { noFinding with routers := [6720] },
   .siteReleaseAndTrain { noFinding with linkTemps := [(512, 0)] }, .siteReleaseAndTrain { noFinding with lanes := [128 * 2048] },
   .siteReleaseAndTrain { noFinding with lanes := [1056] },
   .siteReleaseAndTrain { noFinding with layers := [(48, 0)] }, .siteReleaseAndTrain { noFinding with layers := [(0, 17)] }] :
    List Instr).all (fun i => !i.wf) = true := by decide +kernel

/-- Commands at the ends of their ranges are well formed. -/
theorem test_wf_accepts : ([.add (47 * 2 ^ 14 + 79 * 2 ^ 7 + 79) 31 31 31, .pwrCapWrite 63 0, .retrainDue 47 135, .faultSweep 16,
   .debugPortAccess none (2 ^ 48 + 4) none true [], .registerWrite 0 (3 * 2 ^ 48 + 2 ^ 44 + 7) 0 false, .recoveryGo 3 (2 ^ 24 - 1) true] : List Instr).all Instr.wf = true := by
  decide +kernel

/-! ## Instruction words, bit by bit from the encodings of 04 and 05 -/

/-- ADDI s0, s0, 0 is 0x0400_0000 (04 R127): op 0x01 in [31:26], all other fields 0. -/
theorem test_word_nop : kisDecode 1 9 (0b000001_00000_00000_0000000000000000) = .addi 9 0 0 0 := by decide +kernel
/-- ADD s3, s4, s5: op 0x00, d 3, a 4, b 5, fn 0x001 (04 R126). -/
theorem test_word_add : kisDecode 1 9 (0b000000_00011_00100_00101_00000000001) = .add 9 3 4 5 := by decide +kernel
/-- INS32 s3, s4, 0x1234: op 0x08 (04 R127). -/
theorem test_word_ins32 : kisDecode 1 9 (0b001000_00011_00100_0001001000110100) = .ins32 9 3 4 0x1234 := by decide +kernel
/-- SEND of s5 with local offset s6: op 0x1D, a 5, b 6, fn 0x001 (04 R135). -/
theorem test_word_send : kisDecode 1 9 (0b011101_00000_00101_00110_00000000001) = .send 9 5 6 := by decide +kernel
/-- TMAC a1, s8, s9 with z and governor 0, and without z: op 0x22 (05 R175). -/
theorem test_word_tmac : kisDecode 1 9 0x88284811 = .tmac 9 1 8 9 true 0 ∧ kisDecode 1 9 0x88284801 = .tmac 9 1 8 9 false 0 := by
  decide +kernel
/-- The words 0 and all ones are illegal (04 R124). -/
theorem test_word_illegal : kisDecode 1 9 0 = .illegalInstruction 9 0 ∧
    kisDecode 1 9 0xFFFFFFFF = .illegalInstruction 9 0xFFFFFFFF := by decide +kernel

/-- A word of format R: op [31:26], d [25:21], a [20:16], b [15:11], fn [10:0] (04, Encoding). -/
def wordR (op d a b fn : Nat) : BitVec 32 := BitVec.ofNat 32 (op * 2 ^ 26 + d * 2 ^ 21 + a * 2 ^ 16 + b * 2 ^ 11 + fn)
/-- A word of format I: op [31:26], d [25:21], a [20:16], imm16 [15:0]; B is alike, with a and b. -/
def wordI (op d a imm : Nat) : BitVec 32 := BitVec.ofNat 32 (op * 2 ^ 26 + d * 2 ^ 21 + a * 2 ^ 16 + imm)
/-- The words decode to the instructions, and the instructions encode to the words. -/
def agree (l : List (BitVec 32 × Instr)) : Bool := l.all (fun x => kisDecode 1 9 x.1 == x.2 && kisEncode x.2 == some x.1)

/-- ALU functions (04 R126). -/
theorem test_words_alu : agree [(wordR 0 3 4 5 1, .add 9 3 4 5), (wordR 0 3 4 5 2, .sub 9 3 4 5), (wordR 0 3 4 5 3, .and 9 3 4 5),
    (wordR 0 3 4 5 4, .or 9 3 4 5), (wordR 0 3 4 5 5, .xor 9 3 4 5), (wordR 0 3 4 5 6, .shl 9 3 4 5),
    (wordR 0 3 4 5 7, .shr 9 3 4 5), (wordR 0 3 4 5 8, .sra 9 3 4 5), (wordR 0 3 4 5 9, .slt 9 3 4 5),
    (wordR 0 3 4 5 0xA, .min 9 3 4 5), (wordR 0 3 4 5 0xB, .max 9 3 4 5), (wordR 0 3 4 5 0xC, .minu 9 3 4 5),
    (wordR 0 3 4 5 0xD, .maxu 9 3 4 5), (wordR 0 3 4 5 0xE, .mul 9 3 4 5), (wordR 0 3 4 5 0xF, .mulh 9 3 4 5),
    (wordR 0 3 4 5 0x10, .mulhu 9 3 4 5), (wordR 0 3 4 0 0x11, .popc 9 3 4), (wordR 0 3 4 0 0x12, .clz 9 3 4),
    (wordR 0 3 4 0 0x13, .ctz 9 3 4), (wordR 0 3 4 5 0x14, .sltu 9 3 4 5)] = true := by decide +kernel

/-- Immediates, loads, stores (04 R123, R127, R128). -/
theorem test_words_immediate : agree [(wordI 1 3 4 0xFFFF, .addi 9 3 4 0xFFFF), (wordI 2 3 4 7, .andi 9 3 4 7),
    (wordI 3 3 4 7, .ori 9 3 4 7), (wordI 4 3 4 7, .xori 9 3 4 7), (wordI 5 3 4 7, .slti 9 3 4 7), (wordI 6 3 4 7, .sltiu 9 3 4 7),
    (wordI 7 3 0 0x8000, .lui 9 3 0x8000), (wordI 8 3 4 7, .ins32 9 3 4 7), (wordI 9 3 4 0x0005, .shi 9 3 4 0 5),
    (wordI 9 3 4 0x4005, .shi 9 3 4 1 5), (wordI 9 3 4 0x803F, .shi 9 3 4 2 63), (wordI 0xA 3 4 7, .ldb 9 3 4 7),
    (wordI 0xB 3 4 7, .ldbu 9 3 4 7), (wordI 0xC 3 4 7, .ldh 9 3 4 7), (wordI 0xD 3 4 7, .ldhu 9 3 4 7),
    (wordI 0xE 3 4 7, .ldw 9 3 4 7), (wordI 0xF 3 4 7, .ldwu 9 3 4 7), (wordI 0x10 3 4 7, .ldd 9 3 4 7),
    (wordI 0x11 3 4 7, .stb 9 3 4 7), (wordI 0x12 3 4 7, .sth 9 3 4 7), (wordI 0x13 3 4 7, .stw 9 3 4 7),
    (wordI 0x14 3 4 7, .std 9 3 4 7)] = true := by decide +kernel

/-- Branches (format B: a [25:21], b [20:16]) and jumps (04 R131). -/
theorem test_words_branch : agree [(wordI 0x15 4 5 0xFFFE, .beq 9 4 5 0xFFFE), (wordI 0x16 4 5 2, .bne 9 4 5 2),
    (wordI 0x17 4 5 2, .blt 9 4 5 2), (wordI 0x18 4 5 2, .bge 9 4 5 2), (wordI 0x19 4 5 2, .bltu 9 4 5 2),
    (wordI 0x1A 4 5 2, .bgeu 9 4 5 2), (wordI 0x1B 1 0x1F 0xFFFF, .jal 9 1 0x1FFFFF), (wordI 0x1C 1 2 4, .jalr 9 1 2 4)] = true := by
  decide +kernel

/-- Messages, counters, DMA, SYS (04 R135, R142, R148, R153). -/
theorem test_words_system : agree [(wordR 0x1D 0 5 6 1, .send 9 5 6), (wordR 0x1D 0 5 6 2, .recv 9 5 6),
    (wordR 0x1D 3 5 6 0x10, .atomAdd 9 3 5 6), (wordR 0x1D 3 5 6 0x11, .atomSwap 9 3 5 6), (wordR 0x1D 3 5 6 0x12, .atomCas 9 3 5 6),
    (wordR 0x1D 3 5 6 0x13, .atomOr 9 3 5 6), (wordR 0x1D 0 0 0 0x20, .fenceS 9), (wordR 0x1E 0 4 7 1, .waitcnt 9 7 4),
    (wordR 0x1E 3 0 7 2, .cntrd 9 3 7), (wordR 0x1E 0 4 7 3, .cntwr 9 7 4), (wordR 0x1E 0 4 15 4, .cntsub 9 15 4),
    (wordI 0x21 15 0 9, .waitcnti 9 15 9), (wordR 0x1F 0 4 0 1, .dmaFill 9 4), (wordR 0x1F 0 0 0 2, .fenceD 9),
    (wordI 0x20 3 0 0x0022, .mfsr 9 3 0x022), (wordI 0x20 0 4 0x1022, .mtsr 9 4 0x022), (wordI 0x20 0 0 0x2000, .tbar 9),
    (wordI 0x20 0 0 0x3000, .tend 9), (wordI 0x20 0 0 0x4000, .eret 9), (wordI 0x20 0 0 0x5000, .fenceI 9)] = true := by
  decide +kernel

/-- The one DMA word names the row by the operation of its descriptor (04 R147, R148). -/
theorem test_words_dma : kisDecode 2 9 (wordR 0x1F 0 4 0 1) = .dmaDrain 9 4 ∧ kisDecode 3 9 (wordR 0x1F 0 4 0 1) = .dmaCopy 9 4 ∧
    kisDecode 4 9 (wordR 0x1F 0 4 0 1) = .dmaZero 9 4 := by decide +kernel

/-- Accumulator instructions: row in fn [8:5], mode in [4] (05 R179). -/
theorem test_words_tensor : agree [(wordR 0x22 1 8 9 0x71, .tmac 9 1 8 9 true 3), (wordR 0x23 2 0 0 1, .tzero 9 2),
    (wordR 0x23 2 4 0 2, .tst 9 2 4), (wordR 0x23 2 4 0 3, .tld 9 2 4), (wordR 0x23 3 2 0 (5 * 32 + 16 + 4), .trow 9 3 2 5 true),
    (wordR 0x23 3 2 0 (15 * 32 + 4), .trow 9 3 2 15 false), (wordR 0x23 2 3 0 (5 * 32 + 5), .taddr 9 2 3 5),
    (wordR 0x23 2 4 0 6, .taddm 9 2 4)] = true := by decide +kernel

/-- Vector instructions (05 R184, R187, R188): vc in fn [10:7]. -/
theorem test_words_vector : agree [(wordI 0x24 3 4 64, .vld 9 3 4 64), (wordI 0x25 3 4 64, .vst 9 3 4 64),
    (wordR 0x26 1 2 3 1, .vaddH 9 1 2 3), (wordR 0x26 1 2 3 2, .vsubH 9 1 2 3), (wordR 0x26 1 2 3 3, .vmulH 9 1 2 3),
    (wordR 0x26 1 2 3 (4 * 128 + 4), .vfmaH 9 1 2 3 4), (wordR 0x26 1 2 3 5, .vminH 9 1 2 3), (wordR 0x26 1 2 3 6, .vmaxH 9 1 2 3),
    (wordR 0x26 1 2 0 7, .vabsH 9 1 2), (wordR 0x26 1 2 0 8, .vnegH 9 1 2), (wordR 0x26 1 2 0 9, .vrcpH 9 1 2),
    (wordR 0x26 1 2 0 0xA, .vrsqH 9 1 2), (wordR 0x26 1 2 0 0xB, .vexp2H 9 1 2), (wordR 0x26 1 2 3 0xC, .vcltH 9 1 2 3),
    (wordR 0x26 1 2 3 0xD, .vceqH 9 1 2 3), (wordR 0x26 1 2 3 (15 * 128 + 0xE), .vsel 9 1 2 3 15), (wordR 0x26 1 2 3 0x10, .vaddI 9 1 2 3),
    (wordR 0x26 1 2 3 0x11, .vsubI 9 1 2 3), (wordR 0x26 1 2 3 0x12, .vand 9 1 2 3), (wordR 0x26 1 2 3 0x13, .vor 9 1 2 3),
    (wordR 0x26 1 2 3 0x14, .vxor 9 1 2 3), (wordR 0x26 1 2 3 0x15, .vshlI 9 1 2 3), (wordR 0x26 1 2 3 0x16, .vshrI 9 1 2 3),
    (wordR 0x26 1 2 3 0x17, .vsraI 9 1 2 3), (wordR 0x26 1 2 3 0x18, .vcltI 9 1 2 3), (wordR 0x27 3 2 0 1, .vrsumH 9 3 2),
    (wordR 0x27 3 2 0 2, .vrmaxH 9 3 2), (wordR 0x27 3 2 0 3, .vrminH 9 3 2), (wordR 0x27 3 2 0 4, .vrsumI 9 3 2),
    (wordR 0x27 3 20 0 0x10, .vbcast 9 3 20), (wordR 0x27 20 3 31 0x11, .vext 9 20 3 31), (wordR 0x27 3 20 31 0x12, .vins 9 3 20 31)]
    = true := by decide +kernel

/-- Conversions: rounding mode in fn [4] (05 R190 to R192). -/
theorem test_words_convert : agree [(wordR 0x28 3 20 0 1, .vldq 9 3 20 false), (wordR 0x28 3 2 0 0x12, .vcvtHi 9 3 2 true),
    (wordR 0x28 3 2 0 3, .vcvtIh 9 3 2 false), (wordR 0x29 3 4 5 1, .qsb 9 3 4 5), (wordR 0x29 3 4 5 2, .dqb 9 3 4 5),
    (wordR 0x29 3 4 5 3, .cvtb 9 3 4 5)] = true := by decide +kernel

/-- Words whose required-zero bits hold a 1 are illegal (04 R124; 05 R164). -/
theorem test_words_illegal : ([wordR 0 3 4 5 0x11, wordR 0 3 4 5 0, wordR 0 3 4 5 0x15, wordI 7 3 4 1, wordI 9 3 4 0xC005, wordI 9 3 4 0x0045,
    wordR 0x1D 1 5 6 1, wordR 0x1E 1 4 7 1, wordR 0x1E 0 4 17 1, wordI 0x21 16 0 9, wordI 0x21 0 1 9, wordR 0x1F 1 4 0 1,
    wordI 0x20 0 1 0x3000, wordI 0x20 0 0 0x6000, wordR 0x22 8 8 9 1, wordR 0x23 8 0 0 1, wordR 0x23 2 0 0 0x11,
    wordR 0x26 16 2 3 1, wordR 0x26 1 2 3 0x0F, wordR 0x26 1 2 3 0x81, wordR 0x27 3 20 0 1, wordR 0x28 3 2 0 4, wordR 0x29 3 4 5 4,
    wordI 0x2A 0 0 0, wordI 0x30 0 0 0] : List (BitVec 32)).all (fun w => kisDecode 1 9 w == .illegalInstruction 9 w) = true := by
  decide +kernel

/-! ## Where the statements' hypotheses hold: for every statement with hypotheses, states and operands that meet them -/

/-- Fields set one after another. -/
def setAll (s : State) (l : List (Fld × Nat)) : State := l.foldl (fun s x => s.set x.1 x.2) s

/-- Crocus changed. -/
def withCro (f : Crocus → Crocus) (s : State) : State := { s with cro := f s.cro }

/-- A powered package in boot mode m after the bring-up steps listed. -/
def bringUpState (m : Nat) (l : List Nat) : State :=
  setAll { State.reset with cro := { Crocus.init with aux := true, pwrgd := true, rstN := true, crystal := true, ended := l } }
    [(fBootMode, m)]

/-- A ready package whose firmware runs. -/
def readyState : State := withCro (fun c => { c with running := true }) (bringUpState 1 [1, 2, 3, 4, 5, 6, 7, 8, 9, 10])

/-- Core 0 of a ready package runs task 0 at the offset pc with the given scalar registers. -/
def coreState (pc : Nat) (rs : List (Nat × Nat)) : State :=
  (setAll readyState [(fClkEn 5, 1), (fClkRun 5, 1)]).setCore 0
    (rs.foldl (fun k x => k.setS (Fin.ofNat 32 x.1) (BitVec.ofNat 64 x.2)) { coreReset 0 with mode := .running, task := some 0, pc := pc })

/-- A word of fields (value, lowest bit). -/
def word (l : List (Nat × Nat)) : Word := packW l

theorem meets_StepRunsFrontCommand : { State.reset with pending := [.tbarRelease 0, .thermalLoop] }.pending = .tbarRelease 0 :: [.thermalLoop] := rfl

theorem meets_EmptyQueuePassesTime : (State.reset.pending = [] ∧ State.reset.cro.aux = false) ∧
    (readyState.pending = [] ∧ readyState.cro.aux = true ∧ readyState.cro.crystal = true) ∧
    (withCro (fun c => { c with aux := true }) State.reset).cro.crystal = false := by decide +kernel

theorem meets_StepKeepsCanonicalMemory : (readyState.setBytes 7 [1]).Canonical ∧
    step (readyState.setBytes 7 [1]) = .next (readyState.setBytes 7 [1]).refStep := ⟨by unfold State.Canonical; decide +kernel, rfl⟩

theorem meets_WritesReadBack : (fFloor 3 1).fits = true ∧ fTsqT.fits = true := by decide +kernel

theorem meets_KisDecodeOfEncode : kisEncode (.add 9 3 4 5) = some (wordR 0 3 4 5 0x01) := by decide +kernel

theorem meets_KisEncodeOfDecode : kisRead 1 9 (wordR 0 3 4 5 0x01).toNat = some (.add 9 3 4 5) ∧ kisRead 1 9 (2 ^ 32 - 1) = none := by
  decide +kernel

/-- An OTP whose burning was cut short in its 21st bit; a scrapped unit's. -/
def tornOtp : Otp := Otp.field.burnTo 3 21
def scrapOtp : Otp := Otp.field.burnTo 16 65240
/-- A sealed request for step 15 whose steps are not burned yet. -/
def aheadOtp : Otp := Otp.field.burnSlot 0 1 15 296

theorem meets_PowerAndStraps :
    ((State.reset.sec.otp.ahead = false ∧ State.reset.sec.otp.torn = false ∧ State.reset.sec.otp.pos ≠ 16) ∧ aheadOtp.ahead = true ∧
      (tornOtp.ahead = false ∧ tornOtp.torn = true) ∧ (scrapOtp.ahead = false ∧ scrapOtp.torn = false ∧ scrapOtp.pos = 16)) ∧
    (let s := withCro (fun c => { c with good := 7, lastCount := some 41196 }) (bringUpState 0 [1]);
      s.atStep 1 2 = true ∧ s.cro.lastCount = some 41196 ∧ 41200 ≤ 41196 + 4 ∧ s.cro.good = 7 ∧ (41200 : Nat) < 41201) ∧
    (readyState.cro.aux = true ∧ readyState.cro.crystal = true ∧ readyState.get fBootMode = 1 ∧ (bringUpState 3 []).get fBootMode = 3) ∧
    (let s := bringUpState 0 [1, 2];
      s.atStep 2 3 = true ∧ 4 ∉ s.cro.ended ∧ s.cro.straps = none ∧ (bringUpState 0 [0, 1, 2]).cro.ended = [0, 1, 2]) ∧
    (readyState.cro.pwrgd = true ∧ readyState.get fBootMode ≠ 2 ∧ readyState.get fBootMode ≠ 4 ∧
      readyState.sec.otp = State.reset.sec.otp ∧ (bringUpState 2 []).cro.pwrgd = true ∧ (bringUpState 2 []).get fBootMode = 2 ∧
      (bringUpState 4 []).cro.pwrgd = true ∧ (bringUpState 4 []).get fBootMode = 4) ∧
    (let s := setAll (bringUpState 0 [1, 2, 3]) ((List.range 4).flatMap (fun k => [(fDieRxS k, 1), (fDieRxE k, 1)]));
      s.checking = true ∧ (∀ j < 4, s.flag (fDieRxS j) = true ∧ s.flag (fDieRxE j) = true) ∧ s.strapsOk = false) ∧
    (setAll (bringUpState 0 [1, 2, 3]) ((List.range 4).map (fun k => (fDieRotValid k, 1)))).strapsOk = true := by decide +kernel

theorem meets_BringUp :
    ((bringUpState 0 [4]).atStep 4 5 = true ∧ (bringUpState 0 [4]).cro.ccFree = List.range 18 ∧
      (bringUpState 0 [4]).cro.stateRecords = [] ∧ ∀ r < 260, (bringUpState 0 [4]).get (fRegP r) ≤ (bringUpState 0 [4]).get (fRegW r)) ∧
    (let ok (cores : Nat) := (List.range 18).filter (fun p => cores / 2 ^ p % 2 == 1); (ok (2 ^ 15 - 1)).length < 16 ∧
      16 ≤ (ok (2 ^ 16 - 1)).length) ∧
    (bringUpState 0 [5]).atStep 5 7 = true ∧
    ({ noFinding with links := [(255, 2, 0)] }.links.all (fun l => decide (l.2.1 < 3)) = true) ∧
    ({ noFinding with links := [(255, 3, 0)] }.links.any (fun l => decide (3 ≤ l.2.1)) = true) ∧
    (let s := setAll (bringUpState 0 [7]) ((List.range 8).map (fun k => (fOsLstate k, 3))); s.atStep 7 8 = true ∧ ∀ k < 8, 3 ≤ s.get (fOsLstate k)) ∧
    (bringUpState 0 [8]).atStep 8 9 = true ∧ (bringUpState 0 [5]).atStep 5 6 = true ∧
    (let s := bringUpState 0 [6, 9];
      s.atStep 6 10 = true ∧ 9 ∈ s.cro.ended ∧ s.cro.running = false) ∧
    (withCro (fun c => { c with running := true }) (bringUpState 0 [9])).starting = true ∧
    (setsReserved bootCtl 1 = false ∧ readyState.starting = false) ∧
    (let s := bringUpState 0 [];
      s.get fBootMode = 0 ∧ s.cro.retry.contains 3 = false) ∧
    (let s := bringUpState 3 [];
      s.get fBootMode = 3 ∧ s.recHold = none) ∧
    (let s := { bringUpState 3 [] with recHold := some 3 };
      s.get fBootMode = 3 ∧ s.recHold = some 3 ∧ s.cro.recDelay = false) ∧
    (withCro (fun c => { c with recDelay := true }) (bringUpState 3 [])).cro.recDelay = true := by
  and_intros <;> decide +kernel

/-- An image whose header is all zeros is refused with cause 4. -/
theorem meets_imageVerdict : imageVerdict (bringUpState 0 [5]) (fun _ => 0) 0x1000 = some 0x04 := by rfl

theorem meets_RegisterAccess :
    (∀ off ∈ [cmoAddr 15, 0x00700000, 0x00C00008, 0x00D00040], (findReg off).isSome = true ∧ readyState.gatedReg off = none) ∧
    (RegisterOpen readyState 0 (cmoAddr 15) ∧ RegisterOpen readyState 1 0x00D00040 ∧ PlainNow readyState (cmoAddr 15) ∧
      PlainNow readyState 0x00700000 ∧ PlainNow readyState 0x00C00008 ∧ PlainNow readyState 0x00D00040 ∧
      setsReserved (cmoAddr 15) 0x3F = true) ∧
    (RegisterOpen readyState 0 0x00680000 ∧ (findReg 0x00680000).isSome = true ∧ readyState.gatedReg 0x00680000 = none ∧
      readyState.flag fTsqSwap = false ∧ (0x00680000 - 0x00600000) / 0x80000 ≠ readyState.get fTsqBank) ∧
    (∃ n, (setAll readyState [(fClkEn 5, 0), (fClkRun 5, 0)]).gatedReg 0x100000 = some n) ∧ findReg 0x100000 ≠ none ∧
    (readyState.get fBootMode ≠ 4 ∧ findReg 0xFFFFFFF0 = none ∧ 0xFFFFFFF0 < 2 ^ 44) ∧ (bringUpState 4 []).get fBootMode = 4 ∧
    ((bringUpState 2 []).get fBootMode = 2 ∧ findReg 0x00D00008 ≠ none ∧ 0x00D00008 ≠ bootStat ∧ 0x00D00008 ≠ fBootTime.off ∧
      0x00D00008 ≠ ccxDomst) ∧
    ReadOpen readyState 0 0x00800000 ∧ findReg 0x00800000 ≠ none ∧ readyState.gatedReg 0x00800000 = none ∧
    readyState.sramBad (regAddr 0x00800000) = false ∧ (readyState.set (fProd 0 true) 1).evqLive 0 0 = true ∧ readyState.evqLive 0 0 = false ∧
    (sramReg 0x00400000 = true ∧ { readyState with badWords := [(regAddr 0x00400000, true)] }.sramBad (regAddr 0x00400000) = true) ∧
    (let a := spadAddr 0 0x7FFF;
      2 ^ 44 ≤ a ∧ a < 2 ^ 48 ∧ a % 2 ^ (3 - 3) = 0 ∧ (coreState 0 []).place a = .core 0 0x7FFF ∧ (coreState 0 []).katRuns 0 = false ∧
      (coreState 0 []).noCore 0 = false ∧ (coreState 0 []).spadPoison 0 0x7FFF 1 = none) ∧
    (readyState.place (recKey 3) = .ctx 3072 ∧ readyState.sramBad (recKey 3 / 8 * 8) = false) ∧
    (decide (bitsOf 0x03 1 0 = 3) = true ∧ bitsOf 0x20 5 4 = 2 ∧ bitsOf 0x80 7 6 = 2 ∧ setsReserved (grdFloor 15) 0x0A = false) ∧
    FirmwareRow (.tenantTeardown 3 0) ∧ FirmwareRow (.registerWrite 0 0 0 false) ∧ FirmwareRow (.lupProbeWrite 63 3 2 16 0) := by
  unfold RegisterOpen ReadOpen PlainNow FirmwareRow; and_intros <;> first | exact ⟨0, by decide +kernel⟩ | trivial

/-- For every row that the statement names, a register whose write is that row. -/
theorem meets_RowOfWrite : let s := readyState
    (RowOfWrite s 0x11F8 5 true (.pwrCapWrite 63 5) ∧ RowOfWrite s 0x0022FFF8 5 true (.stkRetWrite 47 255 5) ∧
      RowOfWrite s 0x00350408 5 true (.fltConsWrite 16 5 true) ∧ RowOfWrite s 0x00350420 5 true (.fltPush 16 5) ∧
      RowOfWrite s 0x00350418 (word [(7, 0), (1, 32)]) true (.fltResolveRetry 16 7) ∧
      RowOfWrite s 0x00350418 (word [(7, 0), (2, 32)]) true (.fltResolveDrop 16 7)) ∧
    (RowOfWrite s (cmoCtl 15) 1 true (.cmoClean 15 1) ∧ RowOfWrite s (cmoCtl 15) 5 true (.cmoInvalidate 15 5) ∧
      RowOfWrite s (cmoCtl 15) 7 true (.cmoCleanInvalidate 15 7) ∧ RowOfWrite s trnCmd 1 true (.trnWrite 1) ∧
      RowOfWrite s trnCmd 2 true (.trnClear 2)) ∧
    (RowOfWrite s tsqCtrl 4 true .bankSwapRequest ∧ RowOfWrite s tsqCtrl 1 true .tickProgramStart ∧
      RowOfWrite (s.set fTsqRun 1) tsqCtrl 0 true .tickProgramStop ∧ RowOfWrite s tsqPeriod 5 true (.tsqPeriodWrite 5) ∧
      RowOfWrite s tsqCfg 5 true (.tsqCfgWrite 5) ∧ RowOfWrite s tsqTcmd 1 true (.taskLoad 1) ∧
      RowOfWrite s tsqTcmd 2 true (.taskUnload 2) ∧ RowOfWrite s 0x005207F8 5 true (.seqSlotWrite 63 3 5)) ∧
    (RowOfWrite s 0x0091FDD0 5 true (.lupProbeWrite 63 3 2 16 5) ∧ RowOfWrite s 0x008C0408 5 true (.evqConsWrite 16 true 5 true) ∧
      RowOfWrite s 0x008C0418 5 true (.evqConsWrite 16 false 5 true) ∧ RowOfWrite s (slrCfg 7) 5 true (.slrCfgWrite 7 5) ∧
      RowOfWrite s (slg 127) 5 true (.guaranteeWrite 127 5) ∧ RowOfWrite s (osGrant 7 15) 5 true (.osGrantWrite 7 15 5) ∧
      RowOfWrite s (osCtl 7) 1 true (.osIsolate 7 1) ∧ RowOfWrite s (osCtl 7) 2 true (.osRejoin 7 2)) ∧
    (RowOfWrite s (htBind 3 16) 5 true (.htBindWrite 3 16 5) ∧ RowOfWrite s 0x00B03100 1 true (.portRelease 3 true)) ∧
    (RowOfWrite s 0x00C00F00 5 true (.tenantCreate 15 5) ∧
      RowOfWrite (setAll s [(fTenValid 15, 1), (fTenTiles 15, 1)]) 0x00C00F00 5 true (.tenantTeardown 15 5) ∧
      RowOfWrite (setAll s [(fTenValid 15, 1), (fTenTiles 15, 1)]) 0x00C00F00 (word [(1, 63), (3, 0)]) true
        (.tenantAddTiles 15 (word [(1, 63), (3, 0)])) ∧
      RowOfWrite (setAll s [(fTenValid 15, 1), (fTenTiles 15, 3)]) 0x00C00F00 (word [(1, 63), (1, 0)]) true
        (.tenantRemoveTiles 15 (word [(1, 63), (1, 0)]))) ∧
    (RowOfWrite s lcsCmd 1 true (.lcTransition [] true none true) ∧ RowOfWrite s tstObssel 1 true (.tstObsselWrite 1) ∧
      RowOfWrite s 0x00C20FF8 5 true (.tenPermWrite 15 31 5) ∧ RowOfWrite s 0x00C303F0 5 true (.comRgnWrite 63 5) ∧
      RowOfWrite s 0x00C303F8 5 true (.comRldWrite 63 5)) ∧
    (RowOfWrite s bootCtl 1 true (.fwready 1) ∧ RowOfWrite s rstCtl (word [(1, 29)]) true (.resetCore (word [(1, 29)])) ∧
      RowOfWrite s rstCtl (word [(2, 29)]) true (.resetGroup (word [(2, 29)])) ∧
      RowOfWrite s rstCtl (word [(3, 29)]) true (.resetPartition (word [(3, 29)])) ∧
      RowOfWrite s rstCtl (word [(4, 29)]) true (.resetWhole (word [(4, 29)])) ∧ RowOfWrite s lspCc 5 true (.controlCoreOffline 5)) ∧
    (RowOfWrite s snpCfg 5 true (.snpCfgWrite 5) ∧ RowOfWrite s 0x00F04FF8 5 true (.snpRngWrite 255 7 5) ∧
      RowOfWrite s twnCfg 5 true (.twinFailover 5) ∧ RowOfWrite s mirCfg 5 true (.mirCfgWrite none 5) ∧
      RowOfWrite s 0x00F002F8 5 true (.mirCfgWrite (some 63) 5)) ∧
    (RowOfWrite (s.set (fClkEn 5) 1) hubClken 0 true (.domainGate 0) ∧ RowOfWrite s hubClken 0x1FFFFFF true (.domainUngate 0x1FFFFFF) ∧
      RowOfWrite s 0x010001C0 8 true (.clkRelock 24 8) ∧ RowOfWrite s 0x010001C0 4 true (.nsetWrite 24 4) ∧
      RowOfWrite s fPkgCap.off 5 true (.pwrCfgWrite 5) ∧ RowOfWrite s coolIn 5 true (.coolInWrite 5)) := by
  simp only; unfold RowOfWrite; and_intros <;> decide +kernel

theorem meets_CoreUpkeep :
    (setsReserved (siteCfg 63) (word [(255, 40)]) = false ∧ readyState.ticking = false) ∧
    (setAll readyState [(fTsqPhase, 3)]).ticking = true ∧
    (let s := { setAll readyState [(fOsLstate 7, 1)] with opens := [(7, { OpenSite.init with rails := true })] };
      InUse s 7 ∧ (s.opn 7).rails = true) ∧
    (let s := { coreState 0 [] with cro := { readyState.cro with retire := [0, 5] } };
      s.absent 0 = false ∧ s.coreClock 0 = true ∧ s.cro.retire.contains 0 = true ∧ s.katRuns 0 = false ∧ (s.core 0).fenced = false ∧
      (let s := s.modCore 5 (fun k => { k with fenced := true });
        (s.core 5).fenced = true ∧ s.coreBusy 5 = false ∧ isCore 5 = true ∧ s.flag (fAbsent 0 5 0) = false ∧
        (setAll s [(fRemapUsed 0 0 0, 1)]).flag (fRemapUsed 0 0 0) = true)) ∧
    (bitsOf (word [(1, 0), (0x12, 16), (5, 32)]) 23 16 = 0x12 ∧ (coreState 0 []).absent 5 = false ∧ readyState.cro.running = true) := by
  unfold InUse; and_intros <;> decide +kernel

/-- Scalar registers at corner values: 1 for s1, the most negative number for s2, 0x7FF8 for s3, 0x8000 for s4, 3 for s5. -/
def scalarState : State := coreState 64 [(1, 1), (2, 2 ^ 63), (3, 0x7FF8), (4, 0x8000), (5, 3)]

theorem meets_AluResults : ReadyMid scalarState 0 [31, 2, 2] [] ∧ ReadyMid scalarState 0 [0, 2] [] := by
  unfold ReadyMid Ready; decide +kernel

theorem meets_LoadsAndStores :
    (let o := (BitVec.ofInt 64 (((scalarState.core 0).sreg 3).toNat + (0 : BitVec 16).toInt)).toNat;
      ReadyMid scalarState 0 [31, 3] [] ∧ o % 8 = 0 ∧ o ≤ 0x7FFF ∧ (scalarState.core 0).extFree [(o, 8)] [] = true ∧
      (scalarState.core 0).extFree [] [(o, 8)] = true ∧ scalarState.spadPoison 0 o 8 = none) ∧
    Ready (coreState 0x7FFC [(5, 3)]) 0 [31, 5] [] ∧ (BitVec.ofInt 64 (3 + (4 : BitVec 16).toInt)).toNat % 8 ≠ 0 ∧
    (0x8000 % 8 = 0 ∧ 0x7FFF < 0x8000 ∧ ((scalarState.core 0).sreg 4).toNat = 0x8000) ∧
    { scalarState with badWords := [(spadAddr 0 0x7FF8, true)] }.spadPoison 0 0x7FF8 8 = some 0x7FF8 := by
  unfold ReadyMid Ready; and_intros <;> decide +kernel

theorem meets_BranchesAndJumps :
    (Ready scalarState 0 [1, 5] [] ∧ decide (((scalarState.core 0).sreg 1).toNat = ((scalarState.core 0).sreg 5).toNat) = false ∧
      (scalarState.core 0).pc ≠ 0x7FFC) ∧
    (let target := (BitVec.ofInt 64 ((64 : Int) + 4 * (0x1FEF : BitVec 16).toInt)).toNat;
      decide (((scalarState.core 0).sreg 1).toNat ≠ ((scalarState.core 0).sreg 5).toNat) = true ∧ target ≤ 0x7FFC) ∧
    0x7FFC < (BitVec.ofInt 64 ((64 : Int) + 4 * (0x1FF0 : BitVec 16).toInt)).toNat ∧
    0x7FFC < (BitVec.ofInt 64 ((64 : Int) + 4 * (-17 : BitVec 16).toInt)).toNat ∧
    (let jal := (BitVec.ofInt 64 ((64 : Int) + 4 * (0x1FEF : BitVec 21).toInt)).toNat;
      Ready scalarState 0 [31] [] ∧ jal % 4 = 0 ∧ jal ≤ 0x7FFC) ∧
    (let jalr := (BitVec.ofInt 64 (0x7FF8 + (4 : BitVec 16).toInt)).toNat;
      Ready scalarState 0 [31, 3] [] ∧ jalr % 4 = 0 ∧ jalr ≤ 0x7FFC) ∧
    (BitVec.ofInt 64 (3 + (0 : BitVec 16).toInt)).toNat % 4 ≠ 0 ∧
    (let jalr := (BitVec.ofInt 64 (0x8000 + (0 : BitVec 16).toInt)).toNat; jalr % 4 = 0 ∧ 0x7FFC < jalr) := by
  unfold Ready; and_intros <;> decide +kernel

/-- A message word: 32 words to core d at offset r for counter k. -/
def msgWord (d r n k : Nat) : Word := word [(d, 0), (r, 24), (k, 39), (n - 1, 43)]

/-- The descriptor of task k of tenant 3 in the task table: cores 0 and 1 of tile 0, image and save area at 0x10000 and 0x100000
(10 R340). -/
def withTask (k : Nat) (s : State) : State :=
  [(0, word [(1, 0), (16, 8), (k, 16), (3, 26), (1, 40)]), (1, word [(1000, 0), (0x80, 32)]), (2, 0x77),
    (3, word [(0x10000, 0), (1, 48)]), (4, word [(0x100000, 0)]), (5, word [(2, 26), (1, 33), (1, 40)]),
    (9, word [(4, 0), (1, 28), (0x2000, 36)]), (10, word [(0x1000, 0)])].foldl (fun s x => s.wr (tsqTd k x.1) x.2) s

/-- Tenant 3 holds tile 0, with 16 pages of stack 0 at DVA 0x10000 and 256 at 0x100000, to read and write. -/
def withTenant (s : State) : State :=
  setAll s [(fTileState 0, 1), (fTileOwner 0, 3), (fTenValid 3, 1), (fTenTiles 3, 1), (fTenState 3, 1), (fStkState 0, 1),
    (fStkSpareFor 0, 0x1F), (fTrnValid 3 0, 1), (fTrnDva 3 0, 0x10), (fTrnPages 3 0, 16), (fTrnTgt 3 0, 0x40), (fTrnR 3 0, 1),
    (fTrnW 3 0, 1), (fTrnValid 3 1, 1), (fTrnDva 3 1, 0x100), (fTrnPages 3 1, 256), (fTrnTgt 3 1, 0x200), (fTrnR 3 1, 1),
    (fTrnW 3 1, 1)]

/-- Core 0 of task 0, running, holds message words in s6 (to core 128) and s7 (an ATOM's), the offset 0x7F00 in s8. -/
def sendState : State :=
  let s := coreState 64 [(6, (msgWord 128 0x7F00 32 15).toNat), (7, (msgWord 128 0x7FF8 1 0).toNat), (8, 0x7F00), (9, 2 ^ 63), (10, 0x7F01)]
  { withTask 0 (withTenant (setAll s [(fTstState 0, tsRunning)])) with tasks := [(0, Task.fresh)] }

theorem meets_MessageInstructions :
    (ReadyMid sendState 0 [6, 8] [] ∧ MsgGood ((sendState.core 0).sreg 6) ((sendState.core 0).sreg 8) ∧
      (sendState.core 0).extFree [(0x7F00, 256)] [] = true ∧ (sendState.core 0).extFree [] [(0x7F00, 256)] = true ∧
      bitsOf ((sendState.core 0).srd 0 0x010) 5 0 < 32 ∧ sendState.spadPoison 0 0x7F00 256 = none ∧
      sendState.senderError 0 ((sendState.core 0).sreg 6) = none) ∧
    (ReadyMid sendState 0 [31, 7, 9] [] ∧ AtomGood ((sendState.core 0).sreg 7) ∧
      sendState.senderError 0 ((sendState.core 0).sreg 7) = none) ∧
    32 ≤ bitsOf (((sendState.cset 0 cSendOut 32).core 0).srd 0 0x010) 5 0 ∧
    (ReadyMid sendState 0 [] [] ∧ bitsOf ((sendState.core 0).srd 0 0x010) 5 0 = 0) ∧
    bitsOf ((sendState.core 0).sreg 9) 63 48 ≠ 0 ∧
    (let w := (sendState.core 0).sreg 6; ¬ (bitsOf w 63 48 ≠ 0 ∨ destBadBits (mwDest w) = true) ∧ bitsOf w 38 24 % 8 = 0 ∧
      0x8000 ≤ ((sendState.core 0).sreg 9).toNat ∧ ((sendState.core 0).sreg 10).toNat % 8 ≠ 0 ∧ ((sendState.core 0).sreg 10).toNat < 0x8000) ∧
    (let w := msgWord 128 0x7F01 1 0; ¬ (bitsOf w 63 48 ≠ 0 ∨ destBadBits (mwDest w) = true) ∧ bitsOf w 38 24 % 8 ≠ 0) ∧
    (let w := msgWord 128 0x7F00 32 0; ¬ (bitsOf w 63 48 ≠ 0 ∨ destBadBits (mwDest w) = true) ∧ bitsOf w 38 24 % 8 = 0 ∧
      0x8000 < 0x7FF8 + 8 * (bitsOf w 47 43 + 1) ∧ 8 * (bitsOf w 47 43 + 1) ≠ 8) := by
  unfold ReadyMid Ready MsgGood AtomGood; and_intros <;> decide +kernel

/-- A message of core 0 to core 128 as it waits in the network. -/
def msgOf (kind : MsgKind) (len : Nat) (data : List Byte) : Msg :=
  { phys := none, gateOut := none, gateIn := none, route := [], kind := kind, src := 0, task := some 0, dst := 128, roff := 0x7F00, len := len,
    ctr := 15, lofs := 0, rd := 31, cmp := 0, data := data, req := 0 }

/-- That message, with number 0, in a package whose cores 0 and 128 run task 0. -/
def flightState (kind : MsgKind) (len : Nat) (data : List Byte) : State :=
  { sendState.setCore 128 { coreReset 128 with mode := .running, task := some 0 } with net := [(0, msgOf kind len data)], nextId := 1 }

theorem meets_MessageTraffic :
    (let m := msgOf .send 256 (List.replicate 256 1); let s := flightState .send 256 (List.replicate 256 1);
      s.msg 0 = some m ∧ s.blocked 0 m = false ∧ destKind m.dst = 0 ∧ s.arrivalError m false = none ∧
      ((s.core m.dst).ctr (ctrFin m.ctr)).toNat + m.len < 2 ^ 32 ∧ s.arrivalError m true = some 0x8) ∧
    (let m := msgOf .recvReq 256 []; (flightState .recvReq 256 []).arrivalError m false = none ∧
      (flightState .recvReq 256 []).spadPoison m.dst m.roff m.len = none) ∧
    (let m := msgOf .atomCas 8 (bytesLE 8 1); (flightState .atomCas 8 (bytesLE 8 1)).arrivalError m false = none ∧
      (flightState .atomCas 8 (bytesLE 8 1)).spadPoison m.dst m.roff 8 = none ∧ m.kind.isAtom = true) ∧
    (msgOf .ack 8 []).src < 2 ^ 23 ∧ isCore (msgOf .ack 8 []).src = true ∧ (msgOf .ack 8 []).kind = .ack ∧
    (msgOf .atomRes 8 (bytesLE 8 1)).kind = .atomRes ∧ (flightState .atomRes 8 (bytesLE 8 1)).msg 0 = some (msgOf .atomRes 8 (bytesLE 8 1)) ∧
    (let s := flightState .recvData 256 (List.replicate 256 1);
      ((s.core 0).ctr (ctrFin 15)).toNat + 256 < 2 ^ 32 ∧ s.msg 0 = some (msgOf .recvData 256 (List.replicate 256 1))) ∧
    (let s := (flightState (.merr 3) 8 []).modCore 0 (fun k => { k with mode := .stopped });
      (s.core 0).mode ≠ .running ∧ s.cget 0 cMsgSticky = 0 ∧ (s.cset 0 cMsgSticky 1).cget 0 cMsgSticky = 1) := by
  and_intros <;> decide +kernel

/-- Core 0 with counter 15 at 16 and a corner of values in s1 to s4. -/
def counterState : State := (coreState 64 [(1, 16), (2, 17), (3, 2 ^ 32), (4, 2 ^ 32 - 1)]).modCore 0 (fun k => k.setCtr 15 16)

theorem meets_SpecialRegisters :
    (ReadyMid counterState 0 [1] [] ∧ ((counterState.core 0).sreg 1).toNat ≤ ((counterState.core 0).ctr 15).toNat ∧
      ¬ counterState.cget 0 (cOvf 15) = 1) ∧
    ((counterState.core 0).ctr 15).toNat < ((counterState.core 0).sreg 2).toNat ∧
    8 * (2 : BitVec 16).toNat ≤ ((counterState.core 0).ctr 15).toNat ∧
    ((counterState.core 0).ctr 15).toNat < 8 * (3 : BitVec 16).toNat ∧
    (counterState.cset 0 (cOvf 15) 1).cget 0 (cOvf 15) = 1 ∧ 2 ^ 32 ≤ ((counterState.core 0).sreg 3).toNat ∧
    ((0x021, 0x7FFC, 0) ∈ srTable ∧ (counterState.core 0).tq = [] ∧ srRefuses 0x021 16 = false ∧
      (srReserved 0x021).any (fun f => bitsOf (16 : Word) f.1 f.2 != 0) = false) ∧
    ((counterState.core 0).srd 0 0x039 &&& ~~~0xFFFF3F3F = 0) ∧ ReadyMid counterState 0 [31] [] ∧
    srListed 0x040 = false ∧ srListed 0xFFF = false := by
  unfold ReadyMid Ready; and_intros <;> decide +kernel

/-- Both cores of task 0 stand at its first barrier. -/
def barrierState : State :=
  [0, 1].foldl (fun s c => s.setCore c { coreReset c with mode := .atBarrier, task := some 0, bars := 1 }) sendState

theorem meets_ControlAndExceptions :
    (Ready sendState 0 [] [] ∧ (sendState.core 0).task = some 0 ∧ sendState.outstanding 0 = 0 ∧ sendState.dmaDone 0 = true ∧
      (sendState.task 0).mustPark = false ∧ (sendState.core 0).async = []) ∧
    barrierState.present 0 = [0, 1] ∧ (sendState.present 0).Nodup ∧
    (∀ e ∈ barrierState.present 0, (barrierState.core e).mode = .atBarrier ∧ (barrierState.core e).task = some 0 ∧
      (barrierState.core e).bars = 1 ∧ (barrierState.core e).async = [] ∧ (barrierState.core e).pc ≠ 0x7FFC) ∧
    (let s := sendState.modCore 1 (fun k => { k with mode := .ended, task := some 0 }); s.present 0 = [0, 1] ∧ s.tstate 0 = tsRunning ∧
      (s.core 1).mode = .ended ∧ (s.core 1).task = some 0 ∧ s.dmaDone 1 = true ∧ (sendState.core 1).mode ≠ .ended) ∧
    { sendState with tasks := [(0, { Task.fresh with mustPark := true })] }.task 0 = { Task.fresh with mustPark := true } ∧
    (sendState.cset 0 cSendOut 1).outstanding 0 ≠ 0 ∧ kisLegal 0xFFFFFFFF = false ∧
    (scalarState.cget 0 cInh = 0 ∧ handlerBit 0x0B = some 4 ∧ (scalarState.cset 0 (cEn 4) 1).cget 0 (cEn 4) = 1 ∧
      (scalarState.cset 0 cInh 1).cget 0 cInh = 1 ∧ handlerBit 0x01 = none) ∧
    (let s := sendState.modCore 0 (fun k => { k with mode := .frozen });
      (s.core 0).mode = .frozen ∧ (s.core 0).task = some 0 ∧ s.tstate 0 = tsRunning) := by
  unfold Ready; and_intros <;> decide +kernel

/-- A DMA descriptor of 32 bytes (04 R147): operation, counter, row bytes, rows, stride, source, destination. -/
def descBytes (op ctr rowb rows stride src dst : Nat) : List Byte :=
  [1, 4, BitVec.ofNat 8 op, BitVec.ofNat 8 ctr] ++ bytesLE 4 rowb ++ bytesLE 2 rows ++ [0, 0] ++ bytesLE 4 stride ++ bytesLE 8 src
    ++ bytesLE 8 dst

/-- Task 0's core 0 with a FILL's descriptor at 0x100 from a mapped DVA, at 0x120 a ZERO's of a DVA that no entry maps, nothing
at 0x7FE0. -/
def dmaState : State :=
  (sendState.modCore 0 (fun k => (((k.setS 1 0x100).setS 2 0x120).setS 3 0x7FE0).setS 4 0x8000 |>.setS 5 0x101)).setBytes
    (spadAddr 0 0x100) (descBytes 1 2 256 2 512 0x10000 (spadAddr 0 0x1000) ++ descBytes 4 1 512 1 0 0 0x90000)

/-- The command of the descriptor at 0x100, with its snapshot of the range entry where it has been admitted. -/
def fillCmd (st : DmaState) (moved : Nat) : Dma :=
  ⟨0, some 0, 0x100, 1, 2, 256, 2, 512, 0x10000, spadAddr 0 0x1000, st, moved, false,
    if st = .queued then [] else [(0x10000, 0x20000, 0x40000)]⟩

/-- The machine with that command as its number 0. -/
def fillState (st : DmaState) (done : Nat) : State := { dmaState with dma := [(0, fillCmd st done)], nextId := 1 }

/-- The FILL from a stack of another site: its range entry maps to stack 1, in service. -/
def farCmd : Dma := { fillCmd .admitted 0 with maps := [(0x10000, 0x20000, 2 ^ 38 + 0x40000)] }
def farState : State := { setAll dmaState [(fStkState 1, 1), (fStkSpareFor 1, 0x1F)] with dma := [(0, farCmd)], nextId := 1 }
/-- A DRAIN of 512 bytes from 0x1000 to the mapped DVA; a queued TST has yet to write there. -/
def drainCmd : Dma := { fillCmd .queued 0 with op := 2, src := spadAddr 0 0x1000, dst := 0x10000 }

theorem meets_DmaCommands :
    (ReadyMid dmaState 0 [1] [] ∧ (dmaState.core 0).extFree [(0x100, 32)] [] = true ∧
      parseDma 0 (some 0) 0x100 (dmaState.spadBytes 0 0x100 32) = some (fillCmd .queued 0) ∧
      dmaState.spadPoison 0 0x100 32 = none ∧ (dmaState.dmaOf 0).length < 4 ∧ dmaState.sourceOpen 0 (fillCmd .queued 0) = false) ∧
    4 ≤ ({ dmaState with dma := (List.range 4).map (fun i => (i, fillCmd .queued 0)) }.dmaOf 0).length ∧
    (dmaState.modCore 0 (fun k => { k with tq := [.store 60 0 0x1000] })).sourceOpen 0 drainCmd = true ∧
    ((dmaState.core 0).sreg 4).toNat = 2 ^ 15 ∧
    parseDma 0 (some 0) 0x7FE0 (dmaState.spadBytes 0 0x7FE0 32) = none ∧ 0x101 % 32 ≠ 0 ∧ dmaState.dmaDone 0 = true ∧
    (fillState .queued 0).dmaDone 0 = false ∧
    dmaState.dmaMaps (fillCmd .queued 0) = (fillCmd .admitted 0).maps ∧
    (let s := fillState .queued 0; let d := fillCmd .queued 0;
      s.dmaGet 0 = some d ∧ d.task = some 0 ∧ s.tstate 0 = tsRunning ∧ s.earlierUnchecked 0 0 = false ∧ s.fencedTen = [] ∧ s.get fBootMode ≠ 4 ∧ s.dmaFails d = [] ∧ s.pFail d = none ∧
      d.pSide = some (spadAddr 0 0x1000) ∧ (s.core 0).fenced = false ∧
      s.dmaHeld (s.dmaMaps d) (d.dvaSides.flatMap (fun y => d.runs y.1)) = false) ∧
    ((parseDma 0 (some 0) 0x120 (dmaState.spadBytes 0 0x120 32)).any (fun d => dmaState.dmaFails d != []) = true) ∧
    (let s := fillState .admitted 256; let d := fillCmd .admitted 256;
      (s.nextDmaCore 0).bind s.dmaFront = some (0, d) ∧ s.dmaWaits d 256 1 = false ∧ s.remoteTurn 0 = false ∧
      s.remoteUnits d 256 1 = [] ∧ (s.chunkTokens d []).isSome = true ∧ (s.stack 0).slow = false ∧
      s.fencedCore 0 = false ∧ (s.dmaMove d 1 256 []).2 = none ∧ d.op = 1 ∧ d.done ≤ d.total ∧ d.dst % 2 ^ 15 + d.total ≤ 2 ^ 15 ∧
      s.absent 0 = false ∧ s.gone (d.device true 256) = false ∧ s.place (d.device true 256) = .stack 0 0x40200 ∧
      s.burstCond (s.stackKey 0 0x40200) (s.physCh (s.stackKey 0 0x40200)) = .clean) ∧
    (let s := farState; let d := farCmd; let far := s.remoteUnits d 0 2;
      (s.nextDmaCore 0).bind s.dmaFront = some (0, d) ∧ s.dmaWaits d 0 2 = false ∧ s.remoteTurn 0 = false ∧ far.length = 2 ∧
      (s.chunkTokens d far).isSome = true ∧ s.dmaRemote d 0 2 = true ∧ d.retried = false) ∧
    (let s := fillState .moved 512; let d := fillCmd .moved 512;
      (s.dmaOf 0).any (fun e => decide (e.1 < 0 ∧ e.2.st ≠ DmaState.refused) && e.2.overlaps d) = false ∧
      d.task = (s.core 0).task ∧ (s.core 0).mode ≠ .ended ∧ ((s.core 0).ctr (ctrFin 2)).toNat + d.total < 2 ^ 32) := by
  unfold ReadyMid Ready; and_intros <;> decide +kernel

/-- Core 0 with tensor offsets 0x7800, 0x7840, 0x7801 and 2^15 in s1 to s4, the word of a block of zeros in s5, a bad one in s6. -/
def tensorState : State := coreState 64 [(1, 0x7800), (2, 0x7840), (3, 0x7801), (4, 2 ^ 15), (5, 0), (6, 2 ^ 26), (7, 0x4000)]

/-- A TMAC of the two superblocks of zeros at 0 and 0x4000, guard off. -/
def zeroMac : MacOp := ⟨64, 7, true, 0, 0x4000, List.replicate 64 0, List.replicate 64 0, [], 0, 0, 0, 0, none⟩

theorem meets_AccumulatorsAndChecks :
    ((tensorState.core 0).tq = [] ∧ ReadyMid tensorState 0 [1] [15] ∧ 0x7800 % 64 = 0 ∧ tensorState.spadPoison 0 0x7800 2048 = none ∧
      (∀ i : Fin 32, (f16Val ((tensorState.core 0).vreg 15)[i]).isFin = true)) ∧
    (2 ^ 15 ≤ ((tensorState.core 0).sreg 4).toNat ∧ ((tensorState.core 0).sreg 3).toNat % 64 ≠ 0 ∧
      (((tensorState.core 0).sreg 2).toNat % 64 = 0 ∧ 0x7800 < ((tensorState.core 0).sreg 2).toNat)) ∧
    badLane (Vector.ofFn (fun i : Fin 32 => if i = 31 then 0x7C00 else 0)) = some 31 := by
  unfold ReadyMid Ready; and_intros <;> decide +kernel

theorem meets_TensorMultiply :
    (tensorState.pairCheck 0 ((tensorState.core 0).sreg 5) ((tensorState.core 0).sreg 7) = none ∧ ReadyMid tensorState 0 [5, 7] [] ∧
      (tensorState.core 0).tq.length < 3 ∧ (tensorState.core 0).extFree (macIssueReads 0 0x4000) [] = true ∧
      (macIssueReads 0 0x4000).findSome? (fun e => tensorState.spadPoison 0 e.1 e.2) = none ∧
      { (withTenant tensorState).cset 0 (gMode 0) 0 with floors := [(3, 0x54)] }.effMode 0 (macClass (swFmt 0x4000)) 0 = 0 ∧
      tensorState.effMode 0 (macClass (swFmt 0x4000)) 0 ≠ 0 ∧
      ((tensorState.modCore 0 (fun k => { k with tq := [.store 60 0 0x800] })).core 0).extFree (macIssueReads 0 0x4000) [] = false) ∧
    3 ≤ ((tensorState.modCore 0 (fun k => { k with tq := List.replicate 3 (.mac zeroMac) })).core 0).tq.length ∧
    (let s := tensorState.modCore 0 (fun k => { k with tq := [.mac zeroMac] });
      (s.core 0).tq = .mac zeroMac :: [] ∧ (TOp.reads (.mac zeroMac)).findSome? (fun e => s.spadPoison 0 e.1 e.2) = none ∧
      zeroMac.mode ≠ 2) ∧
    (let m := { zeroMac with mode := 2, comp := some (0x2000, List.replicate 64 0) }; m.mode = 2 ∧ m.tile < 8 ∧ m.comp.isSome = true) ∧
    (let ao := mkOperand 0 (fun _ => 0) 0 16; let wo := mkOperand 0 (fun _ => 0) 0 32;
      (estimateRun ao wo ao 0 0 (List.range 8) 0xFFF none).2.isSome = true ∧ (estimateRun ao wo ao 0 0xFFF (List.range 8) 0 none).2 = none) ∧
    (let s := { tensorState.modCore 0 (fun k => { k with tq := [.load 60 7 0x7800] }) with badWords := [(spadAddr 0 0x7FF8, true)] };
      (TOp.load 60 7 0x7800).reads.findSome? (fun e => s.spadPoison 0 e.1 e.2) = some 0x7FF8) := by
  unfold ReadyMid Ready; and_intros <;> decide +kernel

theorem meets_VectorInstructions : ReadyMid tensorState 0 [] [15, 15, 0, 0] ∧ ReadyMid tensorState 0 [31] [15] ∧
    (let o := (BitVec.ofInt 64 (0x7840 + (0x780 : BitVec 16).toInt)).toNat;
      o % 64 = 0 ∧ o ≤ 0x7FC0 ∧ (tensorState.core 0).extFree [(o, 64)] [] = true ∧ (tensorState.core 0).extFree [] [(o, 64)] = true ∧
      tensorState.spadPoison 0 o 64 = none) ∧
    (BitVec.ofInt 64 (0x7801 + (0 : BitVec 16).toInt)).toNat % 64 ≠ 0 ∧
    (let o := (BitVec.ofInt 64 (0x7840 + (0x7C0 : BitVec 16).toInt)).toNat; o % 64 = 0 ∧ 0x7FC0 < o) := by
  unfold ReadyMid Ready; and_intros <;> decide +kernel

/-- A conversion word: destination and source format, superblock scale; format 0 is narrow, 6 is F16, 7 is F32. -/
def convWord (dfmt sfmt scale : Nat) : Word := word [(dfmt, 28), (sfmt, 32), (scale, 48)]

theorem meets_FormatConversions :
    (ReadyMid tensorState 0 [] [15, 15] ∧ ReadyMid tensorState 0 [5] [15] ∧ tensorState.blockCheck 0 ((tensorState.core 0).sreg 5) = none ∧
      (tensorState.core 0).extFree (halfReads 0) [] = true ∧ (halfReads 0).findSome? (fun e => tensorState.spadPoison 0 e.1 e.2) = none) ∧
    (blockWord 0 = none ∧ ((tensorState.modCore 0 (fun k => { k with tq := [.store 60 0 0] })).core 0).extFree (halfReads 0) [] = false) ∧
    blockWord (2 ^ 26) = some (0x02, 2 ^ 26) ∧
    (qcvtWord 1 (convWord 0 6 0x7F00) 0x4000 0 = none ∧ qcvtWord 2 (convWord 6 0 0) 0x4000 0 = none ∧
      qcvtWord 3 (convWord 7 6 0) 0x4000 0 = none ∧
      (tensorState.core 0).extFree [(0, sideSize 6)] [(0x4000, sideSize 0)] = true ∧
      ((tensorState.modCore 0 (fun k => { k with tq := [.store 60 0 0] })).core 0).extFree [(0, sideSize 6)] [(0x4000, sideSize 0)] = false ∧
      tensorState.spadPoison 0 0 (sideSize 6) = none ∧ tensorState.qcvtCheck 0 2 (convWord 6 0 0) 0x4000 0 = none) ∧
    (qcvtWord 1 (convWord 0 6 0x7F00) 0x4001 0 = some (0x03, 0x4001)) := by
  unfold ReadyMid Ready; and_intros <;> decide +kernel

theorem meets_LastWordRaises : (coreState 0x7FFC [(3, 0x7FF8), (4, 1)]).cget 0 cInh = 0 ∧
    ((coreState 0x7FFC [(3, 0x7FF8), (4, 1)]).core 0).pc = 0x7FFC ∧ Ready (coreState 0x7FFC [(3, 0x7FF8), (4, 1)]) 0 [3, 4] [15] ∧
    ((coreState 0x7FFC [(3, 0x7FF8), (4, 1)]).core 0).extFree [(0x7FF8, 8)] [(0x7FF8, 8)] = true ∧
    (coreState 0x7FFC [(3, 0x7FF8), (4, 1)]).spadPoison 0 0x7FF8 8 = none ∧ decide ((0x7FF8 : Nat) = 1) = false := by
  unfold Ready; and_intros <;> decide +kernel

/-- Stack 0 in service, a burst of data at 0x1000; the burst at 0x3000 holds the poison pattern, that at 0x3100 one wrong symbol,
that at 0x3200 forty; control caches hold a dirty, a clean and a poison line. -/
def stackState : State :=
  { (setAll readyState [(fStkState 0, 1), (fStkSpareFor 0, 0x1F), (fCmoAddr 15, 0x40), (fCmoLen 15, 3), (fDomActive, 0x2FFFF)]).setBytes
      0x1000 [1, 2, 3, 4] with
    badBursts := [(0x30, poisonDev), (0x31, [(255, 1)]), (0x32, (List.range 40).map (fun i => (i, 1)))]
    lines := [(0x40, ⟨List.replicate 64 1, true, false⟩), (0x41, ⟨List.replicate 64 2, false, false⟩),
      (0x42, ⟨List.replicate 64 3, true, true⟩)] }

/-- The poison pattern is read as such; no answer comes from it. -/
theorem poison_burst : stackState.burstCond 0x3000 (stackState.physCh 0x3000) = .uncorrectable true := by decide +kernel

theorem poison_reads_none : readsAs stackState 0x3000 = none := by simp [readsAs, poison_burst]

theorem meets_ControlComplex :
    (bitsOf (word [(1, 0), (3, 1)]) 0 0 = 1 ∧ setsReserved (cmoCtl 15) (word [(1, 0), (3, 1)]) = false ∧
      bitsOf (word [(1, 0), (3, 1)]) 2 1 = 3 ∧ stackState.get fBootMode ≠ 4 ∧ stackState.get (fCmoBusy 15) = 0 ∧
      bitsOf (word [(1, 0), (3, 1)]) 3 3 = 0 ∧ 64 * stackState.get (fCmoLen 15) ≠ 0 ∧ stackState.populated 0x1000 0xC0 = true) ∧
    bitsOf (word [(1, 0), (3, 1), (1, 3)]) 3 3 = 1 ∧ (stackState.set (fCmoBusy 15) 1).get (fCmoBusy 15) = 1 ∧
    (readyState.set (fStkState 0) 5).populated 0x1000 0xC0 = false ∧
    (let m : Cmo := ⟨3, 0x40, 0x41, []⟩; let s := { stackState with cmo := [(15, m)] };
      smLookup s.cmo 15 = some m ∧ m.touched = [] ∧ smSorted s.lines = true ∧
      (∀ x ∈ s.lines, m.lo ≤ x.1 → x.1 < m.hi → s.lineWaits x.1 true = false)) ∧
    (stackState.lineServes 0x43 = true ∧ stackState.line 0x43 = none ∧ stackState.lines.length < 196608 ∧
      stackState.lineWaits 0x43 false = false ∧
      stackState.burstCond (stackState.lineKey 0x43) (stackState.physCh (stackState.lineKey 0x43)) = .clean) ∧
    (stackState.lineKey 0xC0 = 0x3000 ∧ stackState.lineServes 0xC0 = true ∧ stackState.line 0xC0 = none ∧ stackState.lineWaits 0xC0 false = false) ∧
    (stackState.lineServes 0x40 = true ∧ stackState.lineServes 0x41 = true ∧ stackState.lineServes 0x42 = true ∧
      stackState.lineWaits 0x40 true = false ∧ stackState.lineWaits 0x41 false = false) ∧
    stackState.line 0x40 = some ⟨List.replicate 64 1, true, false⟩ ∧
    (readsAs stackState (stackState.lineKey 0x40)).isSome = true ∧
    stackState.line 0x42 = some ⟨List.replicate 64 3, true, true⟩ ∧ stackState.line 0x41 = some ⟨List.replicate 64 2, false, false⟩ ∧
    (stackState.cro.running = true ∧ stackState.inSafe = false ∧ stackState.get fDomActive / 2 ^ 17 % 2 = 1) := by
  decide +kernel

theorem meets_StackAccess :
    (readyState.set (fStkState 0) 5).stackReach 0x1000 = none ∧ stackState.stackReach 0x1000 = some (0, 0x1000) ∧ stackState.stackKey 0 0x1000 / 2 ^ 38 = 0 ∧
    stackState.stackWaits (stackState.stackKey 0 0x1000) = false ∧
    (let cond (a : Nat) := stackState.burstCond (stackState.stackKey 0 a) (stackState.physCh (stackState.stackKey 0 a));
      cond 0x1000 = .clean ∧ cond 0x3100 = .corrected [(255, 1)] ∧ cond 0x3200 = .uncorrectable false) ∧
    (0x1000 + 256 ≤ stackState.stackBytes ∧ stackState.runWaits 0 0x1000 256 true = false) ∧
    (readsAs stackState (stackState.stackKey 0 0x10FF)).isSome = true ∧
    { stackState with ueWait := [⟨0, 0, 0x3000, 0, 5, false, 7⟩] }.ueWait = ⟨0, 0, 0x3000, 0, 5, false, 7⟩ :: [] ∧
    (let s := stackState.modStack 0 (fun k => { k with fixes := [0x31] });
      s.place 0x3100 = .stack 0 0x3100 ∧ s.stackOut 0 = false ∧ (s.stack 0).fixes.contains (s.stackKey 0 0x3100 / 256) = true ∧
      s.writeWaits (s.stackKey 0 0x3100) = false) ∧
    (stackState.stack 0).fixes.contains (stackState.stackKey 0 0x3100 / 256) = false := by
  and_intros <;> decide +kernel

theorem meets_StackAccess_bursts :
    (∀ a ∈ [0x3000, 0x3100, 0x3200], stackState.stackReach a = some (0, a) ∧ stackState.stackKey 0 a / 2 ^ 38 = 0 ∧
      stackState.stackWaits (stackState.stackKey 0 a) = false ∧ stackState.writeWaits (stackState.stackKey 0 a) = false ∧
      (stackState.stack 0).fixes.contains (stackState.stackKey 0 a / 256) = false ∧ stackState.runWaits 0 a 8 true = false) := by decide +kernel

theorem meets_StackAccess_parts :
    (stackState.runWaits 0 0x10F8 16 true = false ∧ 0x10F8 / 2 ^ 20 = (0x10F8 + 16 - 1) / 2 ^ 20 ∧
      (List.range (0xF8 + 16)).all (fun o => stackState.burstCond (stackState.stackKey 0 (0x1000 + o))
        (stackState.physCh (stackState.stackKey 0 (0x1000 + o))) == .clean) = true) := by decide +kernel

theorem meets_StackTrainingAndRepair :
    (let s := setAll stackState [(fTsqPhase, 4), (fTsqT, 1000), (fTsqToff, 960), (fStkTbase 0, 6400)];
      s.get (fChDue 0 135) = 0 ∧ s.chDue 0 135 = true ∧ s.get fTsqExt = 0 ∧ s.get fTsqToff + 40 ≤ s.get fTsqT ∧
      (s.stack 0).held = [] ∧ s.sweepDue = false ∧ (s.set (fChDue 0 135) 1).get (fChDue 0 135) = 1) ∧
    (135 ∈ ((stackState.modStack 0 (fun k => { k with held := [135] })).stack 0).held) ∧
    (let s := { (stackState.set (fChDue 0 135) 1).modStack 0 (fun k => { k with dueAt := [(135, 0)] }) with
        seq := { stackState.seq with count := 64 } };
      smLookup (s.stack 0).dueAt 135 = some 0 ∧ 0 + 64 ≤ s.seq.count) ∧
    (stackState.get (fStkState 0) < 4 ∧ (stackState.stack 0).repair = none ∧ stackState.freeSpare 0 = some 128 ∧
      stackState.get (fStkIlv 0 127) < 136 ∧ stackState.get (fStkIlv 0 127) ≠ 128 ∧ stackState.get (fStkSpareFor 0) = 0x1F ∧
      (stackState.stack 0).spareBad = false) ∧
    (let r : Repair := ⟨false, 127, 127, 128, false, [], []⟩;
      let s := (setAll stackState [(fStkTotal 0, 10), (fStkState 0, 2)]).modStack 0 (fun k => { k with repair := some r });
      (s.stack 0).repair = some r ∧ s.get (fStkCopied 0) < s.get (fStkTotal 0) ∧ s.copyHeld 0 r (repairKey 0 r 0) = false ∧
      s.burstCond (repairKey 0 r 0) (s.physCh (repairKey 0 r 0)) = .clean ∧ repairKey 0 r 0 / 256 ∉ r.wrote ∧
      ((s.set (fStkCopied 0) 10).get (fStkTotal 0) ≤ (s.set (fStkCopied 0) 10).get (fStkCopied 0) ∧ (s.stack 0).queue = [] ∧
        r.poisoned = [] ∧ s.stackOut 0 = false ∧ r.old ≠ r.spare)) ∧
    (let r : Repair := ⟨false, 127, 127, 128, true, [], []⟩;
      let s := (setAll stackState [(fStkTotal 0, 10), (fStkState 0, 2)]).modStack 0 (fun k => { k with repair := some r });
      (s.stack 0).repair = some r ∧ s.copyHeld 0 r (repairKey 0 r 0) = false ∧ repairKey 0 r 0 / 256 ∉ r.wrote) := by
  decide +kernel

/-- A retirement word: granule g replaced by g'. -/
def retWord (g g' : Nat) : Word := word [(g, 0), (g', 32), (1, 63)]

theorem meets_GranuleRetirement :
    (255 < stackState.retEntries ∧ bitsOf (retWord 5 9) 61 50 = 0 ∧ bitsOf (retWord 5 9) 31 18 = 0 ∧ bitsOf (retWord 5 9) 63 63 = 1 ∧
      stackState.get (fRetValid 0 255) = 0 ∧ bitsOf (retWord 5 9) 17 0 < stackState.granules ∧ stackState.granuleNamed 0 5 = false ∧
      stackState.granuleNamed 0 9 = false) ∧
    ((stackState.set (fRetValid 0 255) 1).get (fRetValid 0 255) = 1) ∧
    stackState.granules ≤ bitsOf (retWord 0x3FFFF 9) 17 0 ∧
    (let s := setAll stackState [(fRetValid 0 0, 1), (fRetRetired 0 0, 5), (fRetRepl 0 0, 9), (fRetFill 0 0, 1)];
      s.get (fRetValid 0 0) = 1 ∧ s.granuleNamed 0 5 = true ∧ s.get (fRetFill 0 0) = 1 ∧ s.granuleBusy 0 5 = false ∧
      s.granuleBusy 0 9 = false) := by
  decide +kernel

/-- A staged range entry: DVA, pages, target with rights. -/
def staged (lo pages tgt perm : Nat) (s : State) : State :=
  ((s.wr (trnStg 0) (BitVec.ofNat 64 lo)).wr (trnStg 1) (BitVec.ofNat 64 pages)).wr (trnStg 2) (BitVec.ofNat 64 (tgt + perm))

theorem meets_RangeTranslation :
    (let w := word [(1, 0), (127, 8), (23, 16)];
      bitsOf w 1 0 = 1 ∧ bitsOf w 63 21 = 0 ∧ bitsOf w 15 15 = 0 ∧ bitsOf w 7 2 = 0 ∧ bitsOf w 20 16 < 24) ∧
    (bitsOf (word [(1, 0), (24, 16)]) 1 0 = 1 ∧ ¬ bitsOf (word [(1, 0), (24, 16)]) 20 16 < 24) ∧
    bitsOf (word [(2, 0)]) 1 0 = 2 ∧ readyState.get fTrnBusy = 0 ∧ (readyState.set fTrnBusy 1).get fTrnBusy = 1 ∧
    (readyState.trnPending = false ∧ { fillState .admitted 0 with trnUpd := some (3, 0x10000, 0x20000) }.trnPending = true) ∧
    (let s := staged (2 ^ 48 - 0x4000) 4 0x10000 3 (withTenant readyState);
      bitsOf (s.rd (trnStg 1)) 35 0 ≠ 0 ∧ 4096 * bitsOf (s.rd (trnStg 0)) 47 12 + 4096 * bitsOf (s.rd (trnStg 1)) 35 0 ≤ 2 ^ 48 ∧
      bitsOf (s.rd (trnStg 2)) 0 0 = 1 ∧ s.tgtWhole 0x10000 0x4000 = true ∧ s.ctxTgt 3 0x10000 0x4000 = .own) ∧
    (let s := withTenant readyState;
      bitsOf ((staged 0x20000 0 0 0 s).rd (trnStg 1)) 35 0 = 0 ∧ bitsOf ((staged 0x20000 4 0 0 s).rd (trnStg 2)) 2 0 = 0 ∧
      s.trnEntry 3 0 = some ⟨0x10000, 0x20000, 0x40000, true, true, false, false⟩ ∧ 0x10000 < 0x1F000 + 4096 * 4 ∧ 0x1F000 < 0x20000 ∧
      s.tgtWhole (2 ^ 48 - 0x4000) 0x4000 = false ∧ s.ctxTgt 3 (2 ^ 38) 0x4000 = .foreign) ∧
    (setAll (withTenant readyState) [(fRgnValid 2, 1), (fRgnSealed 2, 1), (fRgnStack 2, 1), (fRgnFirst 2, 4), (fRgnNg 2, 2),
      (fRgnMap 2, 8)]).ctxTgt 3 (2 ^ 38 + 4 * 2 ^ 20) 0x4000 = .commons := by
  decide +kernel

/-- A fault record of task 0 for tenant 3's queue, and one that no task keeps. -/
def heldRecord (kept : Bool) : FaultWait := ⟨3, some 0, List.replicate 8 5, kept⟩

/-- Task 0 of tenant 3 with record l pending and fault 7 open. -/
def faultState (l : List FaultRec) : State :=
  { setAll sendState [(fTsqPhase, 1), (fTsqTick, 9)] with
    faultWait := [heldRecord true], tasks := [(0, { Task.fresh with open_ := [(7, 2, 0)], pend := l, faultTick := 9 })] }

theorem meets_Faults :
    ((faultState []).faultWait.find? (fun y => y.queue == 3) = some (heldRecord true) ∧ (heldRecord true).words.length = 8 ∧
      [] = (faultState []).faultWait.erase (heldRecord true) ∧ (faultState []).faultUsed 3 < 256 ∧ (heldRecord false).kept = false) ∧
    256 ≤ (setAll (faultState []) [(fFltProd 3, 0), (fFltCons 3, 2 ^ 32 - 256)]).faultUsed 3 ∧
    (let step := (bitsOf (word [(256, 0)]) 31 0 + 2 ^ 32 - (faultState []).get (fFltCons 3)) % 2 ^ 32;
      (faultState []).faultUsed 3 < step ∧ step ≤ ((faultState []).set (fFltProd 3) 256).faultUsed 3) ∧
    (let s := faultState [List.replicate 8 5];
      s.loaded 0 = true ∧ s.tdTenant 0 = 3 ∧ (s.task 0).pend = List.replicate 8 5 :: [] ∧ s.loaded 1 = false) ∧
    (let s := setAll (faultState [List.replicate 8 5]) [(fTstState 0, 5), (fTstFpend 0, 1)];
      s.sweepOrder 3 = [0] ∧ s.flag (fTstFpend 0) = true ∧ s.faultUsed 3 + 1 ≤ 256) ∧
    (let s := (faultState []).set (fTstState 0) 5;
      s.faultTask 3 8 = none ∧ s.faultTask 3 7 = some 0 ∧ (s.task 0).open_.filter (fun x => x.1 != 7) = [] ∧ s.tstate 0 = 5 ∧
      s.get fTsqPhase < 4 ∧ (s.task 0).faultTick = s.get fTsqTick ∧ (s.task 0).dropped = false ∧ (s.task 0).discarded = false ∧
      4 ≤ (s.set fTsqPhase 4).get fTsqPhase) ∧
    (let s := { faultState [] with tasks := [(0, { Task.fresh with open_ := [(7, 2, 0), (8, 2, 0)] })] };
      (s.task 0).open_.filter (fun x => x.1 != 7) ≠ []) ∧
    (let s := { faultState [] with tasks := [(0, { Task.fresh with mustPark := true })] };
      (s.task 0).mustPark = true ∧ s.tstate 0 = 3 ∧ (s.task 0).open_ = [] ∧ (s.core 0).mode = .running) ∧
    ((List.replicate 8 (5 : Word)).length = 8 ∧ (setAll (faultState []) [(fTstState 0, 3)]).tstate 0 = 3 ∧
      ((faultState []).task 0).open_ ≠ []) := by
  decide +kernel

theorem meets_Faults_none : ∀ k, (State.reset.task k).pend = [] := fun _ => rfl

/-- The package's sequencer in phase p at offset o of tick 7, with w as the next word of its program. -/
def seqState (p o : Nat) (w : Word) (s : State) : State :=
  (setAll s [(fTsqPhase, p), (fTsqToff, o), (fTsqTick, 7)]).wr (tsqProg 0 0) w

theorem meets_SequencerMoments :
    (let s := { setAll readyState [(fTsqPhase, 5)] with seq := { Seq.init with bankOk := true } };
      s.get fTsqPhase = 5 ∧ s.seq.bankOk = true ∧ s.get fBootMode ≠ 4 ∧ Seq.init.bankOk = false) ∧
    (let w := word [(1000, 0), (20, 32)]; let T := bitsOf w 19 0; let G := bitsOf w 51 32;
      bitsOf w 63 52 = 0 ∧ bitsOf w 31 20 = 0 ∧ 1000 ≤ T ∧ T ≤ 1000000 ∧ T ≤ 50 * G ∧ 2 * G ≤ T) ∧
    ¬ 1000 ≤ bitsOf (word [(999, 0), (20, 32)]) 19 0 ∧
    (let w := word [(8, 0), (50, 8)]; bitsOf w 63 16 = 0 ∧ bitsOf w 7 4 = 0 ∧ bitsOf w 15 8 ≤ 50 ∧ bitsOf w 3 0 ≤ 8) ∧
    50 < bitsOf (word [(51, 8)]) 15 8 ∧ readyState.admits = false ∧
    (let s := { setAll readyState [(fTsqPhase, 1), (fTsqRun, 1)] with seq := { Seq.init with bankOk := true } }; s.admits = true) ∧
    (readyState.get fTsqSwap = 0 ∧ (readyState.set fTsqSwap 1).get fTsqSwap = 1 ∧
      (readyState.structureCheck (1 - readyState.get fTsqBank)).code ≠ 0) ∧
    (let s := (readyState.set fTsqSwap 1).wr (tsqProg 1 0) (word [(0x0A, 56)]);
      s.get fTsqSwap = 1 ∧ s.seq.swapOk = false ∧ (s.structureCheck (1 - s.get fTsqBank)).code = 0 ∧
      (s.judgeBank (1 - s.get fTsqBank) s.nextEnv).code = 0 ∧ s.get fTsqPhase = 5 ∧ (s.set fTsqPhase 1).get fTsqPhase ≠ 5 ∧
      (readyState.judgeBank 1 readyState.nextEnv).code ≠ 0) ∧
    (let s := { seqState 2 100 0 sendState with fell := [.dom 5], seq := { Seq.init with bankOk := true } };
      s.fell = .dom 5 :: [] ∧ s.get fTsqPhase ≠ 5 ∧ s.seq.bankOk = true) ∧
    (let s := seqState 2 32666 0 sendState;
      s.get fTsqPhase ≠ 5 ∧ s.loadedTasks = [0] ∧ s.loadedTasks.Nodup ∧ s.seq.inGuard = false ∧
      s.get fTsqT - s.get fTsqGuard ≤ s.get fTsqToff ∧ s.tstate 0 = 3 ∧ s.tdPolicy 0 = 0) ∧
    (let s := { seqState 4 33333 0 sendState with seq := { Seq.init with inGuard := true, waitAt := some 33333 } };
      s.seq.inGuard = true ∧ s.seq.late = false ∧ s.get fTsqT - (s.get fTsqGuard + 3) / 4 ≤ s.get fTsqToff ∧
      s.get fTsqT ≤ s.get fTsqToff ∧ s.seq.waitAt = some 33333) := by
  decide +kernel

theorem meets_TickProgram :
    (seqState 2 100 (word [(1, 56), (2, 0)]) sendState).program? 0x01 = some (word [(1, 56), (2, 0)]) ∧
    (∀ op ∈ [2, 3, 7, 8, 10], (seqState 2 100 (word [(op, 56)]) sendState).program? op = some (word [(op, 56)])) ∧
    ((seqState 2 100 (word [(4, 56), (3, 16)]) sendState).complete 0 = false ∧
      ((seqState 2 100 (word [(4, 56), (3, 16)]) sendState).set (fTstState 0) 4).complete 0 = true) ∧
    (let w := word [(5, 56)];
      let s := { (seqState 3 100 w sendState).set (fTstState 0) 4 with seq := { Seq.init with phase := 3 } };
      s.program? 0x05 = some w ∧ s.seq.phase = 3 ∧ s.loadedTasks = [0] ∧ bitsOf w 9 0 ≤ 0 ∧ 0 ≤ bitsOf w 25 16 ∧ s.tstate 0 = 4 ∧
      (s.task 0).carried ≠ some (s.get fTsqTick) ∧ s.flag (fTstMism 0) = false ∧ (s.set (fTstMism 0) 1).flag (fTstMism 0) = true) ∧
    (bitsOf (word [(6, 56), (100, 0)]) 19 0 ≤ (seqState 2 100 (word [(6, 56), (100, 0)]) sendState).get fTsqToff ∧
      (seqState 2 100 (word [(6, 56), (101, 0)]) sendState).get fTsqToff < bitsOf (word [(6, 56), (101, 0)]) 19 0) ∧
    (let s := { setAll (seqState 2 100 (word [(9, 56)]) sendState) [(fClkEn 23, 1), (fClkRun 23, 1), (fSiteState (peerSite 1), 2),
        (fTwnRole, 1), (fTwnState, 2), (fTwnPort, 1)] with peers := { sendState.peers with lanes := [8, 8, 8, 8] } };
      s.program? 0x09 = some (word [(9, 56)]) ∧ s.get fTwnRole = 1 ∧ s.paired = true ∧
      (∀ i ∈ s.mirrorItems, s.engineHeld (s.itemRun i).1 (s.itemRun i).2.1 (s.itemRun i).2.2 false = false)) ∧
    (seqState 2 100 (word [(9, 56)]) sendState).get fTwnRole ≠ 1 := by
  decide +kernel

theorem meets_TasksAndSlots :
    (let s := setAll sendState [(fTsqPhase, 1), (fTstState 0, 2)];
      s.get fTsqPhase ≠ 5 ∧ s.nextBound = some 0 ∧ s.imageHeld 0 = false ∧ (s.task 0).resumes = false ∧ (s.group 0).Nodup ∧
      (∀ c ∈ s.group 0, isCore c = true ∧ s.absent c = false)) ∧
    (let s := { setAll sendState [(fTsqPhase, 1), (fTstState 0, 5)] with tasks := [(0, { Task.fresh with resumes := true })] };
      s.nextBound = some 0 ∧ (s.task 0).resumes = true ∧ (s.task 0).aborted = false) ∧
    ((sendState.tdDoms 0)[(sendState.task 0).waves]? = some 5 ∧ sendState.tstate 0 = 3) ∧
    ({ sendState with tasks := [(0, { Task.fresh with draining := true })] }.groupQuiet 0 = true) ∧
    (let w := word [(1, 0)]; bitsOf w 63 26 = 0 ∧ bitsOf w 15 2 = 0 ∧ bitsOf w 25 16 = 0 ∧ bitsOf w 1 0 = 1 ∧
      sendState.flag fTcmdBusy = false ∧ sendState.loadCode 0 ≠ 0 ∧ (sendState.set (fTstState 0) 0).loadCode 0 = 0 ∧
      ((sendState.set (fTstState 0) 0).readDva 3 0x10000 64).2.isSome = true ∧ (sendState.set (fTstState 0) 0).imageHeld 0 = false ∧
      ((sendState.set (fTstState 0) 0).set (fStkHold 0) 1).imageHeld 0 = true) ∧
    (bitsOf (word [(2, 0)]) 1 0 = 2 ∧ (sendState.set (fTstState 0) 1).bankNames 0 = false ∧
      (sendState.set fTcmdBusy 1).flag fTcmdBusy = true ∧ (sendState.set (fTstState 0) 0).loaded 0 = false ∧
      (sendState.set (fTstState 0) 0).tdCode 0 = 0 ∧ sendState.tdCode 0 = 0 ∧ sendState.tdCode 1 ≠ 0) ∧
    (let w := word [(1, 0), (3, 4)]; let s := setAll readyState [(fSlotValid 63, 1), (fSlotTenant 63, 4)];
      bitsOf w 63 8 = 0 ∧ bitsOf w 3 2 = 0 ∧ s.get (fSlotValid 63) = 1 ∧ bitsOf w 7 4 ≠ s.get (fSlotTenant 63) ∧
      s.get (fSlotValid 62) = 0 ∧ s.slotNamed 62 = false) ∧
    (readyState.place (recKey 3) = .ctx 3072 ∧ 3072 % 8 = 0 ∧ 3076 % 8 ≠ 0 ∧ readyState.recordNamed 3 = false ∧
      (withTask 0 (sendState.wr (tsqTd 0 9) (word [(3, 0), (1, 14), (1, 28), (0x2000, 36)]))).recordNamed 3 = false ∧
      (sendState.wr (tsqTd 0 9) (word [(3, 0), (1, 14), (1, 28), (0x2000, 36)])).recordNamed 3 = true) := by
  decide +kernel

/-- A packet header's first word: type, sites, tenant, label (11 R379). -/
def pktWord (ty src dst u l : Nat) : Word := word [(ty, 16), (src, 24), (dst, 30), (u, 36), (l, 40)]

/-- A packet at a place, with tag 9 in its third header word. -/
def pktAt (ty src dst : Nat) (loc : PktAt) (tries : Nat) (bad : Bool) : Packet :=
  ⟨[pktWord ty src dst 3 4, word [(2 ^ 38, 0)], word [(9, 48)], 0], [], loc, true, bad, tries⟩

/-- The hub of a ready package with these packets, all clocks of quadrant 0 running. -/
def hubState (pkts : List (Nat × Packet)) : State :=
  { setAll (withTenant readyState) [(fClkRun 1, 1), (fClkRun 2, 1), (fClkEn 5, 1), (fClkRun 5, 1), (fClkEn 6, 1), (fClkRun 6, 1),
      (fTsqPhase, 4), (fXwgState 0, 1), (fXwgLmap 0, 0x3FFFFFFF)] with hub := { HubNet.init with pkts := pkts }, nextId := 9 }

theorem meets_HubTraffic :
    (pktVc 0 = none ∧ pktVc 0x3F = none) ∧
    (let w0 := pktWord 2 0 5 3 4; let s := hubState [];
      pktVc (bitsOf w0 21 16) = some 1 ∧ pktLenOk 2 0 = true ∧ pktAsks 2 = true ∧ 0 < s.olEff 0 4 ∧ s.fencedTen.contains 3 = false ∧
      s.pktRes 5 (2 ^ 38) = none ∧ slotFor s 0 1 3 = true ∧ { s with fencedTen := [3] }.fencedTen.contains 3 = true ∧
      s.portTenant 2 0 (2 ^ 38) 0 = 3 ∧ (s.takeTokens 0 3 4 false false 0 0 1024).isSome = true) ∧
    -- an answer that site 5 owes site 0, first at its resource, and one that stands behind another
    (let o : Owed := ⟨5, 0, 2, 9, 4, none, 3, false⟩; let o1 : Owed := ⟨5, 0, 8, 9, 0, some 5, 3, false⟩;
      let o2 : Owed := ⟨5, 0, 8, 10, 0, some 5, 3, false⟩;
      let s := { hubState [] with hub := { HubNet.init with owed := [o, o1, o2] } };
      pktAsks 3 = false ∧ s.owedBy 5 0 3 9 = some o ∧ s.serves o = true ∧ slotFor s 5 (pktVc 3).get! 3 = true ∧
      s.owedBy 5 0 9 10 = some o2 ∧ s.serves o2 = false) ∧
    (let s := hubState [(0, pktAt 2 0 1 .site 0 false)];
      (s.served 0 4 = some (0, pktAt 2 0 1 .site 0 false)) ∧ s.linkOpen 0 4 = true ∧ s.served 0 5 = none) ∧
    (let x := pktAt 2 0 1 (.router 1 3) 0 false; let s := hubState [(0, x)];
      s.served 1 7 = some (0, x) ∧ s.linkOpen 1 7 = true ∧ pktAsks x.type = true ∧ pktAnswers x.type = false ∧
      s.selfAnswers 1 x = false ∧ x.tries < 3 ∧ { x with bad := true }.type = 2 ∧ s.selfAnswers 1 { x with bad := true } = true ∧
      s.answerSlot 1 { x with bad := true } = true) ∧
    -- a site of a memory region's stack, whose queue serves more than one partition, holds ten answers of the partition
    (let x := { pktAt 2 0 1 (.router 1 3) 0 true with hdr := [pktWord 2 0 1 3 4, 0, word [(9, 48)], 0] };
      let ans (i : Nat) : Nat × Packet := (i, ⟨[word [(0x0B, 16), (1, 24), (3, 36), (x.errorVc, 22)]], [], .site, true, false, 0⟩);
      let s := setAll { hubState [] with hub := { HubNet.init with pkts := (List.range 10).map ans ++ [(10, x)] } }
        [(fRgnValid 2, 1), (fRgnSealed 2, 1), (fRgnStack 2, 1)];
      s.served 1 7 = some (10, x) ∧ s.selfAnswers 1 x = true ∧ s.answerSlot 1 x = false) ∧
    (let x : Packet := ⟨[pktWord 8 0 1 3 4, word [(2 ^ 38, 0), (1, 48)], word [(9, 48)], 0], [], .router 1 3, true, false, 0⟩;
      let s := setAll (hubState [(0, x)]) [(fClkRun (siteDom 1), 0), (fClkRun 17, 1)];
      s.served 1 7 = some (0, x) ∧ s.linkOpen 1 7 = false ∧ s.stackPort 1 x = true) ∧
    (let x := pktAt 3 1 0 (.router 0 1) 3 false;
      let s := { hubState [(0, x)] with hub := { HubNet.init with pkts := [(0, x)], awaits := [⟨0, 2, false, 4, 3, none, 9, 0⟩] } };
      s.served 0 7 = some (0, x) ∧ pktAsks x.type = false ∧ pktAnswers x.type = true ∧ 3 ≤ x.tries ∧ s.get fBootMode ≠ 4 ∧
      s.hub.awaits.find? (fun a => decide (a.site = 0 ∧ a.tag = x.tag) && (pktAnsweredBy a.type).contains x.type) =
        some ⟨0, 2, false, 4, 3, none, 9, 0⟩) ∧
    (let s := hubState []; neighbour 0 1 ≠ none ∧ s.get fBootMode ≠ 2 ∧ s.get (fSpw 0 1) < 8 ∧
      8 ≤ (s.set (fSpw 0 1) 8).get (fSpw 0 1) ∧ s.get (fWid 0 1) < 2 ∧ 2 ≤ (s.set (fWid 0 1) 2).get (fWid 0 1)) ∧
    (let s := hubState []; s.get (fXwgLmap 0) / 2 ^ 29 % 2 = 1 ∧ s.get (fXwgState 0) = 1 ∧ s.guideN 0 = 30 ∧
      s.get (fXwgLmap 0) / 2 ^ 31 % 2 = 0 ∧ (s.set (fXwgLmap 0) 0x1FFFFFFF).guideN 0 ≠ 30 ∧ (s.set (fXwgState 0) 4).get (fXwgState 0) = 4) ∧
    (let s := hubState []; s.hub.held.contains 1 = false ∧ neighbour (1 / 8) (1 % 8) ≠ none ∧
      { s with hub := { s.hub with held := [1] } }.hub.held.contains 1 = true) := by
  and_intros <;> decide +kernel

/-- A word of SLGg: valid, tenant, resource, label, rate (11 R410). -/
def guarWord (v u res l rate : Nat) : Word := word [(v, 63), (l, 59), (u, 55), (res, 48), (rate, 32)]

/-- Label 4 stands with target 100, 20 outstanding and best effort 5; tenant 3's last 64 requests of it were late. -/
def labelState : State :=
  { (withTenant readyState).wr (slrCfg 4) (word [(100, 48), (20, 32), (5, 16)]) with
    labels := [(4, word [(100, 48), (20, 32), (5, 16)])]
    hub := { HubNet.init with awaits := [⟨0, 2, false, 4, 3, some 1, 9, 0⟩], times := [(4, List.replicate 64 (20000, 3))] } }

theorem meets_LabelsAndEvents :
    ((⟨0, 2, false, 4, 3, some 1, 9, 0⟩ : Await) ∈ labelState.hub.awaits ∧ 3 * 8 < 4 * 7 ∧ 4 * 1 < 8) ∧
    (smGetD labelState.hub.times [] 4 = (20000, 3) :: List.replicate 63 (20000, 3) ∧
      labelState.targetTime 4 * (labelState.labelTimes 0 4).2 < (labelState.labelTimes 0 4).1 ∧
      labelState.hub.told.contains (8 * 3 + 4) = false) ∧
    (let w := word [(100, 48), (20, 32), (5, 16)]; setsReserved (slrCfg 7) w = false ∧ bitsOf w 63 48 ≠ 0 ∧ bitsOf w 39 32 ≠ 0 ∧
      bitsOf (0 : Word) 63 48 = 0 ∧ setsReserved (slrCfg 7) 0 = false) ∧
    (labelState.get fAdmBusy = 0 ∧ (labelState.set fAdmBusy 1).get fAdmBusy = 1 ∧ setsReserved (slg 127) (guarWord 1 3 0x38 4 100) = false ∧
      bitsOf (guarWord 1 3 0x38 4 100) 63 63 = 1 ∧ labelState.guarValid (guarOf 127 (guarWord 1 3 0x38 4 100)) = true ∧
      labelState.guarValid (guarOf 127 (guarWord 1 3 0x3C 4 100)) = false ∧
      labelState.guarFail labelState.capEnv [guarOf 127 (guarWord 1 3 0x38 4 100)] = none ∧
      labelState.guarFail labelState.resultEnv [guarOf 127 (guarWord 1 3 0x38 4 100)] = none ∧
      (labelState.guarFail labelState.capEnv [guarOf 127 (guarWord 1 3 0x38 4 65535)]).isSome = true ∧ bitsOf (guarWord 0 3 0x38 4 100) 63 63 = 0) ∧
    (labelState.flag (fLupTown 63 3) = false ∧ setsReserved (lupCtl 63 3 + 8) 0 = false ∧
      (setAll labelState [(fLupTown 63 3, 1), (fLupOwner 63 3, 15)]).get (fLupOwner 63 3) = 15) ∧
    (let ws : List Word := word [(0x20, 16), (32, 8)] :: List.replicate 31 7;
      ws.length ≤ 32 ∧ bitsOf (ws.headD 0) 15 8 = ws.length ∧ priorityTypes.contains (bitsOf (ws.headD 0) 23 16) = true ∧
      readyState.ringUsed 16 true + ws.length + 1 ≤ ringSize 16 true ∧
      ¬ (readyState.set (fProd 16 true) (ringSize 16 true - 32)).ringUsed 16 true + ws.length + 1 ≤ ringSize 16 true) ∧
    priorityTypes.contains 0x01 = false ∧
    (bitsOf (0 : Word) 63 32 = 0 ∧ readyState.onBoundary 3 true 1 0 0 0 = true ∧ ¬ 1 ≤ readyState.ringUsed 3 true) ∧
    (readyState.evqLive 16 16383 = false ∧ (readyState.set (fProd 3 true) 1).evqLive 3 0 = true) := by
  decide +kernel

/-- Open site 2 active, with nodes 7 (that accepts) and 9, granted to tenant 3, which may send to cores 1 to 8 from node 7. -/
def openState : State :=
  let s := setAll (withTenant readyState) [(fOsLstate 2, 3), (fOsNodes 2, 2), (fGrantEn 2 3, 1), (fGrantPtask 2 3, 5),
    (fPermValid 3 0, 1), (fPermSite 3 0, 2), (fPermLo 3 0, 1), (fPermHi 3 0, 8), (fOsTjMax 2, 90), (fOsLevel 2, 2), (fOsMods 2, 15),
    (fSiteType (openSite 2), 1)]
  { ((s.wr (osDesc 2 4) (word [(7, 0), (1, 20)])).wr (osDesc 2 5) (word [(9, 0)])).wr (osDesc 2 3) (word [(16, 0)]) with
    opens := [(2, { OpenSite.init with link := true, hubCred := 8, feat := 0xF, rails := true, released := true })] }

/-- Site 2's record changed. -/
def withOpen (f : OpenSite → OpenSite) (s : State) : State := s.modOpen 2 f

/-- A guest's message: type, class, node, tag, address, count, status and body (12 R427, R428). -/
def bmlWords (ty cls node tag addr n st : Nat) (body : List Word) : List Word :=
  [word [(1, 0), (body.length + 2, 8), (ty, 16), (cls, 24), (node, 32), (tag, 48)], word [(addr, 0), (n, 48), (st, 60)]] ++ body

/-- A core's message of two words to node 7 of site 2, with number 4. -/
def openMsg (kind : MsgKind) : Msg :=
  { phys := none, gateOut := none, gateIn := none, route := [], kind := kind, src := 5, task := some 0, dst := nodeDest 2 7, roff := 0x40, len := 16,
    ctr := 3, lofs := 0, rd := 0, cmp := 0, data := List.replicate 16 9, req := 4 }
def openNet (kind : MsgKind) (ins : List BmlIn) (outs : List BmlOut) : State :=
  withOpen (fun o => { o with ins := ins, outs := outs }) { openState with net := [(4, openMsg kind)], nextId := 5 }

theorem meets_OpenSiteMessages :
    (let s := openNet .send [] [];
      destKind (openMsg .send).dst = 1 ∧ destSite (openMsg .send).dst = 2 ∧ s.msg 4 = some (openMsg .send) ∧ (s.opn 2).outs = [] ∧
      Serves s 2 ∧ s.nodeEntry 2 7 = some (word [(7, 0), (1, 20)]) ∧ bitsOf (word [(7, 0), (1, 20)]) 20 20 = 1 ∧ (s.opn 2).feat % 2 = 1 ∧
      SendsNext s 2 4 (openMsg .send) ∧ TagFree s 2 ∧ s.nodeEntry 2 8 = none ∧ (s.opn 2).hubCred = 8 ∧
      ((withOpen (fun o => { o with hubCred := 0 }) s).opn 2).hubCred = 0) ∧
    (let ws := bmlWords 1 0 7 0x55 (0x40 + 3 * 2 ^ 15) 1 0 [1, 2]; let m := bmlOf ws;
      Sent openState 2 ws 1 ∧ Sent openState 2 (bmlWords 2 0 7 0x56 (0x40 + 3 * 2 ^ 15) 1 0 []) 2 ∧
      (openState.nodeError 2 m.node 100 (m.addr % 2 ^ 15) 16).isSome = true ∧ openState.nodeError 2 m.node 0 (m.addr % 2 ^ 15) 16 = none) ∧
    (let ins : List BmlIn := [⟨0x55, 7, 1, 4, [], 0, 0⟩]; (openNet .ack ins []).msg 4 = some (openMsg .ack) ∧
      ((openNet .ack ins []).opn 2).ins.find? (fun x => x.msg == 4 && decide (x.type ≤ 2)) = some ⟨0x55, 7, 1, 4, [], 0, 0⟩) ∧
    (let outs : List BmlOut := [⟨9, 2, 4, 1⟩]; let s := openNet .recvReq [] outs;
      (s.opn 2).outs.find? (fun y => y.tag == (bmlOf (bmlWords 3 1 7 9 0 1 0 [5, 6])).tag) = some ⟨9, 2, 4, 1⟩ ∧
      Sent s 2 (bmlWords 3 1 7 9 0 1 0 [5, 6]) 3 ∧ Sent s 2 (bmlWords 5 1 7 9 0 0 6 []) 5 ∧
      Sent (openNet .send [] [⟨9, 1, 4, 1⟩]) 2 (bmlWords 4 1 7 9 0 0 0 []) 4) ∧
    (openState.bmlBad 2 (bmlWords 1 1 7 0x55 0 1 0 [1, 2]) = true) := by
  unfold Serves Sent SendsNext TagFree; and_intros <;> decide +kernel

/-- The context of site 2 maps 0x10000 to the tenant's stack memory and 0x20000 to the first core's scratchpad. -/
def nodeMapped : State :=
  setAll openState [(fTrnValid 18 0, 1), (fTrnDva 18 0, 0x10), (fTrnPages 18 0, 1), (fTrnTgt 18 0, 0x40), (fTrnR 18 0, 1), (fTrnW 18 0, 1),
    (fTrnA 18 0, 1), (fTrnValid 18 1, 1), (fTrnDva 18 1, 0x20), (fTrnPages 18 1, 1), (fTrnTgt 18 1, 2 ^ 32), (fTrnR 18 1, 1),
    (fTrnW 18 1, 1), (fTrnA 18 1, 1), (fClkEn 5, 1), (fClkRun 5, 1)]

theorem meets_OpenSiteMemory_reached :
    (let s := { nodeMapped.set (fStkState 0) 5 with fencedTen := [3] };
      (s.extCheck 18 .read 0x10000 32).map ExtFail.cause = some 6 ∧ s.extFenced 18 0x10000 32 = true) ∧
    -- 0x20FF8 lies in the first core's scratchpad, which is present, or absent
    (nodeMapped.extCheck 18 .read 0x20FF8 8 = none ∧ nodeMapped.extFenced 18 0x20FF8 8 = false ∧ 0x20FF8 % 4096 + 8 ≤ 4096 ∧
      nodeMapped.translate 18 0x20FF8 = some (spadAddr 0 0xFF8) ∧ nodeMapped.place (spadAddr 0 0xFF8) = .core 0 0xFF8 ∧
      nodeMapped.spadPoison 0 0xFF8 8 = none ∧ nodeMapped.noCore 0 = false ∧
      Sent nodeMapped 2 (bmlWords 6 0 7 0x60 0x20FF8 0 0 []) 6 ∧ nodeMapped.nodeHeld 2 (bmlWords 6 0 7 0x60 0x20FF8 0 0 []) = false ∧
      (nodeMapped.set (fAbsent 0 0 0) 1).noCore 0 = true ∧ (nodeMapped.set (fAbsent 0 0 0) 1).extCheck 18 .read 0x20FF8 8 = none) := by
  unfold Sent Serves; and_intros <;> decide +kernel

theorem meets_OpenSiteMemory :
    (let ws := bmlWords 6 0 7 0x60 0x10000 3 0 []; let wr := bmlWords 8 0 7 0x61 0x10FF0 1 0 [5, 6]; let am := bmlWords 0xA 0 7 0x62 0x10FF8 0 1 [5, 6];
      Sent nodeMapped 2 ws 6 ∧ Sent nodeMapped 2 wr 8 ∧ Sent nodeMapped 2 am 0x0A ∧ nodeMapped.nodeHeld 2 ws = false ∧
      nodeMapped.nodeHeld 2 wr = false ∧ nodeMapped.nodeHeld 2 am = false ∧ nodeMapped.extCheck 18 .read 0x10000 32 = none ∧
      nodeMapped.extCheck 18 .write 0x10FF0 16 = none ∧ nodeMapped.extCheck 18 .atomic 0x10FF8 8 = none ∧
      nodeMapped.extFenced 18 0x10000 32 = false ∧ { nodeMapped with fencedTen := [3] }.extFenced 18 0x10000 32 = true ∧
      (nodeMapped.extCheck 18 .read 0x90000 32).map ExtFail.cause = some 1 ∧
      ((nodeMapped.extRead 18 0x10000 32 []).2 matches .ok _) = true) := by
  unfold Sent Serves; and_intros <;> decide +kernel

theorem meets_OpenSiteMemory_windows :
    (let s := withOpen (fun o => { o with ins := [⟨9, 7, 6, 0, List.replicate 1032 5, 0, 0⟩, ⟨10, 7, 8, 0, [], 1, 3⟩] }) openState;
      ((s.opn 2).ins.find? (fun x => x.tag == 9 && x.type == 6)).map (fun i => i.data.length) = some 1032 ∧
      (s.opn 2).ins.find? (fun x => x.tag == 10 && (x.type == 8 || x.type == 0x0A)) = some ⟨10, 7, 8, 0, [], 1, 3⟩) ∧
    (((withOpen (fun o => { o with hubCred := 0 }) openState).opn 2).hubCred = 0 ∧ (openState.opn 2).hubCred ≠ 0 ∧ nodeMapped.cro.running = true) ∧
    (Serves openState 2 ∧ ¬ Serves (openState.set (fOsLstate 2) 5) 2 ∧ (openState.opn 2).feat / 4 % 2 = 1 ∧ TagFree openState 2 ∧
      1024 ≤ openState.windowBytes 2 ∧ ¬ openState.windowBytes 2 < (openState.windowBytes 2 - 8) + 8 ∧
      openState.windowBytes 2 < openState.windowBytes 2 + 8) ∧
    (let s := withOpen (fun o => { o with outs := [⟨9, 0x0B, 0, 1⟩] }) openState; Sent s 2 (bmlWords 0x0C 1 0 9 0 1 0 [7, 8]) 0x0C) ∧
    (let s := withOpen (fun o => { o with outs := [⟨9, 0x0D, 0, 1⟩] }) openState; Sent s 2 (bmlWords 0x0E 1 0 9 0 0 0 []) 0x0E) ∧
    (let s := ((nodeMapped.wr (fltRec 16 0 0) (word [(3, 24), (18, 40)])).wr (fltRec 16 0 1) 77).wr (fltRec 16 0 2) (word [(0x10010, 0)]);
      bitsOf (s.rd (fltRec 16 0 0)) 31 24 = 3 ∧ bitsOf (s.rd (fltRec 16 0 1)) 31 0 = 77 ∧
      s.translate (bitsOf (s.rd (fltRec 16 0 0)) 44 40) (bitsOf (s.rd (fltRec 16 0 2)) 47 0) = some 0x40010 ∧
      s.ownerAt 0x40010 = some 3 ∧ s.faultUsed 3 < 256) := by
  unfold Serves Sent TagFree; and_intros <;> decide +kernel

/-- Site 2 in link state n with its chiplet released, before the link is up; with the guest's descriptor judged. -/
def linkDown (n : Nat) : State := withOpen (fun o => { o with link := false }) (openState.set (fOsLstate 2) n)
def judged (c : Nat) : State := withOpen (fun o => { o with dack := some c }) (openState.set (fOsLstate 2) 2)

theorem meets_OpenSiteLink :
    (let s := withOpen (fun o => { o with rails := false, due := true }) openState;
      (s.opn 2).due = true ∧ (s.opn 2).rails = false ∧ s.get fBootMode < 2 ∧ 5 ∈ s.cro.ended ∧ s.openCarries 2 = true ∧
      (s.set (fSiteType (openSite 2)) 2).openCarries 2 = false) ∧
    ((linkDown 1).get (fOsLstate 2) = 1 ∧ (linkDown 1).opn 2 = { (openState.opn 2) with link := false } ∧ 
      max ((linkDown 1).bondCode (openSite 2)) (moduleWidth (bitCount (moduleSet 7) 4)) ≠ 3 ∧ moduleWidth (bitCount (moduleSet 0) 4) = 3 ∧
      ucieRate 32 ((linkDown 1).get (fOsRateMax 2)) ≠ 0 ∧ ucieRate 0 ((linkDown 1).get (fOsRateMax 2)) = 0) ∧
    (openState.get (fOsLstate 2) = 3 ∧ openState.get (fOsMods 2) / 2 ^ 3 % 2 = 1 ∧ moduleSet (openState.get (fOsMods 2) - 2 ^ 3) ≠ 0 ∧
      (openState.set (fOsMods 2) 8).get (fOsMods 2) / 2 ^ 3 % 2 = 1 ∧ moduleSet ((openState.set (fOsMods 2) 8).get (fOsMods 2) - 2 ^ 3) = 0) ∧
    ((judged 0).get (fOsLstate 2) = 2 ∧ (judged 0).opn 2 = { openState.opn 2 with dack := some 0 } ∧
      ((judged 3).opn 2).dack = some 3) ∧
    (let s := openState.set (fOsLstate 2) 2; let ws := bmlWords 0x10 0 0 0 0 0 0 (word [(1, 0), (5, 8), (1, 16)] :: List.replicate 4 9);
      s.get (fOsLstate 2) = 2 ∧ s.bmlBad 2 ws = false ∧ (bmlOf ws).type = 0x10 ∧ (s.opn 2).dack = none) ∧
    (let ws (t : Nat) := bmlWords 0x13 0 0 0 0 0 0 [BitVec.ofNat 64 t]; Sent openState 2 (ws (93 * 64)) 0x13 ∧
      signed16 (93 * 64) = ((openState.get (fOsTjMax 2) : Nat) + 3) * 64 ∧ signed16 (85 * 64) = ((openState.get (fOsTjMax 2) : Int) - 5) * 64 ∧
      signed16 (82 * 64) = ((openState.get (fOsTjMax 2) : Int) - 8) * 64 ∧ openState.get (fOsLevel 2) < 7) ∧
    Sent openState 2 (bmlWords 0x12 0 0 0 0 0 0 []) 0x12 ∧ Sent openState 2 (bmlWords 0x11 1 0 0 0 0 0 []) 0x11 ∧
    Sent openState 2 (bmlWords 0x15 0 0 0 5 0 0 []) 0x15 ∧ Sent openState 2 (bmlWords 0x16 0 0 0 0 0 0 [77]) 0x16 ∧
    (let s := withOpen (fun o => { o with thr := true, freed := 3 }) openState; Serves s 2 ∧ (s.opn 2).thr = true ∧
      s.capLevel 2 ≤ s.get (fOsLevel 2) ∧ (s.opn 2).freed ≠ 0 ∧ (s.opn 2).link = true) ∧
    (let s := openState.set (fOsLstate 2) 2; (s.opn 2).dack = none ∧ s.get (fOsLstate 2) = 2) ∧
    (let s := withOpen (fun o => { o with isolatedAt := some openState.now }) (setAll openState [(fOsLstate 2, 5), (fOsCause 2, 0xA)]);
      s.justIsolated 2 = true) ∧
    (InUse openState 2 ∧ (openState.opn 2).link = true ∧ (openState.opn 2).released = true) ∧
    (setsReserved (osCtl 2) 1 = false ∧ setsReserved (osCtl 2) 2 = false ∧ bitsOf (1 : Word) 0 0 = 1 ∧ bitsOf (2 : Word) 1 1 = 1) ∧
    (let s := setAll openState [(fOsLstate 2, 5), (fOsCause 2, 5)]; s.get (fOsLstate 2) = 5 ∧ 5 ≤ s.get (fOsCause 2) ∧
      (s.opn 2).rejoinAt.length < 3 ∧ (withOpen (fun o => { o with rejoinAt := [0, 0, 0] }) s).opn 2 = { s.opn 2 with rejoinAt := [0, 0, 0] }) ∧
    (let w := word [(1, 0), (7, 1), (1023, 4)]; setsReserved (osGrant 2 15) w = false) := by
  unfold Serves Sent InUse; and_intros <;> decide +kernel

/-- A host tile whose link is up, with sixteen VFs and MSI-X of functions 0 and 16 on. -/
def upTile : HostTile :=
  { HostTile.fresh with
    linkUp := true
    perstHigh := true
    cfg := [(0x50, 2 ^ 31), (0x318, 1), (0x320, 16), (0x10050, 2 ^ 31)] }

/-- Host tile 0 so, and function 0 bound to tenant 3 with pair 0 enabled, holding what is given. -/
def hostUp (fs : List (Fld × Nat)) (f : HostTile → HostTile) : State :=
  { setAll (withTask 0 (withTenant readyState)) ([(fClkEn 22, 1), (fClkRun 22, 1), (fPortState 0, 1), (fBindEn 0 0, 1), (fBindTenant 0 0, 3),
      (fSqEn 0 0 0, 1), (fCqEn 0 0 0, 1), (fSqK 0 0 0, 3), (fCqK 0 0 0, 3), (fTrnA 3 0, 1), (fTstState 0, 1)] ++ fs) with
    hosts := [(0, f upTile)] }

/-- A command of function 0, pair 0, with number 5. -/
def hostCmd0 (op n : Nat) (args : List Nat) : HostCmd :=
  { id := 5, f := 0, i := 0, cid := 7, op := op, hold := false, fence := false, haddr := 0x1000, dva := 0x10000, bytes := n,
    args := args.map (BitVec.ofNat 64), tenant := 3, issued := false, fin := none, mute := false }

theorem meets_HostPorts :
    (let s := hostUp [] id; s.get (fPortState 0) = 1 ∧ s.flag (fClkRun 22) = true) ∧
    ((hostUp [] id).host 0).perstHigh = true ∧ (State.reset.host 0).perstHigh = false ∧
    (let h := (hostUp [] (fun h => { h with quiescing := true })).host 0; h.quiescing = true ∧ h.cmds = [] ∧ h.cutDue = []) ∧
    (let h := (hostUp [] (fun h => { h with quiescing := true, cmds := [hostCmd0 3 0 []] })).host 0; h.quiescing = true ∧ h.cmds ≠ []) ∧
    (let s := hostUp [(fPortState 0, 2), (fFstFlr 0 16, 1)] id; 2 ≤ s.get (fPortState 0) ∧ (s.host 0).linkUp = true ∧
      s.get fBootMode ≠ 4 ∧ s.get (fFstFlr 0 16) = 1) := by decide +kernel

theorem meets_HostPorts_told : ∀ f i, (hostUp [] (fun h => { h with quiescing := true })).cqOwes 0 f i = false := fun _ _ => rfl

theorem meets_HostQueues :
    (let s := hostUp [] id; let w := word [(1, 63), (4, 59), (1, 55), (5, 12)];
      setsReserved (htBind 0 1) (word [(1, 63), (3, 59)]) = false ∧ s.bindingOf 3 = some (0, 0) ∧ ((0, 0) : Nat × Nat) ≠ (0, 1) ∧
      setsReserved (htBind 0 0) w = false ∧ s.bindingOf 4 = none ∧ bitsOf w 62 59 ≠ s.get (fBindTenant 0 0) ∧ s.get (fSqEn 0 0 0) = 1 ∧
      4096 * bitsOf w 47 12 + s.windowSize 0 0 ≤ 2 ^ 48 ∧
      2 ^ 48 < 4096 * bitsOf (word [(1, 63), (4, 59), (0xFFFFFFFFF, 12)]) 47 12 + s.windowSize 0 16) ∧
    (let s := hostUp [(fBindEn 0 16, 1), (fBindTenant 0 16, 4)] id; let w := word [(1, 0), (12, 4)];
      (∀ i < fnQueues 16, s.get (fSqEn 0 16 i) = 0 ∧ s.get (fCqEn 0 16 i) = 0) ∧ s.get (fPortState 0) < 2 ∧
      s.queueHere 0 16 15 = true ∧ setsReserved (sqCtl 0 16 15) w = false ∧ setsReserved (cqCtl 0 16 15) w = false ∧
      setsReserved (sqCtl 0 16 15) (word [(1, 0), (13, 4)]) = false ∧ bitsOf w 50 40 < fnVectors 16 ∧
      (s.set (fCqEn 0 16 15) 1).get (fCqEn 0 16 15) = 1 ∧ s.bindingOf 4 = some (0, 16) ∧
      setsReserved (htBind 0 16) (word [(1, 63), (4, 59), (2, 56)]) = false) ∧
    (let s := hostUp [] id; s.get (fFstFlr 0 0) = 0 ∧ s.get (fSqEn 0 0 0) = 1 ∧ s.get (fCqEn 0 0 0) = 1 ∧ 7 < s.sqDepth 0 0 0 ∧
      s.sqDepth 0 0 0 ≤ 8 ∧ s.cqDepth 0 0 0 = 8 ∧ (s.pair 0 0 0).cqHead = 0 ∧ (hostUp [(fSqEn 0 0 0, 0)] id).get (fSqEn 0 0 0) = 0) ∧
    (hostUp [] (fun h => { h with pairs := [(0, ⟨3, 0, 0, true⟩)] })).nextQueue 0 = some 0 ∧
    (let c : HostCmd := { hostCmd0 3 0 [] with fin := some (2, 6, 9) };
      let s := hostUp [] (fun h => { h with cmds := [c] }); s.hostCmd 5 = some (0, c) ∧ c.fin = some (2, 6, 9) ∧ c.mute = false ∧
      s.cqRoom 0 0 0 = true ∧ (hostUp [] (fun h => { h with cmds := [c], pairs := [(0, ⟨0, 0, 7, true⟩)] })).cqRoom 0 0 0 = false) ∧
    (let s : State := { hostUp [(fCqEn 0 0 0, 0)] id with cuts := [3] }; 3 ∈ s.cuts ∧ s.bindingOf 3 = some (0, 0) ∧
      s.paused.contains 3 = false ∧ s.get (fCqEn 0 0 0) = 0 ∧ (∀ x ∈ (s.host 0).cutDue, x.1 ≠ 0) ∧ s.get (fPortState 0) < 2 ∧
      { s with paused := [3] }.paused.contains 3 = true) ∧
    (let full : HostTile → HostTile := fun h => { h with pairs := [(0, ⟨0, 0, 7, true⟩)] };
      ((hostUp [] (fun h => { h with cutDue := [(0, 9)] })).host 0).cutDue = [(0, 9)] ∧ (hostUp [] id).cqRoom 0 0 0 = true ∧
      ((hostUp [] (fun h => full { h with cutDue := [(0, 9)] })).host 0).cutDue = [(0, 9)] ∧ (hostUp [] full).cqRoom 0 0 0 = false ∧
      (hostUp [] id).get (fCqEn 0 0 0) = 1) ∧
    (hostUp [] id).msixOn 0 0 = true ∧ (hostUp [] id).msixAllMasked 0 0 = false ∧ (hostUp [] id).msixOn 0 1 = false ∧
    (let s := hostUp [(fIvecEnEvp 0 0, 1), (fProd 3 true, 6), (fMsixMask 0 0 0, 0), (fCqCtime 0 0 0, 9)]
        (fun h => { h with pairs := [(0, ⟨0, 0, 2, true⟩)], armed := [0, 4] });
      s.isArmed 0 0 0 = true ∧ s.boundTo 0 0 = some 3 ∧ s.get (fIvecEnEvp 0 0) = 1 ∧ s.ringUsed 3 true ≠ 0 ∧
      s.get (fMsixMask 0 0 (s.get (fIvecVEvp 0 0))) = 0 ∧ s.isArmed 0 0 4 = true ∧ s.get (fCqCtime 0 0 0) ≠ 0 ∧ s.cqUnread 0 0 0 ≠ 0 ∧
      (s.set (fMsixMask 0 0 0) 1).get (fMsixMask 0 0 (s.get (fCqVec 0 0 0))) = 1) := by
  refine ⟨?_, ?_, ?_, ?_, ?_, ?_, ?_⟩ <;> decide +kernel

/-- Host tile 0 with that one command under way; function 0 is the administrator. -/
def hostWith (c : HostCmd) (fs : List (Fld × Nat)) : State := hostUp ((fBindAdmin 0 0, 1) :: fs) (fun h => { h with cmds := [c] })

theorem meets_HostWork :
    (let c := hostCmd0 1 64 []; let s := hostWith c [];
      s.hostCmd c.id = some (0, c) ∧ c.tenant = 3 ∧ s.started 0 c = true ∧ s.get fBootMode ≠ 4 ∧ s.fencedTen.contains 3 = false ∧
      s.copyWaits 0 c = false ∧ s.askHeld (s.hostAsker 0 0 3) true c.dva 64 = false ∧ s.hostCheck 3 .write c.dva 64 = none ∧
      s.askHeld (s.hostAsker 0 0 3) false c.dva 64 = false ∧
      s.hostCheck 3 .read c.dva 64 = none ∧ (s.hostCheck 3 .write 0x90000 64).isSome = true ∧ s.get fTrnBusy = 0 ∧ s.get fTcmdBusy = 0 ∧
      s.portSends 0 = true ∧ c.mute = false) ∧
    -- an earlier copy to the same bytes is under way
    (let c := hostCmd0 1 64 []; (hostUp [] (fun h => { h with cmds := [{ c with id := 4 }, c] })).copyWaits 0 c = true) := by
  decide +kernel

theorem meets_HostWork_scratchpad :
    (let c := { hostCmd0 1 8 [] with dva := 0x30FF8 };
      let s := hostWith c [(fTrnValid 3 2, 1), (fTrnDva 3 2, 0x30), (fTrnPages 3 2, 1), (fTrnTgt 3 2, 2 ^ 32), (fTrnR 3 2, 1), (fTrnW 3 2, 1)];
      s.started 0 c = true ∧ s.copyWaits 0 c = false ∧ s.askHeld (s.hostAsker 0 0 3) true c.dva 8 = false ∧ s.hostCheck 3 .write c.dva 8 = none ∧
      s.hostCheck 3 .read c.dva 8 = none ∧ 0x30FF8 % 4096 + 8 ≤ 4096 ∧ s.translate 3 0x30FF8 = some (spadAddr 0 0xFF8) ∧
      s.place (spadAddr 0 0xFF8) = .core 0 0xFF8 ∧ s.spadPoison 0 0xFF8 8 = none ∧ ∀ i < 8, s.sealWindow 3 (0x30FF8 + i) = none) := by
  decide +kernel

theorem meets_HostWork_services :
    (let s := hostWith (hostCmd0 0x10 1 [127, 0x300000, 4, 0x40001]) [];
      let s' := ((s.wr (trnStg 0) 0x300000).wr (trnStg 1) 4).wr (trnStg 2) 0x40001;
      s.cro.running = true ∧ s.get fTrnBusy = 0 ∧ s'.stgCode 3 127 = 0) ∧
    ((hostWith (hostCmd0 0x10 3 [7, 1]) []).modTask 0 (fun t => { t with open_ := [(7, 2, 0)] })).faultTask 3 7 ≠ none ∧
    (let s := hostWith (hostCmd0 0x10 4 [2, 0]) []; s.tstate 0 = 1 ∧ s.tdTenant 0 = 3 ∧ s.bankNames 0 = false ∧ s.tdCode 0 = 0) ∧
    (let s := hostWith (hostCmd0 0x10 4 [1, 0, 0x10000]) [(fTstState 0, 0)]; s.loaded 0 = false ∧ s.get fTcmdBusy = 0 ∧
      s.engineHeld 3 0x10000 128 false = false) ∧
    (let s := hostWith (hostCmd0 0x10 5 [63, 3, 24]) [(fLupTown 63 3, 1), (fLupOwner 63 3, 3)];
      s.get (fLupTown 63 3) = 1 ∧ s.get (fLupOwner 63 3) = 3) ∧
    (let s := hostWith (hostCmd0 0x10 6 [0x100000]) []; findReg 0x100000 ≠ none ∧ s.tenantReg 3 0x100000 = true ∧ findReg 0x101000 ≠ none ∧
      s.tenantReg 3 0x101000 = false) := by
  decide +kernel

theorem meets_HostWork_admin :
    (let s := hostWith (hostCmd0 0x10 0x10 [0, 3, 4]) []; s.get (fBindAdmin 0 0) = 1 ∧ 4 < s.granules ∧ s.granuleNamed 0 3 = false ∧
      s.granuleNamed 0 4 = false ∧ (List.range s.retEntries).find? (fun k => !(s.flag (fRetValid 0 k))) = some 0) ∧
    (let s := hostWith (hostCmd0 0x10 0x10 [0, 3, 4]) [(fRetValid 0 0, 1), (fRetRetired 0 0, 3), (fRetRepl 0 0, 4)];
      (List.range s.retEntries).find? (fun k => s.flag (fRetValid 0 k) &&
        decide (s.get (fRetRetired 0 k) = 3 ∧ s.get (fRetRepl 0 k) = 4)) = some 0 ∧ s.flag (fRetFill 0 0) = false) ∧
    (let s := hostWith (hostCmd0 0x10 0x12 [0x10000, 4]) []; s.get fTsqSwap = 0 ∧ s.get fAdmBusy = 0 ∧ s.engineHeld 3 0x10000 32 false = false) ∧
    (let s := hostWith (hostCmd0 0x10 0x13 [2, 63]) []; s.get fAdmBusy = 0 ∧ s.get fTsqSwap = 0 ∧ s.slotNamed 63 = false ∧
      s.flag (fSlotValid 63) = false ∧ s.recordNamed 10239 = false ∧ s.engineHeld 3 0x10000 1024 false = false) ∧
    (hostUp [] id).get (fBindAdmin 0 0) = 0 := by
  decide +kernel

theorem meets_HostWindow :
    (let s := hostUp [] id;
      s.flag (fClkRun 22) = true ∧ State.reset.flag (fClkRun 22) = false ∧
      s.get fBootMode ≠ 3 ∧ s.get (fPortState 0) = 1 ∧ s.boundTo 0 1 = none ∧ s.boundTo 0 0 = some 3 ∧ s.fnThere 0 0 = true ∧ (s.host 0).d3.contains 0 = false ∧
      s.fencedTen.contains 3 = false ∧ 0x10000 + 8 ≤ s.windowSize 0 0 ∧ s.askHeld (s.hostAsker 0 0 3) false 0x10000 8 = false ∧
      s.askHeld (s.hostAsker 0 0 3) true 0x10000 8 = false ∧ s.hostCheck 3 .read 0x10000 8 = none ∧
      s.hostCheck 3 .write 0x10000 8 = none ∧ s.hostCheck 3 .atomic 0x10000 8 = none ∧ (s.hostCheck 3 .read 0 8).isSome = true ∧
      (s.hostCheck 3 .write 0 3).map ExtFail.cause = some 1 ∧
      s.get (fMsixMask 0 0 0) = 1 ∧ s.get (fMsixPba 0 0 0) = 0 ∧ 0 < fnVectors 0 ∧
      s.cro.retry.contains 0 = false ∧ ¬ (2 ^ 34 + 8 ≤ s.windowSize 0 0) ∧ s.fnThere 0 16 = true ∧
      State.reset.fnThere 0 16 = false) ∧
    (let s : State := { hostUp [(fBootMode, 3)] id with recHold := some 0 }; s.get fBootMode = 3 ∧ s.recHold = some 0) ∧
    (hostUp [(fBootMode, 4)] id).get fBootMode = 4 ∧ { hostUp [] id with fencedTen := [3] }.fencedTen.contains 3 = true ∧
    (withCro (fun c => { c with retry := [0] }) (hostUp [] id)).cro.retry.contains 0 = true := by
  decide +kernel

theorem meets_HostWindow_scratchpad :
    (let s := hostUp [(fTrnValid 3 2, 1), (fTrnDva 3 2, 0x30), (fTrnPages 3 2, 1), (fTrnTgt 3 2, 2 ^ 32), (fTrnR 3 2, 1), (fTrnW 3 2, 1),
        (fTrnA 3 2, 1)] id;
      s.askHeld (s.hostAsker 0 0 3) false 0x30FF8 8 = false ∧ s.askHeld (s.hostAsker 0 0 3) true 0x30FF8 8 = false ∧
      s.hostCheck 3 .read 0x30FF8 8 = none ∧ s.hostCheck 3 .write 0x30FF8 8 = none ∧ s.hostCheck 3 .atomic 0x30FF8 8 = none ∧
      0x30FF8 % 4096 + 8 ≤ 4096 ∧ s.translate 3 0x30FF8 = some (spadAddr 0 0xFF8) ∧ s.place (spadAddr 0 0xFF8) = .core 0 0xFF8 ∧
      s.spadPoison 0 0xFF8 8 = none ∧ ∀ i < 8, s.sealWindow 3 (0x30FF8 + i) = none) := by
  decide +kernel

/-- Tenant 3 owns tiles 0 and 1 in a fielded unit; no context has an entry, and region 2 lies on stack 0. -/
def quietState : State :=
  setAll readyState [(fLcsState, 2), (fLcsPos, 2), (fTenValid 3, 1), (fTenTiles 3, 3), (fTenState 3, 1), (fTileState 0, 1),
    (fTileOwner 0, 3), (fTileState 1, 1), (fTileOwner 1, 3), (fRgnValid 2, 1), (fRgnFirst 2, 4), (fRgnNg 2, 2)]

theorem quiet_contexts : ∀ c < 24, ∀ e < 128, quietState.trnEntry c e = none := by decide +kernel

theorem quiet_tiles (t : Nat) : quietState.tileTargeted t = false := by
  simp only [State.tileTargeted, List.any_eq_false, List.mem_range]
  intro c hc
  simp only [List.any_eq_true, List.mem_range, not_exists, not_and]
  intro e he
  simp [quiet_contexts c hc e he]

theorem quiet_targets (a b : Nat) : quietState.targeting a b = [] := by
  simp only [State.targeting, List.flatMap_eq_nil_iff, List.filterMap_eq_nil_iff, List.mem_range]
  intro c hc e he
  simp [quiet_contexts c hc e he]

/-- The same with an entry of tenant u's context over the region's first pages, writable or not. -/
def mappedState (u writable : Nat) : State :=
  setAll quietState [(fTrnValid u 0, 1), (fTrnDva u 0, 0x10), (fTrnPages u 0, 16), (fTrnTgt u 0, 0x400), (fTrnR u 0, 1), (fTrnW u 0, writable)]

theorem meets_TenantTiles :
    (quietState.get fBootMode ≠ 4 ∧ let w := word [(1, 63), (2 ^ 47 + 4, 0)]; setsReserved (tenCfg 15) w = false ∧ bitsOf w 63 63 = 1 ∧
      quietState.flag (fTenValid 15) = false ∧ bitsOf w 47 0 ≠ 0 ∧ quietState.get (fTenState 15) = 0 ∧
      (∀ n ∈ maskTiles (bitsOf w 47 0), quietState.get (fTileState n) = 0) ∧ bitsOf w 62 62 = 0 ∧ quietState.lcsNow = 2 ∧
      bitsOf (word [(1, 63)]) 47 0 = 0) ∧
    (quietState.wr (tenKey 15 3) 7).rd (tenKey 15 3) ≠ 0 ∧
    (0 ∈ maskTiles 1 ∧ quietState.get (fTileState 0) = 1) ∧
    (quietState.flag (fTenValid 3) = true ∧ (∀ n ∈ maskTiles (quietState.get (fTenTiles 3)), n ∈ maskTiles 7) ∧
      (∀ n ∈ maskTiles 7, n ∉ maskTiles (quietState.get (fTenTiles 3)) → quietState.get (fTileState n) = 0) ∧
      quietState.get (fTenConf 3) = 0) ∧
    (∀ n ∈ maskTiles (quietState.get (fTenTiles 3)), n ∉ maskTiles 1 → quietState.tileUnused n = true) := by
  refine ⟨by decide +kernel, by decide +kernel, by decide +kernel, by decide +kernel, ?_⟩
  have tiles : maskTiles (quietState.get (fTenTiles 3)) = [0, 1] := by decide +kernel
  have none_loaded : quietState.loadedTasks = [] := by decide +kernel
  have regions : quietState.hasRegion 1 = false := by decide +kernel
  have one : maskTiles 1 = [0] := by decide +kernel
  rw [tiles, one]
  intro n hn hout
  simp only [List.mem_cons, List.not_mem_nil, or_false] at hn hout
  obtain rfl | rfl := hn
  · exact absurd rfl hout
  · simp [State.tileUnused, none_loaded, regions, quiet_tiles]

theorem meets_TenantTeardown :
    (setsReserved (tenCfg 3) 3 = false ∧ bitsOf (3 : Word) 63 63 = 0 ∧ quietState.flag (fTenValid 3) = true ∧
      quietState.fencedTen.contains 3 = false ∧ quietState.sec.tearWait = [] ∧ { quietState with fencedTen := [3] }.fencedTen.contains 3 = true ∧
      (∃ n ∈ quietState.tenTiles 3, quietState.hasRegion n = true)) ∧
    (let s := quietState.set (fRgnValid 2) 0; s.loadedTasks = [] ∧ (∀ n ∈ s.tenTiles 3, s.hasRegion n = false)) ∧
    (let x : Scrub := ⟨3, true, 0, 0, 0, 0, 3⟩; let y : Scrub := ⟨3, false, 0, 0, 0, 0, 2⟩;
      let s : State := (setAll quietState [(fTileState 0, 2), (fTileState 1, 3)]).modSec (fun k => { k with scrubs := [y, x] });
      s.scrubOf 3 = some y ∧ (s.modSec (fun k => { k with scrubs := [x] })).scrubOf 3 = some x ∧ quietState.scrubOf 3 = none ∧
      maskTiles x.tiles = [0, 1] ∧ s.get (fTileState 0) = 2 ∧ s.get (fTileState 1) = 3) := by
  decide +kernel

theorem meets_TenantConfiguration :
    (let w := word [(1, 63), (7, 48), (0xFFFE, 32), (1, 0)]; setsReserved (tenPerm 15 31) w = false ∧
      (bitsOf w 15 0 ≤ bitsOf w 47 32 ∧ bitsOf w 15 0 ≠ 0 ∧ bitsOf w 47 32 ≠ 0xFFFF) ∧
      setsReserved (tenPerm 15 31) (word [(1, 63), (0xFFFF, 32), (1, 0)]) = false ∧ bitsOf (word [(1, 63), (0xFFFF, 32)]) 47 32 = 0xFFFF) ∧
    (let w := word [(1, 63), (4, 38), (2, 20)]; setsReserved (comRgn 2) w = false ∧ bitsOf w 63 63 = 1 ∧ quietState.rgnRefusal 2 w = 0 ∧
      quietState.rgnRefusal 63 w = 3 ∧ quietState.rgnRefusal 2 (word [(1, 63), (48, 56), (2, 20)]) = 1 ∧ bitsOf w 62 62 = 0 ∧
      (quietState.flag (fRgnValid 2) && quietState.flag (fRgnSealed 2)) = false ∧
      (quietState.set (fRgnSealed 2) 1).flag (fRgnSealed 2) = true ∧ setsReserved (comRgn 2) (word [(3, 62), (4, 38), (2, 20)]) = false) ∧
    (quietState.targeting (rgnLo (word [(3, 62), (4, 38), (2, 20)])) (rgnHi (word [(3, 62), (4, 38), (2, 20)]))).any
      (fun x => x.2.2.w || x.2.2.a) = false ∧
    (let w := word [(1, 63), (5, 0)]; setsReserved (comRld 2) w = false ∧ quietState.flag (fRgnValid 2) = true ∧
      quietState.get (fRgnFirst 2) ≤ bitsOf w 17 0 ∧ bitsOf w 17 0 < quietState.get (fRgnFirst 2) + quietState.get (fRgnNg 2) ∧
      (∀ i < 64, quietState.flag (fRldActive i) = false) ∧ ¬ bitsOf (word [(1, 63), (6, 0)]) 17 0 < 6) ∧
    (let s := setAll quietState [(fRldActive 2, 1), (fRldGranule 2, 4)]; s.flag (fRldActive 2) = true ∧
      s.flag (fRgnValid 2) = true ∧ s.get (fRldGranule 2) ≠ 5) ∧
    (quietState.flag (fTenValid 3) = true ∧ quietState.cro.running = true) := by
  refine ⟨by decide +kernel, by decide +kernel, ?_, by decide +kernel, by decide +kernel, by decide +kernel⟩
  rw [quiet_targets]; rfl

/-- A writable or atomic entry stands over region 2; one of a tenant that does not own its stack does; a writable one stands
over granule 4. -/
def mappedOpen (s : State) : Bool :=
  let w := word [(3, 62), (4, 38), (2, 20)]
  (s.targeting (rgnLo w) (rgnHi w)).any (fun x => x.2.2.w || x.2.2.a)
def mappedForeign (s : State) : Bool := (s.targeting (rgnLo (s.rd (comRgn 2))) (rgnHi (s.rd (comRgn 2)))).any
  (fun x => some x.1 != s.tileOwner (s.get (fRgnStack 2)))
def mappedWritable (s : State) : Bool := (s.targeting (4 * 2 ^ 20) (5 * 2 ^ 20)).any (fun x => x.2.2.w)

/-- Regions that are mapped: a writable entry keeps one from being sealed and its granule out for reload; a sealed one may be
opened while its owner alone maps it. -/
theorem meets_TenantConfiguration_open : mappedOpen (mappedState 3 1) = true ∧ mappedOpen (mappedState 3 0) = false := by
  decide +kernel
theorem meets_TenantConfiguration_foreign : mappedForeign ((mappedState 3 0).set (fRgnSealed 2) 1) = false ∧
    mappedForeign ((mappedState 5 0).set (fRgnSealed 2) 1) = true := by decide +kernel
theorem meets_TenantConfiguration_reload : mappedWritable (mappedState 3 1) = true ∧ mappedWritable (mappedState 3 0) = false := by
  decide +kernel
theorem meets_TenantConfiguration_region :
    ((mappedState 3 0).set (fRgnSealed 2) 1).rgnRefusal 2 (word [(1, 63), (4, 38), (2, 20)]) = 0 ∧
    (mappedState 3 1).rgnRefusal 2 (word [(3, 62), (4, 38), (2, 20)]) = 0 := by decide +kernel

/-- Session 9 of a confidential tenant's administrator: bound to tenant u, or to none. -/
def sessionState (authed : Bool) (u : Option Nat) : State :=
  let s := setAll readyState [(fLcsState, 2), (fTenValid 3, 1), (fTenState 3, 1), (fTenTiles 3, 1), (fTileState 0, 1), (fTileOwner 0, 3),
    (fTenConf 3, 1), (fSealValid 3 1, 1), (fSealDva 3 1, 5), (fSealPages 3 1, 2), (fSealGen 3 1, 4)]
  { s with sealKeys := [(25, (1, 2))], sec := { s.sec with sessions := [⟨9, 4, authed, 0, 5, u⟩], opener := [(25, 9)], reports := [(3, [1, 2])] } }

theorem meets_SecurityEngine :
    (let s := sessionState true (some 3); s.cro.aux = true ∧ s.cro.pwrgd = true ∧ s.portCarries 4 = true ∧ s.secStopped = false ∧
      (s.modClk 24 (fun k => { k with on := true, locked := false })).secStopped = true ∧ (s.set fLcsState 3).get fLcsState = 3 ∧ s.get fLcsState = 2 ∧ s.session 8 = none ∧
      (s.sec.sessions.filter (fun x => x.port == 4)).length < 8 ∧ s.sec.sessions.length < 24 ∧ s.session 9 = some ⟨9, 4, true, 0, 5, some 3⟩ ∧
      smLookup s.sec.reports 3 = some [1, 2] ∧ (s.measurement none 4).isSome = true ∧
      s.spdmAnswer 0x82 1 = none ∧ s.spdmAnswer 3 0 = none) ∧
    (let s := sessionState false none; s.session 9 = some ⟨9, 4, false, 0, 5, none⟩) ∧
    (let s := sessionState true none; s.session 9 = some ⟨9, 4, true, 0, 5, none⟩ ∧ s.flag (fTenValid 3) = true ∧ s.get (fTenState 3) = 1 ∧
      0 = s.tenKeyDigest 3) ∧
    (let s := sessionState true (some 3); let p := 0xFFFFFFFFF; s.get (fTenConf 3) = 1 ∧ (p * 4096) % 4096 = 0 ∧ p + 1 ≤ 2 ^ 36 ∧
      (∀ j < 8, j ≠ 7 → s.flag (fSealValid 3 j) = true → s.get (fSealDva 3 j) + s.get (fSealPages 3 j) ≤ p) ∧
      s.flag (fSealValid 3 1) = true ∧ smLookup s.sec.opener (8 * 3 + 1) = some 9 ∧ s.get (fSealGen 3 1) < 5 ∧
      s.flag (fSealValid 3 7) = false) := by
  decide +kernel

/-- A fielded unit without tenants. -/
def lcState : State := readyState.set fLcsState 2

theorem meets_LifeCycle :
    (let s := setAll readyState [(fLcsState, 2)]; s.cro.aux = true ∧ s.cro.pwrgd = true ∧ s.secStopped = false ∧ s.lcCode [] true ≠ 0 ∧
      (([] : List Word).getD 12 0).toNat = 0 ∧ s.session 7 = none) ∧
    (Otp.field.steps.length = 16 ∧ (∀ cs ∈ Otp.field.steps, cs.length = 3) ∧ Otp.field.torn = false ∧ Otp.field.pos < 16) ∧
    ((withCro (fun c => { c with lcDelay := true }) readyState).cro.lcDelay = true ∧ readyState.cro.lcDelay = false) := by
  decide +kernel

theorem meets_DebugAndObservation :
    (let s := setAll readyState [(fLcsState, 1), (fClkEn 5, 1), (fClkRun 5, 1)]; s.cro.aux = true ∧ s.get fLcsState ≠ 2 ∧ s.get fLcsState ≠ 5 ∧
      s.place 0x100000028010 = .core 5 16 ∧ s.noCore 5 = false ∧ s.spadPoison 5 16 8 = none ∧ 0x200000000000 % 8 = 0 ∧
      s.place 0x200000000000 = .reg 0 ∧ s.gatedReg 0 = none ∧ s.sramBad 0x200000000000 = false ∧ 0x200000000000 < 2 ^ 48 ∧ srListed 0x001 = true ∧ srListed 0x1FF = false ∧
      s.place (2 ^ 38) = .stack 1 0 ∧ (s.set (fStkState 1) 4).stackServes 1 0 = false ∧
      setsReserved tstObssel (word [(63, 8), (5, 0)]) = false ∧ bitsOf (word [(63, 8), (5, 0)]) 2 0 ≤ 5 ∧
      setsReserved tstObssel (word [(6, 0)]) = false ∧ ¬ bitsOf (word [(6, 0)]) 2 0 ≤ 5) ∧
    (setAll readyState [(fLcsState, 2)]).get fLcsState = 2 := by
  decide +kernel

/-- A request to position 3 of kind 2, in the words of R525. -/
def lcRequest : List Word :=
  [word [(1, 0), (12, 8), (3, 16), (2, 24)], lcState.ident.getD 1 0, lcState.rd lcsNonce, 0, 1, 2, 3, 4, 5, 6, 7, 8]

/-- Whether a signature is good is the unit's key's matter (a free function); with a good one the request is accepted. -/
theorem meets_LifeCycle_accepted (h : Config.sm2Verify Config.lcServiceKey (wordBytes ((List.range 4).map (fun i => lcRequest.getD i 0)))
    (wordBytes ((List.range 8).map (fun i => lcRequest.getD (4 + i) 0))) = true) : lcState.lcCode lcRequest true = 0 := by
  have h0 : lcRequest.getD 0 0 = word [(1, 0), (12, 8), (3, 16), (2, 24)] := rfl
  have h1 : lcRequest.getD 1 0 = lcState.ident.getD 1 0 := rfl
  have h2 : lcRequest.getD 2 0 = lcState.rd lcsNonce := rfl
  have h3 : lcRequest.getD 3 0 = 0 := rfl
  have ver : bitsOf (word [(1, 0), (12, 8), (3, 16), (2, 24)]) 7 0 = 1 := by decide +kernel
  have len : bitsOf (word [(1, 0), (12, 8), (3, 16), (2, 24)]) 15 8 = 12 := by decide +kernel
  have tgt : bitsOf (word [(1, 0), (12, 8), (3, 16), (2, 24)]) 20 16 = 3 := by decide +kernel
  have kind : bitsOf (word [(1, 0), (12, 8), (3, 16), (2, 24)]) 31 24 = 2 := by decide +kernel
  have z : bitsOf (word [(1, 0), (12, 8), (3, 16), (2, 24)]) 23 21 = 0 ∧ bitsOf (word [(1, 0), (12, 8), (3, 16), (2, 24)]) 63 32 = 0 := by decide +kernel
  have ok : lcAllowed lcState.sec.otp.pos 3 = true ∧ lcState.flag fLcsTorn = false ∧ lcState.sec.otp.slots.any OtpSlot.free = true ∧
    lcState.flag fLcsBusy = false ∧ lcState.cro.lcDelay = false ∧ lcState.sec.otp.fused = true := by decide +kernel
  have ten : (List.range 16).any (fun u => lcState.flag (fTenValid u) && true) = false := by decide +kernel
  have conf : (List.range 16).any (fun u => lcState.flag (fTenValid u) && lcState.flag (fTenConf u)) = false := by decide +kernel
  have two : ¬ (2 : Nat) = 1 := by decide
  simp only [State.lcCode, h0, h1, h2, h3, ver, len, tgt, kind, z, ok, ten, conf, two, if_false, h]
  simpa using ok.1

theorem meets_ResetScopes :
    (let w := word [(1, 29), (47 * 2 ^ 14 + 79 * 2 ^ 7 + 79, 0)]; bitsOf w 63 36 = 0 ∧ bitsOf w 28 20 = 0 ∧ bitsOf w 31 29 = 1 ∧
      readyState.absent (bitsOf w 19 0) = false ∧ readyState.flag fRstBusy = false ∧ readyState.ready = true) ∧
    ((readyState.wr (tileAbsLo 0 0) 0x20).absent 5 = true ∧ bitsOf (word [(7, 29)]) 31 29 = 7) ∧
    (let s := sendState; bitsOf (word [(2, 29)]) 31 29 = 2 ∧ s.loaded 0 = true ∧ s.loaded 1023 = false ∧
      (s.set fRstBusy 1).flag fRstBusy = true ∧ s.flag fRstBusy = false ∧ s.ready = true) ∧
    (let w := word [(3, 29), (3, 32)]; bitsOf w 31 29 = 3 ∧ bitsOf w 28 20 = 0 ∧ sendState.flag (fTenValid (bitsOf w 35 32)) = true ∧
      (sendState.set fBootMode 3).ready = false ∧ (sendState.set fBootMode 3).flag fRstBusy = false) ∧
    ((withCro (fun c => { c with resetOf := some 3 }) sendState).cro.resetOf = some 3 ∧ sendState.cro.resetOf = none ∧
      smLookup sendState.sec.tearWait 3 = none ∧ smLookup (sendState.modSec (fun k => { k with tearWait := [(3, 0)] })).sec.tearWait 3 = some 0 ∧
      bitsOf (word [(4, 29)]) 31 29 = 4 ∧ readyState.cro.aux = true) := by
  decide +kernel

/-- In-field scan is enabled in the guard band, tile 0's domain at its frequency. -/
def scanState : State :=
  { (setAll readyState [(fClkRun 5, 1), (fClkEn 5, 1), (fClkNset 5, 32), (fFscanEn, 1), (fSiteState 0, 1), (fLcsState, 2), (fTsqT, 2000),
      (fTsqToff, 1500)]).modClk 5 (fun k => { k with n := 32 }) with seq := { Seq.init with phase := 4, inGuard := true } }

theorem meets_ScanAndRotation :
    (scanState.scanOn = true ∧ scanState.sweepDue = false ∧ readyState.scanOn = false ∧ scanState.sliceFits 0 false = false ∧
      scanState.flag fFscanNostore = false ∧ (scanState.set fFscanNostore 1).flag fFscanNostore = true ∧
      scanState.get fFscanBlock = 0 ∧ (scanState.set fFscanBlock 767).get fFscanBlock + 1 = 768) ∧
    scanState.sliceFits 0 true = true ∧
    ((sliceCores 0)[3]? = some 3 ∧ scanState.logicalOf 3 = some 3) ∧
    ((faultState [List.replicate 8 5]).sweepDue = true) ∧
    (scanState.seq.inGuard = true ∧ scanState.get (fSiteState (tileSite 47)) ≠ 5 ∧ scanState.cro.kat = [] ∧ scanState.retraining 47 = false) ∧
    (let s := withCro (fun c => { c with kat := [3, 4], katAgain := [(4, 5)] }) scanState; 3 ∈ s.cro.kat ∧
      smLookup s.cro.katAgain 3 = none ∧ smLookup s.cro.katAgain 4 = some 5 ∧ (16 : Nat) % 16 = 0 ∧ 9 ∉ s.cro.kat) := by
  and_intros <;> decide +kernel

theorem meets_ReliabilityAndRepair :
    (let s : State := { readyState with logWait := [⟨1, 2, 3, 4⟩] }; s.logWait = ⟨1, 2, 3, 4⟩ :: [] ∧ s.cro.running = true ∧
      stateKind ((s.logRecord 1 2 3 4).headD 0) = true ∧ stateKind ((s.logRecord 0x30 2 3 4).headD 0) = false ∧
      s.cro.stateRecords.length < 4094 ∧ (withCro (fun c => { c with flashHeld := some [1] }) s).cro.flashHeld = some [1] ∧
      readyState.logWait = []) ∧
    (let w := word [(1, 5), (17, 0)]; let s := withCro (fun c => { c with ccFree := [16] }) (readyState.set fDomActive 0x2FFFF);
      setsReserved lspCc w = false ∧ bitsOf w 5 5 = 1 ∧ s.get fDomActive / 2 ^ bitsOf w 4 0 % 2 = 1 ∧ s.flag fCcBusy = false ∧
      s.cro.ccFree = 16 :: [] ∧ (s.set fDomActive 0x1FFFF).get fDomActive / 2 ^ 17 % 2 = 0 ∧ s.get fDomActive / 2 ^ 16 % 2 = 0) ∧
    (let s := setAll readyState [(fSiteState 63, 2), (fSiteState 0, 1)]; s.siteServes 63 = true ∧ 2048 * (64 * 1 + 63) + 1055 ∉ s.cro.lanes ∧
      (∀ x ∈ s.bondLanes 63 1, x / 33 ≠ 1055 / 33) ∧
      ¬ (∀ x ∈ (withCro (fun c => { c with lanes := [2048 * (64 * 1 + 63) + 1054] }) s).bondLanes 63 1, x / 33 ≠ 1055 / 33)) ∧
    (let wide := setAll readyState [(fSiteState 0, 1)];
      let hurt := withCro (fun c => { c with lanes := [0, 1] }) wide;
      max (bondWidth (wide.bondLanes 0 0)) (bondWidth (wide.bondLanes 0 1)) ≤ wide.get (fSiteWidth 0) ∧
      hurt.get (fSiteWidth 0) < max (bondWidth (hurt.bondLanes 0 0)) (bondWidth (hurt.bondLanes 0 1))) ∧
    (let lost (n : Nat) : List Nat := [0, 1, 264, 265, 528, 529, 792, 793].map (fun x => 2048 * n + x);
      bondWidth ((withCro (fun c => { c with lanes := lost 0 }) readyState).bondLanes 0 0) = 3 ∧
      bondWidth ((withCro (fun c => { c with lanes := lost 12 }) readyState).bondLanes 12 0) = 3) ∧
    (let s := setAll readyState [(fRegP 259, 8), (fRegW 259, 8), (fRegS 259, 1), (fRegP 0, 8), (fRegW 0, 4), (fRegS 0, 0)];
      s.get (fRegP 259) ≠ 0 ∧ s.get (fRegS 259) ≠ 0 ∧ s.get (fRegP 0) ≠ 0 ∧ s.get (fRegS 0) = 0 ∧ s.get (fRegW 0) ≠ 0 ∧
      2 * (s.get (fRegW 0) - 1) < s.get (fRegP 0) ∧ s.get fBootMode ≠ 4 ∧ s.get fBootMode ≠ 2) := by
  and_intros <;> decide +kernel

/-- The package in slot 1 with port 1 up to slot 2; range 0 of stack 0 is settled, its golden digest set. -/
def digestState : State :=
  { setAll (withTenant readyState) [(fClkEn 23, 1), (fClkRun 23, 1), (fSiteState (peerSite 1), 2), (fSnpEn, 1), (fSnpInterval, 10), (fSnpPeers, 2),
      (fTsqT, 1000), (fTsqGuard, 200), (fRngValid 0, 1), (fRngSettled 0, 1), (fRngFirst 0, 3), (fRngNg 0, 1), (fRngGset 0, 1), (fTsqTick, 50),
      (fRngPtick 0, 39), (fTwnEn, 1), (fTwnPort, 1), (fTwnEpoch, 5), (fMirTenants, 8)] with
    peers := { readyState.peers with lanes := [16, 8, 16, 4], digests := [(4, 0, 0, 5)] } }

theorem other_ranges : ∀ r < 256, r ≠ 0 → digestState.flag (fRngValid r) = false := by decide +kernel

/-- One granule is settled in the package, on stack 0. -/
theorem settled_of_one (n : Nat) : digestState.settledBytes n ≤ 2 ^ 20 := by
  have one : ∀ p : Nat → Bool, (∀ r < 256, r ≠ 0 → p r = false) → (List.range 256).filter p = if p 0 = true then [0] else [] := by
    intro p hp
    rw [List.range_eq_range', List.range'_succ, List.filter_cons,
      List.filter_eq_nil_iff.mpr (fun r hr => by simp only [List.mem_range'_1] at hr; simp [hp r (by omega) (by omega)])]
  have bytes : digestState.get (fRngNg 0) = 1 := by decide +kernel
  unfold State.settledBytes
  rw [one _ (fun r hr h0 => by simp [other_ranges r hr h0])]
  split <;> simp [bytes]

/-- Holds, failed channels and full halves: what the digests, the mirror and the log wait for or give up on. -/
theorem meets_WeightDigests_holds :
    (let s := digestState; s.runServes 0 (3 * 2 ^ 20) 256 = true ∧ s.runWaits 0 (3 * 2 ^ 20) 256 false = false ∧
      s.runWaits 0 (3 * 2 ^ 20) 256 true = false ∧ (s.set (fStkHold 0) 1).runWaits 0 (3 * 2 ^ 20) 256 false = true ∧
      (s.set (fStkState 0) 4).runServes 0 (3 * 2 ^ 20) 256 = false) ∧
    (let s := digestState; let key := s.stackKey 0 (3 * 2 ^ 20); (s.burstCond key (s.physCh key) matches .clean) = true) ∧
    digestState.inRange 0 9 = false := by
  refine ⟨?_, ?_, ?_⟩ <;> decide +kernel

/-- A range that does not answer does not wait; its digest ends without one (R577). -/
theorem meets_WeightDigests_failed : (digestState.set (fStkState 0) 4).rngWaits 0 = false := by decide +kernel

theorem meets_WeightDigests :
    (let w := word [(1, 63), (1, 52), (10, 0)]; setsReserved snpCfg w = false ∧ bitsOf w 15 0 ≠ 0 ∧ digestState.get fMgtSlot ≤ 4 ∧
      bitsOf w 55 52 ≠ 0 ∧ 4 < (digestState.set fMgtSlot 5).get fMgtSlot ∧ bitsOf (word [(1, 63)]) 15 0 = 0) ∧
    (∀ n < 48, digestState.settledBytes n ≤ 10 * ((digestState.get fTsqGuard - 80) * 2310000)) ∧
    (let w := word [(1, 63), (47, 55), (100, 37), (1, 19)]; setsReserved (snpRng 255 0) w = false ∧ bitsOf w 60 55 ≤ 47 ∧ bitsOf w 36 19 ≠ 0 ∧
      bitsOf w 54 37 + bitsOf w 36 19 ≤ digestState.granules ∧ ¬ bitsOf (word [(1, 63), (48, 55), (1, 19)]) 60 55 ≤ 47) ∧
    (digestState.get fBootMode ≠ 4 ∧ digestState.flag fSnpEn = true ∧ digestState.flag (fRngValid 0) = true ∧
      digestState.flag (fRngSettled 0) = true ∧ digestState.peers.late = [] ∧
      digestState.get fSnpInterval < (digestState.tick32 + 2 ^ 32 - digestState.get (fRngPtick 0)) % 2 ^ 32 ∧
      (digestState.tick32 + 2 ^ 32 - (digestState.set (fRngPtick 0) 40).get (fRngPtick 0)) % 2 ^ 32 ≤ digestState.get fSnpInterval) ∧
    (digestState.peerUp 1 = true ∧ digestState.get fSnpPeers / 2 ^ 1 % 2 = 1 ∧ digestState.flag (fRngGset 0) = true ∧
      (digestState.rngDigests 0).find? (fun x => x.1 == 4) = some (4, 5) ∧ 5 ≠ digestState.goldOf 0) ∧
    (3 < digestState.granules ∧ 4095 + 1 ≤ 4096 ∧ digestState.get (fStkState 0) ≠ 4 ∧ digestState.get (fStkState 0) ≠ 5 ∧
      (digestState.inRange 0 3 = true) ∧ 256 * 4095 + (List.replicate 256 (7 : Byte)).length ≤ 2 ^ 20 ∧
      (digestState.readStack 0 (3 * 2 ^ 20 + 256 * 4095) (256 * 1) 0x2).2.isSome = true) := by
  refine ⟨by decide +kernel, fun n _ => ?_, by decide +kernel, by decide +kernel, by decide +kernel, by decide +kernel⟩
  have guard : digestState.get fTsqGuard = 200 := by decide +kernel
  rw [guard]
  exact Nat.le_trans (settled_of_one n) (by decide +kernel)

/-- Of a pair: in link state st with role r. -/
def pairState (st r : Nat) : State := setAll digestState [(fTwnState, st), (fTwnRole, r)]

theorem meets_TwinPairing :
    (let s := digestState; s.flag fTwnEn = true ∧ s.peerUp (s.get fTwnPort) = true ∧ s.get fBootMode ≠ 4 ∧ s.get fTwnState ≠ 2 ∧
      s.get fTwnRole = 0 ∧ s.get fTwnEpoch < 6 ∧ 4 < s.get fTwnEpoch ∧ (s.set fTwnStandby 1).flag fTwnStandby = true) ∧
    (∀ u < 16, digestState.mirrored u = true → (List.range 4).map (fun j => digestState.rd (tenDig u j)) =
      ([[], [], [], [0, 0, 0, 0]] : List (List Word)).getD u []) ∧
    (setsReserved mirCfg (word [(8, 48), (256, 32)]) = false ∧ bitsOf (word [(8, 48), (257, 32)]) 40 32 = 257 ∧
      setsReserved (mirSlot 63) (word [(500, 8)]) = false) ∧
    ((pairState 1 0).get fTwnState = 1 ∧ digestState.get fTwnState = 0) ∧
    (digestState.peers.lanes.getD 3 0 = 4 ∧ 3 < digestState.peers.lanes.getD 3 0 ∧ 7 < digestState.peers.lanes.getD 1 0) := by
  decide +kernel

/-- The standby of a pair: a record and a position staged for tick 7. -/
def standbyState : State :=
  { setAll (pairState 2 2) [(fTwnAuto, 1), (fSlotTenant 3, 3), (fSlotValid 3, 1)] with
    peers := { digestState.peers with staged := some ⟨7, 2, [(4, List.replicate 1024 9)], [(3, 1, 7)]⟩, asked := true } }

/-- A mirror's place that admits writes, and one in a thermal hold. -/
theorem meets_TwinMirror_holds : standbyState.mirdWaits 1 4 0 1024 = false ∧
    (standbyState.set (fStkHold 0) 1).mirdWaits 1 4 0 1024 = true ∧ standbyState.mirdWaits 2 4 0 16 = false ∧
    standbyState.mirdWaits 4 3 0 16 = false := by
  refine ⟨?_, ?_, ?_, ?_⟩ <;> decide +kernel

theorem meets_TwinMirror :
    (standbyState.fromActive 1 = true ∧ standbyState.fromActive 0 = false ∧ (pairState 2 1).fromActive 1 = false) ∧
    (StagedFor standbyState 7 ⟨7, 2, [(4, List.replicate 1024 9)], [(3, 1, 7)]⟩ ∧ StagedFor (pairState 2 2) 9 ⟨9, 0, [], []⟩) ∧
    (let x : Staged := ⟨7, 2, [(4, List.replicate 1024 9)], [(3, 1, 7)]⟩; x.items = 2 ∧ (x.recs.map Prod.fst).Nodup ∧
      (∀ y ∈ x.recs, y.1 < 10240 ∧ y.2.length = 1024) ∧ x.items ≠ 3 ∧ (x.slots.map Prod.fst).Nodup ∧ ∀ y ∈ x.slots, y.1 < 64) ∧
    (let s : State := { pairState 2 1 with peers := { digestState.peers with sent := some (7, []) } }; s.peers.sent = some (7, []) ∧
      s.get fTwnRole = 1 ∧ 1 = s.get fTwnPort) ∧ (pairState 2 1).peers.sent = none ∧
    (let w := word [(1, 63), (3, 60), (1, 59), (1, 0)]; setsReserved twnCfg w = false ∧ standbyState.get fMgtSlot ≤ 4 ∧
      bitsOf (word [(1, 0)]) 63 63 = 0) ∧
    (standbyState.get fTwnRole = 2 ∧ standbyState.get fTwnState = 2 ∧ standbyState.flag fTwnAuto = true ∧ standbyState.get fBootMode ≠ 4 ∧
      standbyState.peers.asked = true ∧ 2 ≠ standbyState.get fTwnPort ∧
      (standbyState.set (fSiteState (peerSite 2)) 2).peerUp 2 = true) := by
  unfold StagedFor; and_intros <;> decide +kernel

/-- All PLLs locked and all domains enabled and running at n = 20. -/
def clockState : State :=
  (List.range 25).foldl (fun s m => s.modClk m (fun k => { k with on := true, locked := true, n := 20, therm := 30, cap := 31, pkg := 32, volt := 33 }))
    (setAll readyState ((List.range 25).flatMap (fun m => [(fClkEn m, 1), (fClkRun m, 1), (fClkNset m, 24)])))

theorem meets_Clocks :
    (let w : Word := BitVec.ofNat 64 (2 ^ 25 - 1 - 2 ^ 16); setsReserved hubClken w = false ∧ clockState.flag (fClkEn 16) = true ∧
      bitsOf w 16 16 = 0 ∧ MayGate clockState 16 ∧ (∀ m < 25, m ≠ 16 → bitsOf w m m = 1) ∧
      ¬ MayGate (clockState.set (fTileState 47) 1) 16) ∧
    (let w : Word := BitVec.ofNat 64 (2 ^ 25 - 1); setsReserved hubClken w = false ∧ ∀ m < 25, bitsOf w m m = 1) ∧
    ((clockState.modClk 16 (fun k => { k with drain := true })).clk 16).drain = true ∧
    (let s := clockState.modClk 24 (fun k => { k with locked := false }); (s.clk 24).on = true ∧ (s.clk 24).locked = false ∧
      s.flag (fClkSrc 24) = false ∧ s.clkHeld 24 = false ∧ (clockState.clk 16).on = true ∧
      (clockState.clk 24).locked = true ∧ (clockState.clk 5).locked = true ∧ isComp 5 = true ∧ clockState.get fBootMode ≠ 4 ∧
      clockState.get fBootMode ≠ 2) ∧
    (setsReserved (clkDom 16) (word [(32, 20), (1, 2)]) = false ∧ bitsOf (word [(32, 20), (1, 2)]) 25 20 = 32 ∧
      bitsOf (word [(33, 20)]) 25 20 = 33 ∧ setsReserved (clkDom 16) (word [(24, 20), (1, 3)]) = false ∧
      bitsOf (word [(24, 20), (1, 3)]) 25 20 = clockState.get (fClkNset 16) ∧ (clockState.set (fClkSrc 16) 1).get (fClkSrc 16) = 1 ∧
      (clockState.clk 16).relock = false ∧ ((clockState.modClk 16 (fun k => { k with relock := true })).clk 16).relock = true) ∧
    (clockState.get (fClkRun 5) = 1 ∧ clockState.get (fClkSrc 5) = 0) := by
  unfold MayGate; and_intros <;> decide +kernel

/-- Stack 0 at v sixty-fourths of a degree, everything else at 0 °C; domain 5 changed by f. -/
def heatState (v : Nat) (f : ClkDomain → ClkDomain) : State :=
  (setAll readyState [(fClkEn 5, 1), (fClkRun 5, 1), (fThmStack 0, v)]).modClk 5 f

theorem meets_ThermalControl :
    (readyState.cro.aux = true ∧ readable (85 * 64) = true ∧ readable 0x7FFF = false) ∧
    ((∀ n < 64, signed16 (readyState.get (fThmHub n)) < deg 110) ∧ deg 110 ≤ signed16 ((readyState.set (fThmHub 63) (110 * 64)).get (fThmHub 63))) ∧
    ((heatState (120 * 64) id).domHeat 5).any (fun h => decide (h.kind = 0 ∨ h.kind = 1) && h.trip) = true ∧
    (let hs := (heatState (94 * 64) id).domHeat 5; hs.any (fun h => h.hard) = true ∧
      hs.any (fun h => decide (h.kind = 0 ∨ h.kind = 1) && h.trip) = false) ∧
    (let hs := (heatState (90 * 64) id).domHeat 5; hs.any (fun h => h.over) = true ∧ hs.any (fun h => h.hard) = false) ∧
    ((heatState 0 id).domHeat 5).all (fun h => h.below) = true ∧
    (let hs := (heatState (88 * 64) id).domHeat 5; hs.any (fun h => h.over) = false ∧ hs.all (fun h => h.below) = false) ∧
    (let s := heatState 0 (fun k => { k with trip := true, on := true, locked := true }); (s.clk 5).trip = true ∧
      s.clkSource 5 = true ∧ (s.clk 5).vstop = false) := by
  and_intros <;> decide +kernel

theorem meets_PowerAndCoolant :
    (readyState.cro.running = true ∧ 10 * readyState.capOf (tileSite 0) < 65535 ∧ isComp 16 = true ∧ readyState.get fPkgCap < 7501 ∧
      100 * 1000 < 95 * readyState.get fPkgCap) ∧
    (setsReserved fPkgCap.off 7500 = false ∧ bitsOf (7500 : Word) 15 0 = 7500 ∧ bitsOf (7501 : Word) 15 0 = 7501) ∧
    (let s := setAll readyState [(fRegP 256, 8), (fRegP 0, 8)]; s.get (fRegP 256) ≠ 0 ∧ 102 * s.setPoint 0 < 10000 * 900 ∧
      (750 : Nat) + 150 ≤ 900 ∧ openSite 7 / 16 = 3 ∧ openSite 7 % 16 = 13 ∧ 10 * s.capOf (openSite 7) < 65536) ∧
    (readyState.cro.pwrgd = true ∧ readyState.get fBootMode ≠ 2 ∧ State.reset.cro.aux = false) ∧
    (let w := word [(350, 48), (120, 32)]; setsReserved coolIn w = false ∧ bitsOf w 63 48 = 350 ∧ bitsOf w 47 32 = 120 ∧
      ¬ bitsOf (word [(351, 48)]) 63 48 ≤ 350) ∧
    (let s := setAll readyState [(fCoolAge, 51), (fRelCoolant, 1)]; 50 < s.get fCoolAge ∧ s.flag fRelCoolant = true ∧
      readyState.flag fRelCoolant = false) := by
  decide +kernel

/-- An image of a header of version 1 and its parts, all zero but the length of the first. -/
def imageBytes : List Byte := bytesLE 8 (1 + 0x18 * 2 ^ 8 + 2 * 2 ^ 16 + 5 * 2 ^ 32) ++ bytesLE 8 64 ++ List.replicate 300 0

theorem meets_Management :
    (readyState.cro.aux = true ∧ readyState.sensor 70 = some 1 ∧ readyState.sensor 65535 = none ∧
      (readyState.set fMgtIbi 1).flag fMgtIbi = true ∧ readyState.ready = true ∧ (readyState.set fTwnRole 2).get fTwnRole = 2) ∧
    (let w := word [(1, 63), (5, 0)]; setsReserved (tenCfg 3) w = false ∧ quietState.flag (fTenValid 3) = true ∧
      quietState.tenRefusal 15 w ≠ 0 ∧ quietState.tenRefusal 15 (word [(1, 63), (4, 0)]) = 0 ∧
      quietState.tenRefusal 3 (word [(1, 63), (7, 0)]) = 0 ∧ quietState.flag (fTenValid 15) = false ∧ quietState.ready = true) ∧
    ((withCro (fun c => { c with log := [[1]] }) readyState).cro.log[0]? = some [1] ∧ readyState.cro.log[0]? = none) ∧
    ((setAll readyState [(fBootMode, 3)]).ready = false ∧ (setAll readyState [(fBootMode, 3)]).recHold = none ∧
      readyState.cro.recDelay = false ∧ readyState.cro.flashHeld = none ∧ readyState.logWait = []) ∧
    (let b (i : Nat) : Byte := imageBytes.getD i 0;
      192 + bitsOf (hdrWord b 1) 31 0 + bitsOf (hdrWord b 1) 63 32 ≤ imageBytes.length ∧ imageBytes.length ≤ 2 ^ 23) ∧
    (let b (i : Nat) : Byte := (List.replicate 192 (0 : Byte)).getD i 0;
      192 + bitsOf (hdrWord b 1) 31 0 + bitsOf (hdrWord b 1) 63 32 ≤ 192 ∧ (readyState.imageCheck b 192 1 matches .error _) = true ∧
      imageVerdict readyState b 192 = some 4) := by
  and_intros <;> decide +kernel

end Sys2Proof.Tests
end

/-! SUPPORT. The values of KF4 codes, of block scales and of superblock scales (03 R80, R87, R88)

A scale is an integer times a power of two. Counted in units of the least power of two that its format needs, it is a
natural number, and two scales compare as their counts do. -/

namespace Sys2Proof.Machine

/-! ## Exact fractions: an integer times a power of two -/

namespace Q

@[simp] theorem int_n (z : Int) : (int z).n = z := rfl
@[simp] theorem int_d (z : Int) : (int z).d = 1 := rfl
@[simp] theorem mul_n (a b : Q) : (mul a b).n = a.n * b.n := rfl
@[simp] theorem mul_d (a b : Q) : (mul a b).d = a.d * b.d := rfl

theorem pow2_d_pos (z : Int) : 0 < (pow2 z).d := by
  cases z with
  | ofNat k => exact Nat.one_pos
  | negSucc k => exact Nat.two_pow_pos (k + 1)

/-- `2^z` is `2^j` units of `2^(-k)` when `z = j - k`. -/
theorem pow2_units {z : Int} {j k : Nat} (h : z + k = j) : (pow2 z).n * 2 ^ k = 2 ^ j * ((pow2 z).d : Int) := by
  cases z with
  | ofNat i =>
    have hj : j = i + k := by simp only [Int.ofNat_eq_natCast] at h; omega
    simp [pow2, hj, pow_add]
  | negSucc i =>
    have hk : k = j + (i + 1) := by omega
    simp [pow2, hk, pow_add]

theorem int_mul_pow2_d_pos (a z : Int) : 0 < (mul (int a) (pow2 z)).d := by
  simpa using pow2_d_pos z

/-- `a × 2^z` is `a × 2^j` units of `2^(-k)` when `z = j - k`. -/
theorem int_mul_pow2_units (a : Int) {z : Int} {j k : Nat} (h : z + k = j) :
    (mul (int a) (pow2 z)).n * 2 ^ k = a * 2 ^ j * ((mul (int a) (pow2 z)).d : Int) := by
  simp only [mul_n, mul_d, int_n, int_d, one_mul, mul_assoc, pow2_units h]

/-- Fractions that are whole numbers of one unit compare as these numbers. -/
theorem lt_of_units {a b : Q} {u x y : Int} (hu : 0 < u) (ha : 0 < a.d) (hb : 0 < b.d)
    (hx : a.n * u = x * a.d) (hy : b.n * u = y * b.d) (hxy : x < y) : a.lt b = true := by
  have hd : (0 : Int) < a.d * b.d := by positivity
  have h : a.n * b.d * u < b.n * a.d * u :=
    calc a.n * b.d * u = x * (a.d * b.d) := by linear_combination (b.d : Int) * hx
      _ < y * (a.d * b.d) := mul_lt_mul_of_pos_right hxy hd
      _ = b.n * a.d * u := by linear_combination -(a.d : Int) * hy
  simpa [lt] using lt_of_mul_lt_mul_right h hu.le

end Q

/-! ## KF4 element codes (R80) -/

theorem gridKF4_magnitude (e m : Nat) (he : e ≠ 0) : 2 ^ e + m * 2 ^ (e - 1) = 2 ^ (e - 1) * (2 + m) := by
  obtain ⟨i, rfl⟩ := Nat.exists_eq_succ_of_ne_zero he
  simp only [Nat.succ_eq_add_one, Nat.add_sub_cancel, pow_succ]
  ring

theorem gridOfCode_KF4 {c : Nat} (hc : c < 16) :
    gridOfCode fmtKF4 c =
      let twice : Nat := if c / 2 % 4 = 0 then c % 2 else 2 ^ (c / 2 % 4 - 1) * (2 + c % 2)
      if 8 ≤ c then -(twice : Int) else twice := by
  have hsign : c / 8 % 2 = 1 ↔ 8 ≤ c := by omega
  have hgrid : gridOfCode fmtKF4 c = gridKF4 c := rfl
  rw [hgrid]
  unfold gridKF4
  simp only [hsign]
  by_cases he : c / 2 % 4 = 0
  · simp only [he, if_true]
  · simp only [he, if_false, gridKF4_magnitude _ _ he]

/-! ## Block scales (R87) -/

/-- The value of a block scale code in units of `2^(-17)`. -/
def blockScaleUnits (c : Nat) : Nat := if c / 8 = 0 then c % 8 else (8 + c % 8) * 2 ^ (c / 8 - 1)

theorem blockScaleUnits_subnormal {c : Nat} (he : c / 8 = 0) : blockScaleUnits c = c % 8 := if_pos he

theorem blockScaleUnits_normal {c : Nat} (he : 1 ≤ c / 8) : blockScaleUnits c = (8 + c % 8) * 2 ^ (c / 8 - 1) :=
  if_neg (by omega)

/-- The next code is one mantissa step further, or begins the next binade. -/
theorem blockScaleUnits_lt_succ (c : Nat) : blockScaleUnits c < blockScaleUnits (c + 1) := by
  have hpow : 0 < 2 ^ (c / 8 - 1) := Nat.two_pow_pos _
  by_cases hm : c % 8 = 7
  · have hnext : (c + 1) / 8 = c / 8 + 1 := by omega
    have hzero : (c + 1) % 8 = 0 := by omega
    rw [blockScaleUnits_normal (by omega : 1 ≤ (c + 1) / 8), hnext, hzero]
    by_cases he : c / 8 = 0
    · rw [blockScaleUnits_subnormal he, hm, he]; decide
    · have hbinade : 2 ^ (c / 8 + 1 - 1) = 2 * 2 ^ (c / 8 - 1) := by
        rw [← pow_succ']; congr 1; omega
      rw [blockScaleUnits_normal (by omega), hm, hbinade]
      omega
  · have hsame : (c + 1) / 8 = c / 8 := by omega
    have hstep : (c + 1) % 8 = c % 8 + 1 := by omega
    unfold blockScaleUnits
    rw [hsame, hstep]
    split
    · exact Nat.lt_succ_self _
    · exact Nat.mul_lt_mul_of_pos_right (by omega) hpow

theorem blockScaleUnits_strictMono : StrictMono blockScaleUnits := strictMono_nat_of_lt_succ blockScaleUnits_lt_succ

theorem e5m3_subnormal {c : Nat} (he : c / 8 = 0) :
    e5m3 c = Q.mul (Q.int (c % 8 : Nat)) (Q.pow2 (-17)) := by
  simp [e5m3, he]

theorem e5m3_normal {c : Nat} (hc : c < 256) (he : 1 ≤ c / 8) :
    e5m3 c = Q.mul (Q.int (8 + c % 8 : Nat)) (Q.pow2 ((c / 8 : Nat) - 18)) := by
  have hfield : c / 8 % 32 = c / 8 := Nat.mod_eq_of_lt (by omega)
  have hne : c / 8 ≠ 0 := by omega
  unfold e5m3
  simp only [hfield, if_neg hne]

theorem e5m3_d_pos (c : Nat) : 0 < (e5m3 c).d := by
  unfold e5m3
  dsimp only
  split <;> exact Q.int_mul_pow2_d_pos _ _

theorem e5m3_units {c : Nat} (hc : c < 256) : (e5m3 c).n * 2 ^ 17 = (blockScaleUnits c : Int) * (e5m3 c).d := by
  by_cases he : c / 8 = 0
  · rw [e5m3_subnormal he, blockScaleUnits_subnormal he]
    simpa using Q.int_mul_pow2_units (c % 8 : Nat) (z := -17) (j := 0) (k := 17) rfl
  · have h1 : 1 ≤ c / 8 := by omega
    rw [e5m3_normal hc h1, blockScaleUnits_normal h1]
    have hz : ((c / 8 : Nat) : Int) - 18 + (17 : Nat) = (c / 8 - 1 : Nat) := by omega
    rw [Q.int_mul_pow2_units _ hz]
    push_cast
    rfl

theorem e5m3_lt {c c' : Nat} (hc' : c' < 256) (h : c < c') : (e5m3 c).lt (e5m3 c') = true :=
  Q.lt_of_units (by positivity) (e5m3_d_pos c) (e5m3_d_pos c') (e5m3_units (h.trans hc')) (e5m3_units hc')
    (Int.ofNat_lt.2 (blockScaleUnits_strictMono h))

/-! ## Superblock scales (R88) -/

theorem sscaleValue_zero {c : Nat} (he : c / 256 = 0) : sscaleValue c = Q.zero := by
  simp [sscaleValue, he]

theorem sscaleValue_normal {c : Nat} (hc : c < 65536) (he : 1 ≤ c / 256) :
    sscaleValue c = Q.mul (Q.int (256 + c % 256 : Nat)) (Q.pow2 ((c / 256 : Nat) - 135)) := by
  have hfield : c / 256 % 256 = c / 256 := Nat.mod_eq_of_lt (by omega)
  have hne : c / 256 ≠ 0 := by omega
  unfold sscaleValue
  simp only [hfield, if_neg hne]

theorem sscaleValue_d_pos (c : Nat) : 0 < (sscaleValue c).d := by
  unfold sscaleValue
  dsimp only
  split
  · exact Nat.one_pos
  · exact Q.int_mul_pow2_d_pos _ _

theorem sscaleValue_units {c : Nat} (hc : c < 65536) (he : 1 ≤ c / 256) :
    (sscaleValue c).n * 2 ^ 134 = ((256 + c % 256) * 2 ^ (c / 256 - 1) * (sscaleValue c).d : Nat) := by
  have hz : ((c / 256 : Nat) : Int) - 135 + (134 : Nat) = (c / 256 - 1 : Nat) := by omega
  rw [sscaleValue_normal hc he, Q.int_mul_pow2_units _ hz]
  push_cast
  rfl

/-! ## The obligation -/

/-- Settles O21: a scale counted in units of its format's least power of two gives the values of R87 and R88; that a
larger block scale code means a larger scale follows from the count of units, which rises from each code to the next. -/
theorem codeValues : Obligations.CodeValues := by
  unfold Obligations.CodeValues
  refine ⟨fun c hc => gridOfCode_KF4 hc, fun c hc => ?blockScale, rfl, fun c hc => ?superblockScale, by decide⟩
  case blockScale =>
    refine ⟨e5m3_d_pos c, fun he => ?_, fun he => ?_, fun c' hc' h => e5m3_lt hc' h⟩
    · rw [e5m3_units hc, blockScaleUnits_subnormal he, ← Nat.cast_mul]
    · rw [e5m3_units hc, blockScaleUnits_normal he, ← Nat.cast_mul]
  case superblockScale =>
    exact ⟨sscaleValue_d_pos c, fun he => by rw [sscaleValue_zero he]; rfl, sscaleValue_units hc⟩

end Sys2Proof.Machine

/-! SUPPORT. The scalar loads and stores (04 R128, R129)

Each instruction of the two tables is one run of `State.load` or `State.store`; what that run does is decided by the
check of its offset, by the tensor queue and, for a load, by the words in error. -/

namespace Sys2Proof.Machine

variable {s : State} {c : Nat} {d a : Fin 32} {imm : BitVec 16} {n : Nat}

/-- The statements write the offset as an integer sum that wraps at 64 bits. -/
theorem effAddr_eq_ofInt (k : Core) (a : Fin 32) (imm : BitVec 16) :
    effAddr k a imm = BitVec.ofInt 64 ((k.sreg a).toNat + imm.toInt) := by
  rw [BitVec.ofInt_add, BitVec.ofInt_natCast, BitVec.ofNat_toNat, BitVec.setWidth_eq]
  rfl

/-! ## The check of the offset (R129) -/

theorem accessCheck_misaligned {o : Word} (h : o.toNat % n ≠ 0) : accessCheck o n = some (0x03, o.toNat) := if_pos h

theorem accessCheck_beyond {o : Word} (ha : o.toNat % n = 0) (h : 0x7FFF < o.toNat) :
    accessCheck o n = some (0x04, o.toNat) := by
  simp [accessCheck, ha, h]

theorem accessCheck_inside {o : Word} (ha : o.toNat % n = 0) (h : o.toNat ≤ 0x7FFF) : accessCheck o n = none := by
  simp [accessCheck, ha, h]

/-! ## Numbers and their bytes -/

theorem natAt_lt (s : State) (k n : Nat) : s.natAt k n < 2 ^ (8 * n) := by
  unfold State.natAt
  induction n generalizing k with
  | zero => simp [State.natAt.leNat']
  | succ n ih =>
    have hb := (s.byte k).isLt
    have ht := ih (k + 1)
    have hp : 2 ^ (8 * (n + 1)) = 256 * 2 ^ (8 * n) := by rw [Nat.mul_succ, Nat.pow_add]; omega
    rw [State.natAt.leNat', hp]
    omega

theorem bytesLE_length (n v : Nat) : (bytesLE n v).length = n := by
  induction n generalizing v with
  | zero => rfl
  | succ n ih => simp [bytesLE, ih]

theorem bytesLE_getElem? {n i : Nat} (v : Nat) (h : i < n) :
    (bytesLE n v)[i]? = some (BitVec.ofNat 8 (v / 256 ^ i % 256)) := by
  induction n generalizing v i with
  | zero => exact absurd h (Nat.not_lt_zero i)
  | succ n ih =>
    cases i with
    | zero => simp [bytesLE]
    | succ i => rw [bytesLE, List.getElem?_cons_succ, ih _ (Nat.lt_of_succ_lt_succ h), Nat.div_div_eq_div_mul, Nat.pow_succ']

/-- Sign extension of `n` bytes subtracts 2^(8n) from a number whose top bit is set. -/
theorem sextTo64_eq_extended {n v : Nat} (hn : 0 < n) (hv : v < 2 ^ (8 * n)) : sextTo64 n v = extended n true v := by
  have hp : 2 ^ (8 * n) = 2 * 2 ^ (8 * n - 1) := by rw [← Nat.pow_succ']; congr 1; omega
  unfold sextTo64 extended BitVec.signExtend
  rw [BitVec.toInt_eq_toNat_cond, BitVec.toNat_ofNat, Nat.mod_eq_of_lt hv]
  by_cases h : 2 ^ (8 * n - 1) ≤ v
  · rw [if_neg (by omega), if_pos ⟨rfl, h⟩]
    push_cast
    rfl
  · rw [if_pos (by omega), if_neg (fun hc => h hc.2), BitVec.ofInt_natCast]

theorem extended_spadNat (s : State) (c o : Nat) {n : Nat} (hn : 0 < n) (sign : Bool) :
    (if sign then sextTo64 n (s.spadNat c o n) else BitVec.ofNat 64 (s.spadNat c o n)) =
      extended n sign (s.spadNat c o n) := by
  cases sign with
  | false => simp [extended]
  | true => exact sextTo64_eq_extended hn (natAt_lt s _ n)

/-! ## Loads -/

theorem exec_of_mem_loadTable {e : (Nat → Fin 32 → Fin 32 → BitVec 16 → Instr) × Nat × Bool} (he : e ∈ loadTable)
    (s : State) (c : Nat) (d a : Fin 32) (imm : BitVec 16) :
    exec (e.1 c d a imm) s = .next (s.load c d a imm e.2.1 e.2.2) := by
  simp only [loadTable, List.mem_cons, List.not_mem_nil, or_false] at he
  rcases he with rfl | rfl | rfl | rfl | rfl | rfl | rfl <;> rfl

theorem size_pos_of_mem_loadTable : ∀ e ∈ loadTable, 0 < e.2.1 := by
  simp [loadTable]

theorem load_raises {e : Nat × Nat} (sign : Bool) (h : Ready s c [d, a] [])
    (he : accessCheck (effAddr (s.core c) a imm) n = some e) : s.load c d a imm n sign = s.raiseSync c e.1 e.2 := by
  simp only [State.load, issue_ready _ h, he]

theorem load_poisoned {w : Nat} (sign : Bool) (h : Ready s c [d, a] [])
    (he : accessCheck (effAddr (s.core c) a imm) n = none)
    (hx : (s.core c).extFree [((effAddr (s.core c) a imm).toNat, n)] [] = true)
    (hw : s.spadPoison c (effAddr (s.core c) a imm).toNat n = some w) :
    s.load c d a imm n sign = s.raiseSync c 0x05 w := by
  simp only [State.load, issue_ready _ h, he, hx, hw, if_true]

theorem load_stepped (sign : Bool) (hn : 0 < n) (h : ReadyMid s c [d, a] [])
    (he : accessCheck (effAddr (s.core c) a imm) n = none)
    (hx : (s.core c).extFree [((effAddr (s.core c) a imm).toNat, n)] [] = true)
    (hw : s.spadPoison c (effAddr (s.core c) a imm).toNat n = none) :
    Stepped s (s.load c d a imm n sign) c
      (fun k => k.setS d (extended n sign (s.spadNat c (effAddr (s.core c) a imm).toNat n))) := by
  simp only [State.load, issue_ready _ h.1, he, hx, hw, if_true, extended_spadNat s c _ hn sign]
  exact stepped_retire _ h.2 (setS_pc _ _ _)

theorem loadResultsRule : LoadResultsRule := by
  intro s c d a imm e he
  simp only [exec_of_mem_loadTable he, Completes, ← effAddr_eq_ofInt]
  refine ⟨fun h hal hin hx hw => ⟨_, rfl, ?_⟩, fun h hmis => ?_, fun h hal hout => ?_, fun w h hal hin hx hw => ?_⟩
  · exact load_stepped _ (size_pos_of_mem_loadTable e he) h (accessCheck_inside hal hin) hx hw
  · rw [load_raises _ h (accessCheck_misaligned hmis)]
  · rw [load_raises _ h (accessCheck_beyond hal hout)]
  · rw [load_poisoned _ h (accessCheck_inside hal hin) hx hw]

/-! ## Stores -/

theorem exec_of_mem_storeTable {e : (Nat → Fin 32 → Fin 32 → BitVec 16 → Instr) × Nat} (he : e ∈ storeTable)
    (s : State) (c : Nat) (d a : Fin 32) (imm : BitVec 16) :
    exec (e.1 c d a imm) s = .next (s.store c d a imm e.2) := by
  simp only [storeTable, List.mem_cons, List.not_mem_nil, or_false] at he
  rcases he with rfl | rfl | rfl | rfl <;> rfl

theorem spad_setSpad_bytesLE (s : State) (c o v : Nat) {n i : Nat} (h : i < n) :
    ((s.setSpad c o (bytesLE n v)).spad c (o + i)).toNat = v / 256 ^ i % 256 := by
  have ha : spadAddr c (o + i) = spadAddr c o + i := (Nat.add_assoc _ _ _).symm
  rw [State.spad, ha, byte_setSpad, if_pos (Nat.le_add_right _ _), Nat.add_sub_cancel_left, bytesLE_getElem? v h,
    Option.getD_some, BitVec.toNat_ofNat]
  exact Nat.mod_mod _ _

theorem byte_setSpad_outside (s : State) (c o : Nat) (bs : List Byte) {x : Nat}
    (h : x < spadAddr c o ∨ spadAddr c o + bs.length ≤ x) : (s.setSpad c o bs).byte x = s.byte x := by
  rw [byte_setSpad]
  rcases h with h | h
  · rw [if_neg (by omega)]
  · rw [if_pos (by omega), List.getElem?_eq_none (by omega), Option.getD_none]

theorem store_raises {e : Nat × Nat} (h : Ready s c [d, a] [])
    (he : accessCheck (effAddr (s.core c) a imm) n = some e) : s.store c d a imm n = s.raiseSync c e.1 e.2 := by
  simp only [State.store, issue_ready _ h, he]

theorem store_writes (h : Ready s c [d, a] []) (he : accessCheck (effAddr (s.core c) a imm) n = none)
    (hx : (s.core c).extFree [] [((effAddr (s.core c) a imm).toNat, n)] = true) :
    s.store c d a imm n =
      (s.setSpad c (effAddr (s.core c) a imm).toNat (bytesLE n ((s.core c).sreg d).toNat)).retire c := by
  simp only [State.store, issue_ready _ h, he, hx, if_true]

/-- Bytes written to the scratchpad, then the advance: beside the core, only memory and the words in error differ. -/
theorem stepped_setSpad_retire (s : State) {c : Nat} (o : Nat) (bs : List Byte) (h : (s.core c).pc ≠ 0x7FFC) :
    let t := (s.setSpad c o bs).retire c
    (∀ x, t.byte x = (s.setSpad c o bs).byte x) ∧ Stepped { s with mem := t.mem, badWords := t.badWords } t c id := by
  have hp : ((s.setSpad c o bs).core c).pc ≠ 0x7FFC := h
  have hstep := stepped_retire_id hp
  rw [retire_mid hp] at hstep ⊢
  exact ⟨fun _ => rfl, hstep⟩

theorem storeResultsRule : StoreResultsRule := by
  intro s c d a imm e he
  simp only [exec_of_mem_storeTable he, Completes, ← effAddr_eq_ofInt]
  refine ⟨fun h hal hin hx => ⟨_, rfl, ?_⟩, fun h hmis => ?_, fun h hal hout => ?_⟩
  · rw [store_writes h.1 (accessCheck_inside hal hin) hx]
    obtain ⟨hbyte, hstep⟩ := stepped_setSpad_retire s (effAddr (s.core c) a imm).toNat
      (bytesLE e.2 ((s.core c).sreg d).toNat) h.2
    refine ⟨fun i hi => ?_, fun x hx => ?_, hstep⟩
    · rw [State.spad, hbyte]
      exact spad_setSpad_bytesLE s c _ _ hi
    · rw [hbyte]
      exact byte_setSpad_outside s c _ _ (by rwa [bytesLE_length])
  · rw [store_raises h (accessCheck_misaligned hmis)]
  · rw [store_raises h (accessCheck_beyond hal hout)]

/-- Settles O14: every load and store of the tables is one run of `State.load` or `State.store`, whose checks come in the
statement's order. -/
theorem loadsAndStores : Obligations.LoadsAndStores := ⟨loadResultsRule, storeResultsRule⟩

end Sys2Proof.Machine

/-! SUPPORT. The branches and jumps (04 R131)

A branch is one run of `State.branch` with its comparison, JAL and JALR are runs of `State.link`; both end in `State.jump`
or raise. -/

namespace Sys2Proof.Machine

variable {s : State} {c : Nat} {d a b : Fin 32} {off : BitVec 16} {p : Word → Word → Bool} {target : Word}

/-- The statements write a relative target as an integer sum that wraps at 64 bits. -/
theorem relTarget_eq_ofInt (pc : Nat) (words : Int) : relTarget pc words = BitVec.ofInt 64 ((pc : Int) + 4 * words) := rfl

/-- A change of the core, then a jump. -/
theorem jump_modCore (s : State) (c : Nat) (f : Core → Core) (target : Nat) :
    ((s.modCore c f).jump c target).core c = { f (s.core c) with pc := target, wait := none } ∧
      OnlyCore s ((s.modCore c f).jump c target) c := by
  refine ⟨?_, (onlyCore_modCore s c f).trans (onlyCore_modCore _ c _)⟩
  rw [State.jump, core_modCore_same, core_modCore_same]

theorem jump_core (s : State) (c target : Nat) :
    (s.jump c target).core c = { s.core c with pc := target, wait := none } ∧ OnlyCore s (s.jump c target) c :=
  ⟨core_modCore_same s c _, onlyCore_modCore s c _⟩

/-! ## Branches -/

theorem beq_eq_decide_toNat (x y : Word) : (x == y) = decide (x.toNat = y.toNat) := by
  rw [beq_eq_decide, decide_eq_decide, BitVec.toNat_inj]

theorem bne_eq_decide_toNat (x y : Word) : (x != y) = decide (x.toNat ≠ y.toNat) := by
  rw [bne, beq_eq_decide_toNat, ← decide_not]

theorem not_slt_eq_decide (x y : Word) : (!x.slt y) = decide (y.toInt ≤ x.toInt) := by
  rw [BitVec.slt, ← decide_not, decide_eq_decide, not_lt]

theorem not_ult_eq_decide (x y : Word) : (!x.ult y) = decide (y.toNat ≤ x.toNat) := by
  rw [BitVec.ult, ← decide_not, decide_eq_decide, not_lt]

theorem exec_of_mem_branchTable {e : (Nat → Fin 32 → Fin 32 → BitVec 16 → Instr) × (Word → Word → Bool)}
    (he : e ∈ branchTable) (s : State) (c : Nat) (a b : Fin 32) (off : BitVec 16) :
    exec (e.1 c a b off) s = .next (s.branch c a b off e.2) := by
  simp only [branchTable, List.mem_cons, List.not_mem_nil, or_false, ← beq_eq_decide_toNat, ← bne_eq_decide_toNat,
    ← not_slt_eq_decide, ← not_ult_eq_decide] at he
  rcases he with rfl | rfl | rfl | rfl | rfl | rfl <;> rfl

theorem branch_untaken (h : Ready s c [a, b] []) (hp : p ((s.core c).sreg a) ((s.core c).sreg b) = false) :
    s.branch c a b off p = s.retire c := by
  simp [State.branch, issue_ready _ h, hp]

theorem branch_taken (h : Ready s c [a, b] []) (hp : p ((s.core c).sreg a) ((s.core c).sreg b) = true) :
    s.branch c a b off p = s.branchTo c (relTarget (s.core c).pc off.toInt) := by
  simp [State.branch, issue_ready _ h, hp]

theorem branchTo_inside (h : target.toNat ≤ 0x7FFC) : s.branchTo c target = s.jump c target.toNat :=
  if_neg (Nat.not_lt.2 h)

theorem branchTo_beyond (h : 0x7FFC < target.toNat) : s.branchTo c target = s.raiseSync c 0x04 target.toNat := if_pos h

theorem branchResultsRule : BranchResultsRule := by
  intro s c a b off e he h
  simp only [exec_of_mem_branchTable he, Completes, ← relTarget_eq_ofInt]
  refine ⟨fun hp hpc => ⟨_, rfl, ?_⟩, fun hp hin => ⟨_, rfl, ?_⟩, fun hp hout => ?_⟩
  · rw [branch_untaken h hp]
    exact stepped_retire_id hpc
  · rw [branch_taken h hp, branchTo_inside hin]
    exact jump_core s c _
  · rw [branch_taken h hp, branchTo_beyond hout]

/-! ## Jumps -/

theorem exec_jal {off : BitVec 21} (h : Ready s c [d] []) :
    exec (.jal c d off) s = .next (s.link c d (relTarget (s.core c).pc off.toInt)) := by
  rw [← issue_ready (fun k => s.link c d (relTarget k.pc off.toInt)) h]
  rfl

theorem exec_jalr {imm : BitVec 16} (h : Ready s c [d, a] []) :
    exec (.jalr c d a imm) s = .next (s.link c d (effAddr (s.core c) a imm)) := by
  rw [← issue_ready (fun k => s.link c d (effAddr k a imm)) h]
  rfl

theorem link_misaligned (h : target.toNat % 4 ≠ 0) : s.link c d target = s.raiseSync c 0x03 target.toNat := if_pos h

theorem link_beyond (ha : target.toNat % 4 = 0) (h : 0x7FFC < target.toNat) :
    s.link c d target = s.raiseSync c 0x04 target.toNat := by
  simp [State.link, ha, h]

theorem link_inside (ha : target.toNat % 4 = 0) (h : target.toNat ≤ 0x7FFC) :
    (s.link c d target).core c =
        { (s.core c).setS d (BitVec.ofNat 64 ((s.core c).pc + 4)) with pc := target.toNat, wait := none } ∧
      OnlyCore s (s.link c d target) c := by
  rw [State.link, if_neg (not_not.2 ha), if_neg (Nat.not_lt.2 h)]
  exact jump_modCore s c _ _

theorem jumpResultsRule : JumpResultsRule := by
  intro s c d a off imm
  simp only [← effAddr_eq_ofInt, ← relTarget_eq_ofInt]
  refine ⟨fun h hal hin => ⟨_, exec_jal h, link_inside hal hin⟩, fun h hal hout => ?_,
    fun h hal hin => ⟨_, exec_jalr h, link_inside hal hin⟩, fun h hmis => ?_, fun h hal hout => ?_⟩
  · rw [exec_jal h, link_beyond hal hout]
  · rw [exec_jalr h, link_misaligned hmis]
  · rw [exec_jalr h, link_beyond hal hout]

/-- Settles O15: a branch jumps, passes on or raises by its comparison and its target, and a linking jump by its target
alone. -/
theorem branchesAndJumps : Obligations.BranchesAndJumps := ⟨branchResultsRule, jumpResultsRule⟩

end Sys2Proof.Machine
